-- ==== Sys2Proof/Word.lean ====
section
/-! DEFINITION. The widths the manual fixes, and the two shapes that recur in its tables: "per channel n = 0..7"
(00_scope.md, Signals) and "for each console" (desk A and desk B). Plain data and plain access, nothing else. -/

namespace Sys2Proof

/-- One byte of a console-link frame (R163). -/
abbrev Byte := BitVec 8

/-- A reading of the timebase: microseconds, 32 bits, wrapping (03_chain_position_and_speed.md, before R46). -/
abbrev Time := BitVec 32

/-- A timer: `none` while it does not run, `some e` while it runs and expires when the timebase reads `e`. -/
abbrev Timer := Option Time

/-- A channel number 0..7 (00_scope.md, Numbering). -/
abbrev Channel := Fin 8

/-- A load input number 0..7 (00_scope.md, Numbering). -/
abbrev LoadInput := Fin 8

/-- A console group number 0..3 (00_scope.md, Numbering). -/
abbrev ConsoleGroup := Fin 4

/-- A set of channels or of load inputs, bit n for member n (R184). -/
abbrev EightSet := BitVec 8

/-- A set of console groups, bit g for group g (R184). -/
abbrev GroupSet := BitVec 4

/-- A set of notice kinds: bit m for the notice whose member number is m, 0..52 (R178, R184). -/
abbrev NoticeSet := BitVec 53

/-- A set of fault kinds: bit k for the kind whose code is k, 0..10 (R9, 11_frame_and_record_layouts.md). -/
abbrev FaultSet := BitVec 11

/-- A set of trip classes: bits 0..4 for SYNC, LOAD, BRAKE, DRIVE and POSITION (R184). -/
abbrev ClassSet := BitVec 5

/-- One thing for each of the eight channels. -/
structure Chans (α : Type) where
  c0 : α
  c1 : α
  c2 : α
  c3 : α
  c4 : α
  c5 : α
  c6 : α
  c7 : α
deriving DecidableEq, Repr

namespace Chans

/-- The same thing for every channel. -/
def all {α : Type} (x : α) : Chans α := ⟨x, x, x, x, x, x, x, x⟩

/-- The entry of channel `i`. -/
def get {α : Type} (v : Chans α) (i : Channel) : α :=
  match i.val with
  | 0 => v.c0
  | 1 => v.c1
  | 2 => v.c2
  | 3 => v.c3
  | 4 => v.c4
  | 5 => v.c5
  | 6 => v.c6
  | _ => v.c7

/-- `v` with the entry of channel `i` replaced. -/
def set {α : Type} (v : Chans α) (i : Channel) (x : α) : Chans α :=
  match i.val with
  | 0 => { v with c0 := x }
  | 1 => { v with c1 := x }
  | 2 => { v with c2 := x }
  | 3 => { v with c3 := x }
  | 4 => { v with c4 := x }
  | 5 => { v with c5 := x }
  | 6 => { v with c6 := x }
  | _ => { v with c7 := x }

/-- Every entry changed by `f`, which may look at the channel's number. -/
def mapIdx {α β : Type} (v : Chans α) (f : Channel → α → β) : Chans β :=
  ⟨f 0 v.c0, f 1 v.c1, f 2 v.c2, f 3 v.c3, f 4 v.c4, f 5 v.c5, f 6 v.c6, f 7 v.c7⟩

end Chans

/-- The channel numbers in ascending order (00_scope.md, Sets and lists). -/
def channels : List Channel := [0, 1, 2, 3, 4, 5, 6, 7]

/-- The console group numbers in ascending order. -/
def consoleGroups : List ConsoleGroup := [0, 1, 2, 3]

end Sys2Proof
end

