-- ==== Sys2Proof/Syntax.lean ====
section
/-! DEFINITION. The commands of the block: one constructor of `Instr` for each row of spec/opcode_table.json, with the
operands that the row's rule gives the event or the request. A request carries its raw payload bytes, so that the checks
of R171 and R184 are the model's work and not assumed. -/

namespace Sys2Proof

/-- The two rigging desks, each on its own link (05_masters_and_selection.md). -/
inductive Console where
  | a
  | b
deriving DecidableEq, Repr

/-- The other desk. -/
def Console.other : Console → Console
  | .a => .b
  | .b => .a

/-- A direction of travel, UP or DOWN. -/
inductive Dir where
  | up
  | down
deriving DecidableEq, Repr

/-- The opposite direction. -/
def Dir.opposite : Dir → Dir
  | .up => .down
  | .down => .up

/-- The levels of ENCAn and ENCBn (R47). -/
structure EncPair where
  a : Bool
  b : Bool
deriving DecidableEq, Repr

/-- The upper or the lower one: of two soft limits (R18), of two hard limit switches (R15). -/
inductive Side where
  | upper
  | lower
deriving DecidableEq, Repr

/-- The five groups: four console groups and the pendant group (00_scope.md, Numbering). -/
inductive GroupId where
  | console (g : ConsoleGroup)
  | pendant
deriving DecidableEq, Repr

/-- The pendant lines that start and stop a pendant jog (R98). -/
inductive PendantLine where
  | penb
  | pup
  | pdn
deriving DecidableEq, Repr

/-- How a GO, HOLD or STOP frame is addressed (R168, R169). -/
inductive Addressing where
  | addressed
  | broadcast
deriving DecidableEq, Repr

/-- Why a frame is dropped (R163, R164, R166, R167, R168). -/
inductive DiscardReason where
  | badCrc
  | lengthAbove64
  | framingError
  | otherAddress
  | noStationAddress
deriving DecidableEq, Repr

/-- What the lines show at the end of a power-on reset: the address straps (R167), the control supply in millivolts
(R157) and each channel's encoder pair (R46). -/
structure ResetPins where
  straps : BitVec 5
  vctl   : Nat
  enc    : Chans EncPair
deriving DecidableEq, Repr

/-- One constructor per row of spec/opcode_table.json, in the table's order. -/
inductive Instr where
  /-- POWER_ON_RESET (R1): the lines as they stand when the reset ends. -/
  | powerOnReset (pins : ResetPins)
  /-- INITIAL_CONDITION_SETTLE (R1): bit n of each set is 1 where THRn, ULIMn, LLIMn is open. -/
  | initialConditionSettle (thr ulim llim : EightSet)
  /-- ESTIN_FIRST_SETTLE (R149). -/
  | estinFirstSettle (closed : Bool)
  /-- THERMAL_CHANGE (R14). -/
  | thermalChange (ch : Channel) (isOpen : Bool)
  /-- LIMIT_SWITCH_CHANGE (R15): ULIMn (upper) or LLIMn (lower). -/
  | limitSwitchChange (ch : Channel) (side : Side) (isOpen : Bool)
  /-- CURRENT_SENSE_CHANGE (R34). -/
  | currentSenseChange (ch : Channel) (active : Bool)
  /-- BRAKE_FEEDBACK_CHANGE (R28). -/
  | brakeFeedbackChange (ch : Channel) (released : Bool)
  /-- ENCODER_CHANGE (R47): the pair now seen. -/
  | encoderChange (ch : Channel) (seen : EncPair)
  /-- TORQUE_TIMER_EXPIRY (R27). -/
  | torqueTimerExpiry (ch : Channel)
  /-- BRAKE_TIMER_EXPIRY (R28). -/
  | brakeTimerExpiry (ch : Channel)
  /-- BRAKE_SET_TIME_EXPIRY (R32). -/
  | brakeSetTimeExpiry (ch : Channel)
  /-- STOP_HOLD_EXPIRY (R30). -/
  | stopHoldExpiry (ch : Channel)
  /-- STUCK_CONTACTOR_TIMEOUT (R34). -/
  | stuckContactorTimeout (ch : Channel)
  /-- REVERSAL_DWELL_EXPIRY (R35). -/
  | reversalDwellExpiry (ch : Channel)
  /-- MAINSFB_CHANGE (R44). -/
  | mainsfbChange (closed : Bool)
  /-- CLOSING_TIMER_EXPIRY (R43). -/
  | closingTimerExpiry
  /-- SETTLING_TIMER_EXPIRY (R43). -/
  | settlingTimerExpiry
  /-- REFERENCE_PERIOD_START (R38). -/
  | referencePeriodStart (ch : Channel)
  /-- SPEED_TIMEOUT_EXPIRY (R53). -/
  | speedTimeoutExpiry (ch : Channel)
  /-- NO_MOTION_EXPIRY (R59). -/
  | noMotionExpiry (ch : Channel)
  /-- CONVERSION_COMPLETE (R69): the raw reading of the conversion in flight, 0..4095. -/
  | conversionComplete (raw : BitVec 12)
  /-- ESTIN_CHANGE (R151). -/
  | estinChange (closed : Bool)
  /-- PSTOP_CHANGE (R150). -/
  | pstopChange (closed : Bool)
  /-- RSTIN_CHANGE (R155). -/
  | rstinChange (asserted : Bool)
  /-- VCTL_BELOW_THRESHOLD (R157): VCTL in millivolts. -/
  | vctlBelowThreshold (mv : Nat)
  /-- VCTL_AT_THRESHOLD (R157): VCTL in millivolts. -/
  | vctlAtThreshold (mv : Nat)
  /-- VCTL_ABOVE_HYSTERESIS (R159): VCTL in millivolts. -/
  | vctlAboveHysteresis (mv : Nat)
  /-- LOW_TIMER_EXPIRY (R158). -/
  | lowTimerExpiry
  /-- PSEL_CHANGE (R95). -/
  | pselChange (ch : Channel) (closed : Bool)
  /-- PPRES_CHANGE (R96). -/
  | ppresChange (present : Bool)
  /-- PENDANT_CONTROL_CHANGE (R98). -/
  | pendantControlChange (line : PendantLine) (active : Bool)
  /-- LINK_TIMER_EXPIRY (R84). -/
  | linkTimerExpiry (c : Console)
  /-- HOLD_DEADLINE_EXPIRY (R92). -/
  | holdDeadlineExpiry (g : ConsoleGroup)
  /-- START_TIMER_EXPIRY (R120). -/
  | startTimerExpiry (g : GroupId)
  /-- GROUP_UPDATE (R125). -/
  | groupUpdate (g : GroupId)
  /-- HOLD_TIMER_EXPIRY (R140). -/
  | holdTimerExpiry (g : GroupId)
  /-- FINISH_TIMER_EXPIRY (R136). -/
  | finishTimerExpiry (g : GroupId)
  /-- GAP_TIMER_EXPIRY (R165). -/
  | gapTimerExpiry (c : Console)
  /-- FRAME_DISCARDED (R164). -/
  | frameDiscarded (c : Console) (why : DiscardReason)
  /-- UNKNOWN_REQUEST (R171): an addressed frame with this CODE. -/
  | unknownRequest (c : Console) (code : Byte) (payload : List Byte)
  /-- IGNORED_BROADCAST (R169): a broadcast frame with this CODE. -/
  | ignoredBroadcast (c : Console) (code : Byte) (payload : List Byte)
  /-- RESPONSE_SENT (R173). -/
  | responseSent (c : Console)
  /-- READ_PART (R175). -/
  | readPart (c : Console) (payload : List Byte)
  /-- READ_CHANNEL (R23). -/
  | readChannel (c : Console) (payload : List Byte)
  /-- READ_GROUP (R123). -/
  | readGroup (c : Console) (payload : List Byte)
  /-- READ_QUEUE (R123). -/
  | readQueue (c : Console) (payload : List Byte)
  /-- READ_NOTICES (R182). -/
  | readNotices (c : Console) (payload : List Byte)
  /-- SELECT (R81). -/
  | select (c : Console) (payload : List Byte)
  /-- RELEASE (R82). -/
  | release (c : Console) (payload : List Byte)
  /-- FORCE_RELEASE (R87). -/
  | forceRelease (c : Console) (payload : List Byte)
  /-- TAKE_GROUP (R88). -/
  | takeGroup (c : Console) (payload : List Byte)
  /-- CONFIG_CHANNEL (R22). -/
  | configChannel (c : Console) (payload : List Byte)
  /-- SET_UPPER (R19). -/
  | setUpper (c : Console) (payload : List Byte)
  /-- SET_LOWER (R19). -/
  | setLower (c : Console) (payload : List Byte)
  /-- SET_POSITION (R17). -/
  | setPosition (c : Console) (payload : List Byte)
  /-- SET_ENVELOPE (R76). -/
  | setEnvelope (c : Console) (payload : List Byte)
  /-- SET_LOAD_INPUT (R65). -/
  | setLoadInput (c : Console) (payload : List Byte)
  /-- SET_LOAD_CAL (R72). -/
  | setLoadCal (c : Console) (payload : List Byte)
  /-- CLEAR_FAULTS (R12). -/
  | clearFaults (c : Console) (payload : List Byte)
  /-- SET_GROUP (R105). -/
  | setGroup (c : Console) (payload : List Byte)
  /-- DISBAND (R106). -/
  | disband (c : Console) (payload : List Byte)
  /-- LOAD_CUE (R107). -/
  | loadCue (c : Console) (payload : List Byte)
  /-- CLEAR_QUEUE (R108). -/
  | clearQueue (c : Console) (payload : List Byte)
  /-- GO (R109). -/
  | go (c : Console) (via : Addressing) (payload : List Byte)
  /-- HOLD (R91). -/
  | hold (c : Console) (via : Addressing) (payload : List Byte)
  /-- STOP (R118). -/
  | stop (c : Console) (via : Addressing) (payload : List Byte)
  /-- JOG (R112). -/
  | jog (c : Console) (payload : List Byte)
  /-- RESET_GROUP (R121). -/
  | resetGroup (c : Console) (payload : List Byte)
  /-- POWER_ON (R42): the POWER request with the value ON. -/
  | powerOn (c : Console)
  /-- POWER_OFF (R42): the POWER request with the value OFF. -/
  | powerOff (c : Console)
  /-- RESET_ESTOP (R153). -/
  | resetEstop (c : Console) (payload : List Byte)
  /-- SET_MASK (R180). -/
  | setMask (c : Console) (payload : List Byte)
  /-- ACK_NOTICES (R181). -/
  | ackNotices (c : Console) (payload : List Byte)
  /-- SET_PART (R176). -/
  | setPart (c : Console) (payload : List Byte)
  /-- RESTART (R177). -/
  | restart (c : Console) (payload : List Byte)
  /-- REQUEST_CHARACTER_RECEIVED (R165): a character with a good stop bit. -/
  | requestCharacterReceived (c : Console) (b : Byte)
deriving DecidableEq, Repr

end Sys2Proof
end

