-- ==== Sys2Proof/Decode.lean ====
section
/-! DEFINITION. The table gives no bits for any of its 76 rows: a command is an event or a request, not a word. The
bytes of a request frame are read by the link interface (Machine/Link.lean and Machine/Operands.lean). -/

namespace Sys2Proof

/-- The command that a word spells by the table's bits: none, since no row of the table has bits. -/
def decodeTableWord (_nbits _w : Nat) : Option Instr := none

end Sys2Proof
end

