-- ==== Sys2Proof/Config.lean ====
section
/-! DEFINITION. What is fixed outside the block, and the free values: the levels that the lines show when the power-on
reset of `State.reset` ends (log entry 2), and the values that the manual leaves open (log entry 5). -/

namespace Sys2Proof.Config

/-- The lines at the end of the reset that leads to `State.reset`. DESIGN CHOICE (unsafe, log entry 2): the manual gives
no level for an input line. The straps read 1, so that the rack has a station address (R167). VCTL is its nominal 24 V
(00_scope.md, the electrical table). Both lines of every encoder are low. -/
def pinsAtReset : ResetPins :=
  { straps := 1, vctl := 24000, enc := Chans.all ⟨false, false⟩ }

/-- FREE VALUE (log entry 5): the n-th byte that a response carries where the manual names a field of its payload and
gives it no value. Nothing constrains it. -/
opaque freeByte : Nat → Byte

end Sys2Proof.Config
end

