-- ==== Sys2Proof/Machine/State.lean ====
section
/-! DEFINITION. The state of the block as plain data, block by block (00_scope.md, Block overview), the reasons a step
can stop with, and the state right after a power-on reset. -/

namespace Sys2Proof.Machine

/-- The hoist type of a channel (R2). -/
inductive Kind where
  | absent
  | fixedSpeed
  | variableSpeed
deriving DecidableEq, Repr

/-- The form of a stop (R7). -/
inductive StopForm where
  | controlled
  | quick
deriving DecidableEq, Repr

/-- The channel states (01_hoist_channels.md, Channel states). A STOPPING channel is recorded with the form of its stop
(R29, R31). -/
inductive ChanState where
  | off
  | parked
  | starting
  | running
  | stopping (form : StopForm)
  | faulted
deriving DecidableEq, Repr

/-- The window state of a pair of soft limits (R18). -/
inductive WindowState where
  | none
  | opened
  | valid
deriving DecidableEq, Repr

/-- The holder of a channel, the owner of a group (R80, 06_motion_groups_and_cue_queues.md). -/
inductive Holder where
  | none
  | console (c : Console)
  | pendant
deriving DecidableEq, Repr

/-- The eleven fault kinds, in the order of their codes (R9, 11_frame_and_record_layouts.md). -/
inductive FaultKind where
  | brakeNoRelease
  | brakeNoSet
  | brakeSlip
  | noCurrent
  | stuckContactor
  | wrongDirection
  | noMotion
  | overload
  | underload
  | loadcell
  | encoder
deriving DecidableEq, Repr

/-- The configuration fields of a channel record (R21, R22). -/
structure ChanConfig where
  kind       : Kind
  ratedSpeed : Nat
  ratedLoad  : Nat
  gainK      : Nat
  coast      : Nat
  bfbFitted  : Bool
  torqueTime : Nat
  brakeTime  : Nat
  stopHold   : Nat
  dwell      : Nat
  slipCount  : Nat
  refCode    : Nat
deriving DecidableEq, Repr

/-- The stuck-contactor watch of a channel (R34): no spell, a spell being timed, a spell already reported. -/
inductive StuckWatch where
  | idle
  | timing (expiry : Time)
  | reported
deriving DecidableEq, Repr

/-- The lines, debounced inputs and sequence timers of a channel's output stage (R24 to R35). The brake-set confirmation
runs while `confirmTimer` runs: it is stopped when the brake has shown set (R28, R32, R33). -/
structure Output where
  raise         : Bool
  lower         : Bool
  brk           : Bool
  cs            : Bool
  /-- debounced BFBn: true while it shows the brake released -/
  bfb           : Bool
  torqueTimer   : Timer
  brakeTimer    : Timer
  stopHoldTimer : Timer
  confirmTimer  : Timer
  dwellTimer    : Timer
  stuck         : StuckWatch
deriving DecidableEq, Repr

/-- A reference generator (R37 to R40). Its frequency code is the channel's `cfg.refCode`; `periodCode` is the code that
gives the length of the current period. -/
structure RefGen where
  duty        : Nat
  pendingDuty : Option Nat
  periodCode  : Nat
  periodStart : Time
deriving DecidableEq, Repr

/-- The bound flag of a position counter (R51). -/
inductive BoundFlag where
  | none
  | low
  | high
deriving DecidableEq, Repr

/-- The edge capture (R53): the times of up to two legal edges. -/
inductive Capture where
  | empty
  | one (t : Time)
  | two (earlier later : Time)
deriving DecidableEq, Repr

/-- A channel's items of the position unit (03_chain_position_and_speed.md); position and referenced are in the channel
record. -/
structure PosUnit where
  held         : EncPair
  bound        : BoundFlag
  lastEdge     : Option Dir
  capture      : Capture
  speed        : Nat
  speedTimeout : Timer
  slip         : Int
  slipStopped  : Bool
  slipArmed    : Bool
  wrongDir     : Int
  noMotion     : Timer
deriving DecidableEq, Repr

/-- The load state of a channel (R63). -/
inductive LoadStatus where
  | none
  | unknown
  | valid
  | fault
deriving DecidableEq, Repr

/-- A channel's items of the load unit (04_load_measurement_and_envelopes.md). -/
structure LoadUnit where
  input      : Option LoadInput
  zero       : Nat
  gain       : Nat
  raw        : Option Nat
  ring       : List Nat
  filtered   : Nat
  status     : LoadStatus
  overCount  : Nat
  underCount : Nat
deriving DecidableEq, Repr

/-- A channel record (01_hoist_channels.md, The channel record) with the channel's items in the output stage, the
position unit and the load unit. -/
structure Chan where
  cfg          : ChanConfig
  state        : ChanState
  position     : Nat
  referenced   : Bool
  window       : WindowState
  upper        : Nat
  lower        : Nat
  pendingLimit : Option (Side × Nat)
  holder       : Holder
  group        : Option GroupId
  envMin       : Nat
  envMax       : Nat
  faults       : FaultSet
  thermal      : Bool
  upperOpen    : Bool
  lowerOpen    : Bool
  lastDir      : Option Dir
  startPending : Option Dir
  out          : Output
  gen          : RefGen
  pos          : PosUnit
  load         : LoadUnit
deriving DecidableEq, Repr

/-- The states of a group (06_motion_groups_and_cue_queues.md). -/
inductive GroupState where
  | idle
  | starting
  | moving
  | holding
  | stopping
  | paused
  | tripped
deriving DecidableEq, Repr

/-- A move is a cue move to targets or a jog in one direction. -/
inductive MoveKind where
  | cue
  | jog
deriving DecidableEq, Repr

/-- What follows a completed cue (R116). -/
inductive Follow where
  | stopAtEnd
  | autoNext
deriving DecidableEq, Repr

/-- A cue record (R107). The entries are kept in the order received (R185). -/
structure Cue where
  tag     : Nat
  speed   : Nat
  ramp    : Nat
  follow  : Follow
  entries : List (Channel × Nat)
deriving DecidableEq, Repr

/-- The ten windows of a group. -/
structure Windows where
  trimOn         : Nat
  trimOff        : Nat
  holdLag        : Nat
  releaseLag     : Nat
  tripLag        : Nat
  tripLead       : Nat
  arriveBand     : Nat
  settleBand     : Nat
  holdTimeout    : Nat
  shareTolerance : Nat
deriving DecidableEq, Repr

/-- The trip causes (R160); a CHANNEL_FAULT carries its fault kind. -/
inductive TripCause where
  | syncLag
  | syncLead
  | syncStall
  | startTimeout
  | loadShift
  | limitSwitch
  | referenceLost
  | channelFault (k : FaultKind)
  | estop
  | supplyLow
  | supplyLost
deriving DecidableEq, Repr

/-- A trip record (R119). -/
structure TripRecord where
  cause   : TripCause
  channel : Option Channel
  further : Nat
deriving DecidableEq, Repr

/-- The phase of a move (07_profile_and_synchronisation.md). -/
inductive Phase where
  | none
  | accel
  | cruise
  | decel
  | stopping
deriving DecidableEq, Repr

/-- What a plan fixes for one member (R126, R143). -/
structure MemberPlan where
  start  : Nat
  target : Nat
  dist   : Nat
  dir    : Dir
  veff   : Nat
deriving DecidableEq, Repr

/-- The per-member items of a profile record. -/
structure Member where
  plan       : Option MemberPlan
  arrived    : Bool
  trimPaused : Bool
  err        : Int
  refShare   : Option Nat
  viol       : Nat
deriving DecidableEq, Repr

/-- The load-share check of a move (R146). -/
inductive LoadCheck where
  | undecided
  | on
  | off
deriving DecidableEq, Repr

/-- A profile record (07_profile_and_synchronisation.md, The profile record). -/
structure Profile where
  phase       : Phase
  p           : Nat
  j           : Nat
  q           : Nat
  qCruise     : Nat
  a           : Nat
  jMax        : Option Nat
  dir         : Dir
  members     : Chans Member
  loadCheck   : LoadCheck
  holdTimer   : Timer
  finishTimer : Timer
deriving DecidableEq, Repr

/-- A group record (06_motion_groups_and_cue_queues.md, The group record) with the arbiter's hold deadline of the group
(R90) and the speed fraction and ramp time that its last JOG stored (R112). The member set is not here: it is the set of
the channels whose group field names the group (R103). -/
structure Group where
  owner       : Holder
  interval    : Nat
  windows     : Windows
  state       : GroupState
  moveKind    : MoveKind
  queue       : List Cue
  prof        : Profile
  startTimer  : Timer
  updateTimer : Timer
  trip        : Option TripRecord
  deadline    : Timer
  jogSpeed    : Nat
  jogRamp     : Nat
deriving DecidableEq, Repr

/-- The five group records. -/
structure Groups where
  g0      : Group
  g1      : Group
  g2      : Group
  g3      : Group
  pendant : Group
deriving DecidableEq, Repr

/-- The drive supply states (R41). -/
inductive SupplyState where
  | off
  | closing
  | settling
  | on
  | failed
deriving DecidableEq, Repr

/-- The drive supply contactor (R41 to R45). -/
structure Supply where
  state         : SupplyState
  mains         : Bool
  mainsfb       : Bool
  closingTimer  : Timer
  settlingTimer : Timer
deriving DecidableEq, Repr

/-- A conversion in flight (R67, R68). -/
structure Conversion where
  input   : LoadInput
  start   : Time
  discard : Bool
deriving DecidableEq, Repr

/-- The link states (R84). -/
inductive LinkState where
  | silent
  | active
  | lost
deriving DecidableEq, Repr

/-- A console's link as the arbiter keeps it (R84). -/
structure Link where
  state : LinkState
  timer : Timer
deriving DecidableEq, Repr

/-- One thing for each of the two consoles. -/
structure ByConsole (α : Type) where
  ca : α
  cb : α
deriving DecidableEq, Repr

/-- The selection arbiter (05_masters_and_selection.md), less the holders and the hold deadlines. -/
structure Arbiter where
  links       : ByConsole Link
  psel        : EightSet
  pup         : Bool
  pdn         : Bool
  penb        : Bool
  pstopClosed : Bool
  ppres       : Bool
  /-- the end of the first 20 ms after the power-on reset has been taken (R1, R93) -/
  settled     : Bool
deriving DecidableEq, Repr

/-- The E-stop states (R149). -/
inductive EstopState where
  | clear
  | active
  | latched
deriving DecidableEq, Repr

/-- The E-stop causes (R151). -/
inductive EstopCause where
  | loop
  | pendant
deriving DecidableEq, Repr

/-- The states of the control-supply monitor (R157). -/
inductive MonitorState where
  | normal
  | dip
  | low
deriving DecidableEq, Repr

/-- The stop and trip unit (08_stops_and_trips.md), less the part settings. -/
structure StopUnit where
  estinClosed  : Bool
  /-- the end of ESTIN's first 10 ms has been taken (R149) -/
  estinSettled : Bool
  estop        : EstopState
  cause        : EstopCause
  rstin        : Bool
  monitor      : MonitorState
  lowTimer     : Timer
  /-- the level of VCTL that the monitor last saw, in millivolts -/
  vctl         : Nat
  tripout      : Bool
deriving DecidableEq, Repr

/-- The six part settings (R176). -/
structure Settings where
  level        : Nat
  mask         : ClassSet
  linkTimeout  : Nat
  holdWindow   : Nat
  pendantSpeed : Nat
  enable       : EightSet
deriving DecidableEq, Repr

/-- A console's notices and attention line (R178, R183). -/
structure NoticeBox where
  pending : NoticeSet
  mask    : NoticeSet
  atn     : Bool
deriving DecidableEq, Repr

/-- The result codes, in the order of their numbers (R174). -/
inductive Result where
  | ok
  | badFrame
  | unknownRequest
  | badValue
  | notHolder
  | heldElsewhere
  | notOwner
  | ownerActive
  | busy
  | queueFull
  | queueEmpty
  | badWindow
  | outOfWindow
  | notReferenced
  | causePresent
  | supplyOff
  | stopActive
  | thermal
  | inGroup
  | mixedKinds
  | loadUnknown
  | faulted
deriving DecidableEq, Repr

/-- A response: the request's code echoed, the result and the payload (R173). -/
structure Response where
  code    : Byte
  result  : Result
  payload : List Byte
deriving DecidableEq, Repr

/-- A link receiver (R163): HUNTING; RECEIVING with the bytes collected after the start byte and the expiry of the gap
timer (R164, R165); ANSWERING with the response being sent (R173). -/
inductive Receiver where
  | hunting
  | receiving (bytes : List Byte) (gap : Time)
  | answering (r : Response)
deriving DecidableEq, Repr

/-- The whole block. -/
structure State where
  chans     : Chans Chan
  groups    : Groups
  supply    : Supply
  scanner   : Option Conversion
  arb       : Arbiter
  stops     : StopUnit
  settings  : Settings
  notices   : ByConsole NoticeBox
  ports     : ByConsole Receiver
  station   : BitVec 5
  timebase  : Time
  /-- the flash clock of the lamps: microseconds within its second (R94) -/
  flash     : Nat
  /-- the model's own: how many free values have been drawn (log entry 5) -/
  freeCount : Nat
  /-- the commands that wait, first in, first out -/
  pending   : List Instr
deriving DecidableEq, Repr

/-- No command makes the block stop with a fault: channel faults, trips and stops are states of the machine. -/
inductive Fault where
deriving DecidableEq, Repr

/-- Why a command is refused by the model. -/
inductive Refusal where
  /-- Raised by an arm of `exec` whose command has no meaning yet. Safe: nothing is claimed of such a command. No arm
  raises it. -/
  | notModelled (mnemonic : String)
deriving DecidableEq, Repr

namespace State

/-- The configuration of a channel after a power-on reset (R1). -/
def resetConfig : ChanConfig :=
  { kind := .absent, ratedSpeed := 1000, ratedLoad := 1000, gainK := 32, coast := 10, bfbFitted := true,
    torqueTime := 100, brakeTime := 250, stopHold := 150, dwell := 500, slipCount := 8, refCode := 1 }

/-- The output stage of a channel after a power-on reset (R24, R35). -/
def resetOutput : Output :=
  { raise := false, lower := false, brk := false, cs := false, bfb := false, torqueTimer := none, brakeTimer := none,
    stopHoldTimer := none, confirmTimer := none, dwellTimer := none, stuck := .idle }

/-- A reference generator after a power-on reset (R37). -/
def resetGen : RefGen := { duty := 0, pendingDuty := none, periodCode := 1, periodStart := 0 }

/-- The position unit of a channel after a power-on reset that ends with these encoder levels (R46). -/
def resetPos (held : EncPair) : PosUnit :=
  { held := held, bound := .none, lastEdge := none, capture := .empty, speed := 0, speedTimeout := none, slip := 0,
    slipStopped := false, slipArmed := false, wrongDir := 0, noMotion := none }

/-- The load unit of a channel after a power-on reset (R62). -/
def resetLoad : LoadUnit :=
  { input := none, zero := 400, gain := 256, raw := none, ring := [], filtered := 0, status := .none, overCount := 0,
    underCount := 0 }

/-- A channel record after a power-on reset (R1). -/
def resetChan (held : EncPair) : Chan :=
  { cfg := resetConfig, state := .off, position := 0, referenced := false, window := .none, upper := 0, lower := 0,
    pendingLimit := none, holder := .none, group := none, envMin := 0, envMax := 1250, faults := 0, thermal := false,
    upperOpen := false, lowerOpen := false, lastDir := none, startPending := none, out := resetOutput, gen := resetGen,
    pos := resetPos held, load := resetLoad }

/-- A member's items after a power-on reset (R124). -/
def resetMember : Member :=
  { plan := none, arrived := false, trimPaused := false, err := 0, refShare := none, viol := 0 }

/-- A profile record after a power-on reset (R124). -/
def resetProfile : Profile :=
  { phase := .none, p := 0, j := 0, q := 0, qCruise := 0, a := 0, jMax := none, dir := .up,
    members := Chans.all resetMember, loadCheck := .undecided, holdTimer := none, finishTimer := none }

/-- The default windows (R102), which are also the fixed ones of the pendant group (R97). -/
def resetWindows : Windows :=
  { trimOn := 40, trimOff := 10, holdLag := 60, releaseLag := 20, tripLag := 200, tripLead := 200, arriveBand := 3,
    settleBand := 15, holdTimeout := 3000, shareTolerance := 25 }

/-- A console group after a power-on reset (R102). -/
def resetGroup : Group :=
  { owner := .none, interval := 1, windows := resetWindows, state := .idle, moveKind := .cue, queue := [],
    prof := resetProfile, startTimer := none, updateTimer := none, trip := none, deadline := none, jogSpeed := 0,
    jogRamp := 0 }

/-- The pendant group after a power-on reset (R97, R102, R122). -/
def resetPendant : Group := { resetGroup with owner := .pendant, moveKind := .jog }

/-- A console's notices after a power-on reset (R178, R183). -/
def resetNotices : NoticeBox := { pending := 0, mask := 0, atn := false }

/-- The part settings after a power-on reset (R176): mask LOAD and BRAKE, enable set empty. -/
def resetSettings : Settings :=
  { level := 6, mask := 0b00110, linkTimeout := 500, holdWindow := 250, pendantSpeed := 25, enable := 0 }

/-- The stop and trip unit right after a power-on reset whose VCTL is at or above 21.0 V (R149, R155, R157, R161). -/
def resetStops (vctl : Nat) : StopUnit :=
  { estinClosed := false, estinSettled := false, estop := .active, cause := .loop, rstin := true, monitor := .normal,
    lowTimer := none, vctl := vctl, tripout := true }

/-- The block right after a power-on reset, with the lines at the levels of `Config.pinsAtReset` (log entry 2). -/
def reset : State :=
  { chans := Config.pinsAtReset.enc.mapIdx fun _ held => resetChan held
    groups := { g0 := resetGroup, g1 := resetGroup, g2 := resetGroup, g3 := resetGroup, pendant := resetPendant }
    supply := { state := .off, mains := false, mainsfb := false, closingTimer := none, settlingTimer := none }
    scanner := none
    arb := { links := ⟨⟨.silent, none⟩, ⟨.silent, none⟩⟩, psel := 0, pup := false, pdn := false, penb := false,
             pstopClosed := true, ppres := false, settled := false }
    stops := resetStops Config.pinsAtReset.vctl
    settings := resetSettings
    notices := ⟨resetNotices, resetNotices⟩
    ports := ⟨.hunting, .hunting⟩
    station := Config.pinsAtReset.straps
    timebase := 0
    flash := 0
    freeCount := 0
    pending := [] }

end State

end Sys2Proof.Machine
end

