-- ==== Sys2Proof/Machine/Ops.lean ====
section
/-! DEFINITION. The named reads and writes of the state, and the timebase: what every block uses to reach the records it
owns. -/

namespace Sys2Proof.Machine

/-! ### Reads and writes -/

/-- The record of channel `i`. -/
def State.chan (s : State) (i : Channel) : Chan := s.chans.get i

/-- `s` with the record of channel `i` replaced. -/
def State.setChan (s : State) (i : Channel) (c : Chan) : State := { s with chans := s.chans.set i c }

/-- `s` with the record of channel `i` changed by `f`. -/
def State.modChan (s : State) (i : Channel) (f : Chan → Chan) : State := s.setChan i (f (s.chan i))

/-- The record of group `g`. -/
def Groups.get (v : Groups) : GroupId → Group
  | .pendant => v.pendant
  | .console g => match g.val with
    | 0 => v.g0
    | 1 => v.g1
    | 2 => v.g2
    | _ => v.g3

/-- `v` with the record of group `g` replaced. -/
def Groups.set (v : Groups) (g : GroupId) (r : Group) : Groups :=
  match g with
  | .pendant => { v with pendant := r }
  | .console g => match g.val with
    | 0 => { v with g0 := r }
    | 1 => { v with g1 := r }
    | 2 => { v with g2 := r }
    | _ => { v with g3 := r }

/-- The record of group `g`. -/
def State.grp (s : State) (g : GroupId) : Group := s.groups.get g

/-- `s` with the record of group `g` replaced. -/
def State.setGrp (s : State) (g : GroupId) (r : Group) : State := { s with groups := s.groups.set g r }

/-- `s` with the record of group `g` changed by `f`. -/
def State.modGrp (s : State) (g : GroupId) (f : Group → Group) : State := s.setGrp g (f (s.grp g))

/-- The five groups, the console groups first, in ascending order. -/
def allGroups : List GroupId := [.console 0, .console 1, .console 2, .console 3, .pendant]

/-- The entry of console `c`. -/
def ByConsole.get {α : Type} (v : ByConsole α) : Console → α
  | .a => v.ca
  | .b => v.cb

/-- `v` with the entry of console `c` replaced. -/
def ByConsole.set {α : Type} (v : ByConsole α) (c : Console) (x : α) : ByConsole α :=
  match c with
  | .a => { v with ca := x }
  | .b => { v with cb := x }

/-- The receiver of console `c`'s link. -/
def State.port (s : State) (c : Console) : Receiver := s.ports.get c

/-- `s` with the receiver of console `c`'s link in state `r`. -/
def State.setPort (s : State) (c : Console) (r : Receiver) : State := { s with ports := s.ports.set c r }

/-- The link of console `c`. -/
def State.link (s : State) (c : Console) : Link := s.arb.links.get c

/-- `s` with the link of console `c` replaced. -/
def State.setLink (s : State) (c : Console) (l : Link) : State :=
  { s with arb := { s.arb with links := s.arb.links.set c l } }

/-! ### Member sets (R103): the channels whose group field names the group, ascending -/

/-- Channel `i` is a member of group `g` (R103). -/
def State.isMember (s : State) (g : GroupId) (i : Channel) : Bool := (s.chan i).group = some g

/-- The members of group `g`, ascending (R103). -/
def State.members (s : State) (g : GroupId) : List Channel := channels.filter (s.isMember g)

/-- The kind of group `g`: the kind of its members, none for an empty group (R103). -/
def State.groupKind (s : State) (g : GroupId) : Option Kind := (s.members g).head?.map fun i => (s.chan i).cfg.kind

/-- Group `g` is of kind FIXED (R103). -/
def State.groupFixed (s : State) (g : GroupId) : Bool := s.groupKind g = some .fixedSpeed

/-- The set of the channels that `p` holds of, bit n for channel n (R184). -/
def setOf (p : Channel → Bool) : EightSet :=
  channels.foldl (fun m i => if p i then m ||| BitVec.twoPow 8 i.val else m) 0

/-- Channel (or input) `i` is in the set `m`. -/
def inSet (m : EightSet) (i : Fin 8) : Bool := m.getLsbD i.val

/-- The members of the set `m`, ascending (00_scope.md, Sets and lists). -/
def listOf (m : EightSet) : List (Fin 8) := channels.filter (inSet m)

/-- The console groups in the set `m`, ascending. -/
def groupsOf (m : GroupSet) : List ConsoleGroup := consoleGroups.filter fun g => m.getLsbD g.val

/-- The members of group `g` as a set. -/
def State.memberSet (s : State) (g : GroupId) : EightSet := setOf (s.isMember g)

/-! ### States of channels and groups that many rules name together -/

/-- STARTING, RUNNING or STOPPING. -/
def ChanState.inMotion : ChanState → Bool
  | .starting => true
  | .running => true
  | .stopping _ => true
  | .off => false
  | .parked => false
  | .faulted => false

/-- STARTING, MOVING, HOLDING or STOPPING: the states of a group in a move (R113). -/
def GroupState.inMove : GroupState → Bool
  | .starting => true
  | .moving => true
  | .holding => true
  | .stopping => true
  | .idle => false
  | .paused => false
  | .tripped => false

/-- STARTING, MOVING or HOLDING: the states that a controlled stop acts on (R115). -/
def GroupState.stoppable : GroupState → Bool
  | .starting => true
  | .moving => true
  | .holding => true
  | .stopping => false
  | .idle => false
  | .paused => false
  | .tripped => false

/-- Channel `i` is a member of a group that is STARTING, MOVING, HOLDING or STOPPING (R17, R18, R64, R72). -/
def State.inMovingGroup (s : State) (i : Channel) : Bool :=
  match (s.chan i).group with
  | none => false
  | some g => (s.grp g).state.inMove

/-- Every member of group `g` is PARKED. -/
def State.allParked (s : State) (g : GroupId) : Bool := (s.members g).all fun i => (s.chan i).state = .parked

/-! ### The timebase -/

/-- The timebase `ms` milliseconds after `now`. -/
def afterMs (now : Time) (ms : Nat) : Time := now + BitVec.ofNat 32 (1000 * ms)

/-- A timer started at `now` that expires after `ms` milliseconds. -/
def startMs (now : Time) (ms : Nat) : Timer := some (afterMs now ms)

/-- The timebase, reading `now`, has reached the reading `e`: it stands at `e` or less than half its range past it, since it
wraps (log entry 6). -/
def reached (now e : Time) : Bool := decide ((now - e).toNat < 2147483648)

/-- A timer runs and its due reading has been reached. The expiry of a timer that some event restarts while it runs acts
only then (R53, R59, R84, R92, R165; log entry 6). -/
def timerDue (now : Time) (t : Timer) : Bool := t.any (reached now)

/-- Bring `x` into the range `lo`..`hi` (R172). -/
def clamp (lo hi x : Nat) : Nat := max lo (min hi x)

/-- The update interval in milliseconds of an interval code (R113, the field table of the group record). -/
def intervalMs (code : Nat) : Nat :=
  match code with
  | 0 => 10
  | 1 => 20
  | _ => 50

/-- The length of a reference period in half microseconds (R37; 62.5 µs is not a whole number of microseconds). -/
def periodHalfMicros (code : Nat) : Nat :=
  match code with
  | 0 => 8000
  | 1 => 2000
  | 2 => 500
  | _ => 125

/-- One microsecond passes: the timebase and the lamps' flash clock advance (R46, R94; log entry 1). -/
def State.tick (s : State) : State := { s with timebase := s.timebase + 1, flash := (s.flash + 1) % 1000000 }

/-- A byte of a response to which the manual gives no value, and the state with one more of them drawn (log entry 5). -/
def State.drawFree (s : State) : Byte × State := (Config.freeByte s.freeCount, { s with freeCount := s.freeCount + 1 })

end Sys2Proof.Machine
end

