-- ==== Sys2Proof/Machine/Flags.lean ====
section
/-! DEFINITION. The indications that follow the state: the notices and attention lines (10_notices_and_attention_lines.md),
TRIPOUT (R160 to R162), the load state (R63), the pendant lamps (R94) and REFn (R37). -/

namespace Sys2Proof.Machine

/-! ### Notices and attention lines -/

/-- The notice kinds of a console group. -/
inductive GroupNotice where
  | done
  | paused
  | tripped
  | miss
deriving DecidableEq, Repr

/-- The notice kinds of a channel. -/
inductive ChanNotice where
  | fault
  | refLost
  | thermal
  | limit
deriving DecidableEq, Repr

/-- The 53 notice kinds (10_notices_and_attention_lines.md, Notice kinds). -/
inductive Notice where
  | group (g : ConsoleGroup) (k : GroupNotice)
  | chan (i : Channel) (k : ChanNotice)
  | estop
  | supply
  | link
  | pendant
  | takeover
deriving DecidableEq, Repr

/-- The offset of a group notice kind (11_frame_and_record_layouts.md, Notice numbering). -/
def groupNoticeOffset : GroupNotice → Nat
  | .done => 0
  | .paused => 1
  | .tripped => 2
  | .miss => 3

/-- The offset of a channel notice kind (11_frame_and_record_layouts.md, Notice numbering). -/
def chanNoticeOffset : ChanNotice → Nat
  | .fault => 0
  | .refLost => 1
  | .thermal => 2
  | .limit => 3

/-- The member number of a notice kind, 0..52 (11_frame_and_record_layouts.md, Notice numbering). -/
def noticeNumber : Notice → Nat
  | .group g k => 4 * g.val + groupNoticeOffset k
  | .chan i k => 16 + 4 * i.val + chanNoticeOffset k
  | .estop => 48
  | .supply => 49
  | .link => 50
  | .pendant => 51
  | .takeover => 52

/-- The set holding one notice kind. -/
def noticeBit (n : Notice) : NoticeSet := BitVec.twoPow 53 (noticeNumber n)

/-- The attention line as its pending set and mask give it: asserted exactly when they share a kind (R183). -/
def attentionLevel (pending mask : NoticeSet) : Bool := pending &&& mask != 0

/-- A notice box with this pending set and mask, its line set again (R183). -/
def noticeBox (pending mask : NoticeSet) : NoticeBox :=
  { pending := pending, mask := mask, atn := attentionLevel pending mask }

/-- Add the kind `n` to a console's pending set (R179). -/
def boxRaise (n : Notice) (b : NoticeBox) : NoticeBox := noticeBox (b.pending ||| noticeBit n) b.mask

/-- The notices of console `c`. -/
def State.box (s : State) (c : Console) : NoticeBox := s.notices.get c

/-- `s` with the notices of console `c` replaced. -/
def State.setBox (s : State) (c : Console) (b : NoticeBox) : State := { s with notices := s.notices.set c b }

/-- Raise the notice `n` in both consoles' pending sets (R179). -/
def State.raise (s : State) (n : Notice) : State :=
  { s with notices := ⟨boxRaise n s.notices.ca, boxRaise n s.notices.cb⟩ }

/-- Raise the LINK notice in the set of the console whose link did not change (R85, R179). -/
def State.raiseLink (s : State) (changed : Console) : State :=
  s.setBox changed.other (boxRaise .link (s.box changed.other))

/-! ### TRIPOUT -/

/-- The classes of trip causes (R160). -/
inductive TripClass where
  | sync
  | load
  | brake
  | drive
  | position
deriving DecidableEq, Repr

/-- The bit of a class in a class set (R184). -/
def classBit : TripClass → Nat
  | .sync => 0
  | .load => 1
  | .brake => 2
  | .drive => 3
  | .position => 4

/-- The class of a fault kind carried by CHANNEL_FAULT (R160). An ENCODER fault trips as REFERENCE_LOST (R11), of class
POSITION. -/
def faultClass : FaultKind → TripClass
  | .overload => .load
  | .underload => .load
  | .loadcell => .load
  | .brakeNoRelease => .brake
  | .brakeNoSet => .brake
  | .brakeSlip => .brake
  | .noCurrent => .drive
  | .stuckContactor => .drive
  | .wrongDirection => .drive
  | .noMotion => .drive
  | .encoder => .position

/-- The class of a trip cause; none for the causes that always drive TRIPOUT (R160). -/
def tripClass : TripCause → Option TripClass
  | .syncLag => some .sync
  | .syncLead => some .sync
  | .syncStall => some .sync
  | .startTimeout => some .sync
  | .loadShift => some .load
  | .limitSwitch => some .position
  | .referenceLost => some .position
  | .channelFault k => some (faultClass k)
  | .estop => none
  | .supplyLow => none
  | .supplyLost => none

/-- A first cause drives TRIPOUT under the trip-out mask (R161). -/
def drivesTripout (mask : ClassSet) (cause : TripCause) : Bool :=
  match tripClass cause with
  | none => true
  | some c => mask.getLsbD (classBit c)

/-- A console group holds TRIPOUT: it is TRIPPED and its first cause drives TRIPOUT (R161). -/
def groupDrivesTripout (mask : ClassSet) (r : Group) : Bool :=
  match r.trip with
  | none => false
  | some t => decide (r.state = .tripped) && drivesTripout mask t.cause

/-- The condition under which TRIPOUT is asserted (R161). The pendant group is not read (R122). -/
def State.tripoutHolds (s : State) : Bool :=
  decide (s.stops.estop ≠ .clear) || decide (s.stops.monitor = .low) ||
    consoleGroups.any fun g => groupDrivesTripout s.settings.mask (s.grp (.console g))

/-- Re-evaluate TRIPOUT from the state standing at this moment (R162). -/
def State.retrip (s : State) : State := { s with stops := { s.stops with tripout := s.tripoutHolds } }

/-! ### Faults as a set -/

/-- The code of a fault kind (11_frame_and_record_layouts.md, Numeric codes). -/
def faultCode : FaultKind → Nat
  | .brakeNoRelease => 0
  | .brakeNoSet => 1
  | .brakeSlip => 2
  | .noCurrent => 3
  | .stuckContactor => 4
  | .wrongDirection => 5
  | .noMotion => 6
  | .overload => 7
  | .underload => 8
  | .loadcell => 9
  | .encoder => 10

/-- The set holding one fault kind. -/
def faultBit (k : FaultKind) : FaultSet := BitVec.twoPow 11 (faultCode k)

/-- The kind `k` is in the fault set. -/
def hasFault (m : FaultSet) (k : FaultKind) : Bool := m.getLsbD (faultCode k)

/-! ### The load state -/

/-- A raw reading at either end of the converter's range is a sensor reading (R70). -/
def isSensorReading (raw : Nat) : Bool := raw = 0 || raw = 4095

/-- The load state that follows from the assignment, the enable set, the latest raw reading and the ring (R63). -/
def deriveLoad (enable : EightSet) (u : LoadUnit) : LoadStatus :=
  match u.input with
  | none => .none
  | some i =>
    if !inSet enable i then .unknown
    else if u.raw.any isSensorReading then .fault
    else if u.ring.isEmpty then .unknown
    else .valid

/-! ### Lamps and references, read off the state -/

/-- The conditions of a channel lamp (R94). -/
inductive Lamp where
  | off
  | steady
  | fast
  | slow
deriving DecidableEq, Repr

/-- The condition of PLAMPn (R94). -/
def State.lamp (s : State) (i : Channel) : Lamp :=
  let c := s.chan i
  if c.holder = .pendant then (if c.state = .faulted then .fast else .steady)
  else if s.arb.ppres && inSet s.arb.psel i then .slow
  else .off

/-- PLAMPn is lit now (R94). DEDUCED (log entry 13): each flash begins with its lit half. -/
def State.plamp (s : State) (i : Channel) : Bool :=
  match s.lamp i with
  | .off => false
  | .steady => true
  | .fast => s.flash % 250000 < 125000
  | .slow => s.flash % 1000000 < 500000

/-- REFn is high now: for duty/255 of the current period, counted from its start (R37). -/
def State.refLine (s : State) (i : Channel) : Bool :=
  let g := (s.chan i).gen
  2 * 255 * (s.timebase - g.periodStart).toNat < g.duty * periodHalfMicros g.periodCode

end Sys2Proof.Machine
end

