-- ==== Sys2Proof/Machine/Channel.lean ====
section
/-! DEFINITION. What happens to ONE channel record: the transitions of the channel table (01_hoist_channels.md) with what
the output stage (02_drive_outputs_and_brake_sequencing.md) and the position unit (03_chain_position_and_speed.md) do at
them. Each is a function of the record and of the timebase; who is told of it is the business of the files after this. -/

namespace Sys2Proof.Machine

/-- The spell that the stuck-contactor watch times: current with both direction lines off, on a channel not OFF (R34). -/
def stuckCond (c : Chan) : Bool := decide (c.state ≠ .off) && c.out.cs && !c.out.raise && !c.out.lower

/-- Start the stuck-contactor timer where its condition has begun, cancel it where the condition has ended (R34). -/
def watchStuck (now : Time) (c : Chan) : Chan :=
  if stuckCond c then
    match c.out.stuck with
    | .idle => { c with out := { c.out with stuck := .timing (afterMs now 100) } }
    | .timing _ => c
    | .reported => c
  else { c with out := { c.out with stuck := .idle } }

/-- Slip armed of a PARKED or FAULTED channel whose brake set is not being confirmed: with brake feedback fitted it
follows BFBn, without it is yes (R55). -/
def brakeKnownSet (c : Chan) : Bool := if c.cfg.bfbFitted then !c.out.bfb else true

/-- Both direction lines are de-energised: the part "lines down" of R32. -/
def linesDown (c : Chan) : Bool := !c.out.raise && !c.out.lower

/-- The slip accumulator cleared to 0 and counting (R57). -/
def clearSlip (c : Chan) : Chan := { c with pos := { c.pos with slip := 0, slipStopped := false } }

/-! ### Starting -/

/-- Entry to STARTING in direction `d` (step 5 of R4, R26): the direction line of `d` is energised and the torque timer
starts; the reversal dwell is cancelled (R35) and the slip check disarmed (R55). -/
def chanEnterStarting (now : Time) (d : Dir) (c : Chan) : Chan :=
  watchStuck now
    { c with
      state := .starting
      lastDir := some d
      startPending := none
      out := { c.out with
        raise := decide (d = .up), lower := decide (d = .down), brk := false
        torqueTimer := startMs now c.cfg.torqueTime, brakeTimer := none, stopHoldTimer := none, confirmTimer := none
        dwellTimer := none }
      pos := { c.pos with slipArmed := false } }

/-- Torque is proven: BRKn is energised and the brake timer starts (R27). -/
def chanReleaseBrake (now : Time) (c : Chan) : Chan :=
  { c with out := { c.out with torqueTimer := none, brk := true, brakeTimer := startMs now c.cfg.brakeTime } }

/-- Start completion: entry to RUNNING (R6, R28), with the wrong-direction count at 0 (R58) and, for FIXED, the no-motion
timer started (R59). -/
def chanEnterRunning (now : Time) (c : Chan) : Chan :=
  { c with
    state := .running
    out := { c.out with torqueTimer := none, brakeTimer := none }
    pos := { c.pos with
      wrongDir := 0
      noMotion := if c.cfg.kind = .fixedSpeed then startMs now 1000 else none } }

/-! ### Stopping -/

/-- What an exit from RUNNING does to the reference generator (R39) and to the no-motion timer (R59). -/
def leaveRunning (now : Time) (c : Chan) : Chan :=
  if c.state = .running then
    { c with
      gen := { duty := 0, pendingDuty := none, periodCode := c.cfg.refCode, periodStart := now }
      pos := { c.pos with noMotion := none } }
  else c

/-- The brake-set report: entry to PARKED from STOPPING (R8), with the reversal dwell started (R35) and the slip check
cleared and armed (R55, R57). -/
def chanPark (now : Time) (c : Chan) : Chan :=
  { c with
    state := .parked
    out := { c.out with stopHoldTimer := none, confirmTimer := none, dwellTimer := startMs now c.cfg.dwell }
    pos := { c.pos with slip := 0, slipStopped := false, slipArmed := brakeKnownSet c } }

/-- The brake-set report of a STOPPING channel is made when both parts of R32 are done. -/
def chanFinishStop (now : Time) (c : Chan) : Chan :=
  watchStuck now
    (match c.state with
     | .stopping _ => if c.out.confirmTimer.isNone && linesDown c then chanPark now c else c
     | .off => c
     | .parked => c
     | .starting => c
     | .running => c
     | .faulted => c)

/-- The brake-set confirmation as it stands at the moment BRKn goes off (R32): with brake feedback fitted and showing set
it is done, otherwise it runs for brake time. -/
def startConfirm (now : Time) (c : Chan) : Timer :=
  if c.cfg.bfbFitted && !c.out.bfb then none else startMs now c.cfg.brakeTime

/-- A stop of a channel whose BRKn is energised (R30, R31): BRKn goes off; a controlled stop keeps the direction line for
the stop hold time. -/
def stopReleased (now : Time) (form : StopForm) (c : Chan) : Chan :=
  let keep := decide (form = .controlled) && c.cfg.stopHold != 0
  let c := leaveRunning now c
  chanFinishStop now
    { c with
      state := .stopping form
      startPending := none
      out := { c.out with
        raise := keep && c.out.raise, lower := keep && c.out.lower, brk := false
        torqueTimer := none, brakeTimer := none
        stopHoldTimer := if keep then startMs now c.cfg.stopHold else none
        confirmTimer := startConfirm now c }
      pos := { c.pos with slipArmed := false } }

/-- A stop of a STARTING channel whose BRKn was not yet energised (R29): the lines go down at entry in both forms; the
confirmation waits for BFBn to show set, or completes at entry where brake feedback is not fitted. -/
def stopUnproven (now : Time) (form : StopForm) (c : Chan) : Chan :=
  chanFinishStop now
    { c with
      state := .stopping form
      startPending := none
      out := { c.out with
        raise := false, lower := false, brk := false, torqueTimer := none, brakeTimer := none, stopHoldTimer := none
        confirmTimer := if c.cfg.bfbFitted && c.out.bfb then startMs now c.cfg.brakeTime else none }
      pos := { c.pos with slipArmed := false } }

/-- A controlled stop made quick (R7, R31): the direction line goes off now, the confirmation runs on. -/
def stopMadeQuick (now : Time) (c : Chan) : Chan :=
  chanFinishStop now
    { c with
      state := .stopping .quick
      startPending := none
      out := { c.out with raise := false, lower := false, stopHoldTimer := none } }

/-- A stop request taken by the channel's state (the table of R7). -/
def chanStop (now : Time) (form : StopForm) (c : Chan) : Chan :=
  match c.state with
  | .off => c
  | .faulted => c
  | .parked => { c with startPending := none }
  | .starting => if c.out.brk then stopReleased now form c else stopUnproven now form c
  | .running => stopReleased now form c
  | .stopping .quick => { c with startPending := none }
  | .stopping .controlled =>
    match form with
    | .controlled => { c with startPending := none }
    | .quick => stopMadeQuick now c

/-! ### Faults -/

/-- The brake-set confirmation at entry to FAULTED (R10, R33): it starts where BRKn was energised, continues where a stop's
was running, and does not run otherwise. In STARTING the brake may still be lifting, so that the confirmation runs whatever
BFBn shows and reads the late feedback (R28; log entry 22). -/
def faultConfirm (now : Time) (c : Chan) : Timer :=
  match c.state with
  | .starting => if c.out.brk then startMs now c.cfg.brakeTime else none
  | .running => startConfirm now c
  | .stopping _ => c.out.confirmTimer
  | .off => none
  | .parked => none
  | .faulted => none

/-- Entry to FAULTED (R10, R33): the lines drop together, the sequence timers, the dwell (R35), the start pending and the
pending duty go, the confirmation is as `faultConfirm` gives it, and slip armed is as R55 gives it. -/
def chanEnterFaulted (now : Time) (c : Chan) : Chan :=
  let confirm := faultConfirm now c
  let armed := if c.cfg.bfbFitted then !c.out.bfb else confirm.isNone
  let c := leaveRunning now c
  watchStuck now
    { c with
      state := .faulted
      startPending := none
      gen := { c.gen with pendingDuty := none }
      out := { c.out with
        raise := false, lower := false, brk := false, torqueTimer := none, brakeTimer := none, stopHoldTimer := none
        confirmTimer := confirm, dwellTimer := none }
      pos := { c.pos with slipArmed := armed, noMotion := none } }

/-- A fault report taken by the channel's state (R10). -/
def chanFault (now : Time) (k : FaultKind) (c : Chan) : Chan :=
  let marked := { c with faults := c.faults ||| faultBit k }
  match c.state with
  | .off => c
  | .faulted => marked
  | .parked => chanEnterFaulted now marked
  | .starting => chanEnterFaulted now marked
  | .running => chanEnterFaulted now marked
  | .stopping _ => chanEnterFaulted now marked

/-- The fault `k` of the channel has its cause present (R9, R34, R77), under this enable set. -/
def causePresent (enable : EightSet) (c : Chan) : FaultKind → Bool
  | .stuckContactor => c.out.cs && linesDown c
  | .overload => decide (c.load.status = .valid) && decide (c.envMax < c.load.filtered)
  | .loadcell => c.load.input.any (inSet enable) && c.load.raw.any isSensorReading
  | .brakeNoRelease => false
  | .brakeNoSet => false
  | .brakeSlip => false
  | .noCurrent => false
  | .wrongDirection => false
  | .noMotion => false
  | .underload => false
  | .encoder => false

/-- The kinds that may be cause present (R9). -/
def persistentKinds : List FaultKind := [.stuckContactor, .overload, .loadcell]

/-- The kinds of the fault set that CLEAR_FAULTS leaves: those with a cause present (R12). -/
def keptFaults (enable : EightSet) (c : Chan) : FaultSet :=
  persistentKinds.foldl (fun m k => if hasFault c.faults k && causePresent enable c k then m ||| faultBit k else m) 0

/-- CLEAR_FAULTS taken on one channel (R12, R57): nothing on a FAULTED channel whose brake-set confirmation runs; otherwise
the kinds without a cause present go, the slip accumulator is cleared, and a FAULTED channel with no kind left enters PARKED
with its reversal dwell started (R35) and its slip check armed by R55. DEDUCED (log entry 23): the confirmation that holds
the clear off is that of R10, on a FAULTED channel. -/
def chanClearFaults (now : Time) (enable : EightSet) (c : Chan) : Chan :=
  if c.state = .faulted ∧ c.out.confirmTimer.isSome then c
  else
    let c' := clearSlip { c with faults := keptFaults enable c }
    if c.state = .faulted ∧ c'.faults = 0 then
      { c' with
        state := .parked
        out := { c'.out with dwellTimer := startMs now c'.cfg.dwell }
        pos := { c'.pos with slipArmed := brakeKnownSet c' } }
    else c'

/-! ### OFF (R3) -/

/-- Entry to OFF from PARKED: the channel table's part (R3), the position unit's (R49), the load unit's (R79) and the
output stage's (R34, R35). -/
def chanEnterOff (c : Chan) : Chan :=
  { c with
    state := .off
    lastDir := none
    startPending := none
    referenced := false
    out := { c.out with dwellTimer := none, stuck := .idle }
    pos := { c.pos with
      bound := .none, lastEdge := none, capture := .empty, speed := 0, speedTimeout := none, slip := 0
      slipStopped := false, slipArmed := false, wrongDir := 0, noMotion := none }
    load := { c.load with overCount := 0, underCount := 0 } }

/-- Entry to PARKED from OFF (R3): last direction NONE, no dwell; the slip check is armed by R55 and a CSn already active
starts the stuck-contactor timer (R34). -/
def chanLeaveOff (now : Time) (c : Chan) : Chan :=
  watchStuck now
    { c with
      state := .parked
      lastDir := none
      pos := { c.pos with slipArmed := brakeKnownSet c } }

/-! ### Hard limits and soft limits -/

/-- The hard limit switch in the direction `d` is open (R15, R16). -/
def limitOpen (c : Chan) : Dir → Bool
  | .up => c.upperOpen
  | .down => c.lowerOpen

/-- The channel's soft limits bind: its window is VALID and it is referenced (R20). -/
def softLimitsBind (c : Chan) : Bool := decide (c.window = .valid) && c.referenced

end Sys2Proof.Machine
end

