-- ==== Sys2Proof/Machine/Trips.lean ====
section
/-! DEFINITION. What a fault, a limit switch or a stop makes of a group: the pendant evaluation and the pendant group's
exit from TRIPPED (R95, R100), the trip (R119), the fault report (R10, R11) and the start request (R4, R5, R16). -/

namespace Sys2Proof.Machine

/-! ### The pendant's selection -/

/-- One channel of a pendant evaluation made while PPRES is present (the table of R95). -/
def evalChannel (s : State) (i : Channel) : State :=
  let c := s.chan i
  if inSet s.arb.psel i then
    let kindFits : Bool := match s.groupKind .pendant with
      | none => true
      | some k => decide (k = c.cfg.kind)
    if c.holder = .none ∧ c.state ≠ .off ∧ kindFits then
      s.setChan i { c with holder := .pendant, group := some .pendant }
    else s
  else if c.holder = .pendant then s.setChan i { c with holder := .none, group := none }
  else s

/-- Release channel `i` where the pendant holds it (R96). -/
def releasePendant (s : State) (i : Channel) : State :=
  let c := s.chan i
  if c.holder = .pendant then s.setChan i { c with holder := .none, group := none } else s

/-- A pendant evaluation (R95): with PPRES present the channels are taken in ascending order; with PPRES absent every
channel the pendant holds is released. -/
def pendantEval (s : State) : State :=
  if s.arb.ppres then channels.foldl evalChannel s else channels.foldl releasePendant s

/-- The pendant group's entry to IDLE: the update timer stops (R113) and the evaluation is made (R95, R122). -/
def pendantIdle (s : State) : State :=
  pendantEval (s.modGrp .pendant fun r => { r with state := .idle, updateTimer := none })

/-- The test of the pendant group's exit from TRIPPED (R100). -/
def pendantExit (s : State) : State :=
  if (s.grp .pendant).state = .tripped ∧ s.arb.penb = false ∧ s.allParked .pendant then
    pendantIdle (s.modGrp .pendant fun r => { r with trip := none })
  else s

/-! ### Trips (R119) -/

/-- The timers of a group that a trip or a stop ends: the start timer, the profile unit's hold and finish timers and the
arbiter's hold deadline (R115, R119, R124). -/
def endMoveTimers (r : Group) : Group :=
  { r with
    startTimer := none
    deadline := none
    prof := { r.prof with holdTimer := none, finishTimer := none } }

/-- Send a stop request to channel `i` that no group is told of: the group that sends it looks at its members itself. -/
def stopMember (form : StopForm) (s : State) (i : Channel) : State := s.modChan i (chanStop s.timebase form)

/-- Entry to TRIPPED (R119): timers, QUICK stops of the members, the record, the TRIPPED notice of a console group, TRIPOUT,
and for the pendant group the test of R100, in this order. -/
def enterTripped (g : GroupId) (cause : TripCause) (ch : Option Channel) (s : State) : State :=
  let s := s.modGrp g fun r => { endMoveTimers r with state := .tripped, updateTimer := none }
  let s := (s.members g).foldl (stopMember .quick) s
  let s := s.modGrp g fun r => { r with trip := some { cause := cause, channel := ch, further := 0 } }
  match g with
  | .console n => (s.raise (.group n .tripped)).retrip
  | .pendant => pendantExit s.retrip

/-- A further cause counted on the record of a TRIPPED group (R119). -/
def countFurther (r : Group) : Group :=
  { r with trip := r.trip.map fun t => { t with further := min 255 (t.further + 1) } }

/-- A trip reaching the group sequencer, taken by the group's state (R119). -/
def tripGroup (cause : TripCause) (ch : Option Channel) (g : GroupId) (s : State) : State :=
  match (s.grp g).state with
  | .idle => s
  | .paused => s
  | .tripped => s.modGrp g countFurther
  | .starting => enterTripped g cause ch s
  | .moving => enterTripped g cause ch s
  | .holding => enterTripped g cause ch s
  | .stopping => enterTripped g cause ch s

/-- A trip reaching the group of channel `i`, if it is in one (R11, R15, R16). -/
def tripGroupOf (cause : TripCause) (i : Channel) (s : State) : State :=
  match (s.chan i).group with
  | none => s
  | some g => tripGroup cause (some i) g s

/-! ### Fault reports (R10, R11) -/

/-- The trip cause a fault kind carries: REFERENCE_LOST for ENCODER, CHANNEL_FAULT with the kind for every other (R11). -/
def faultCause : FaultKind → TripCause
  | .encoder => .referenceLost
  | .brakeNoRelease => .channelFault .brakeNoRelease
  | .brakeNoSet => .channelFault .brakeNoSet
  | .brakeSlip => .channelFault .brakeSlip
  | .noCurrent => .channelFault .noCurrent
  | .stuckContactor => .channelFault .stuckContactor
  | .wrongDirection => .channelFault .wrongDirection
  | .noMotion => .channelFault .noMotion
  | .overload => .channelFault .overload
  | .underload => .channelFault .underload
  | .loadcell => .channelFault .loadcell

/-- A fault report on channel `i` (R10), with its consequences in the order of R11. A report that reaches an OFF channel is
discarded (R3). -/
def faultReport (i : Channel) (k : FaultKind) (s : State) : State :=
  if (s.chan i).state = .off then s
  else
    let s := s.modChan i (chanFault s.timebase k)
    let s := s.raise (.chan i .fault)
    (tripGroupOf (faultCause k) i s).retrip

/-- The loss of the reference (R52): REF_LOST is raised when referenced goes from yes to no. -/
def loseReference (i : Channel) (s : State) : State :=
  if (s.chan i).referenced then (s.modChan i fun c => { c with referenced := false }).raise (.chan i .refLost) else s

/-! ### Start requests -/

/-- A start held off by an open hard limit switch (R16). -/
def limitRefused (i : Channel) (s : State) : State :=
  let s := s.modChan i fun c => { c with startPending := none }
  let s := s.raise (.chan i .limit)
  tripGroupOf .limitSwitch i s

/-- The steps of R4 on a PARKED channel, for a start request or for the retest of a start pending. -/
def startTry (i : Channel) (d : Dir) (s : State) : State :=
  let c := s.chan i
  if s.stops.estop ≠ .clear ∨ s.stops.monitor = .low then s.setChan i { c with startPending := none }
  else if limitOpen c d then limitRefused i s
  else if s.supply.state ≠ .on then s.setChan i { c with startPending := some d }
  else if c.lastDir = some d.opposite ∧ c.out.dwellTimer.isSome then s.setChan i { c with startPending := some d }
  else s.setChan i (chanEnterStarting s.timebase d c)

/-- A start request taken by the channel's state (R4, R5). -/
def startRequest (i : Channel) (d : Dir) (s : State) : State :=
  let c := s.chan i
  match c.state with
  | .parked => startTry i d s
  | .stopping _ => s.setChan i { c with startPending := some d }
  | .starting => s
  | .running => s
  | .faulted => s
  | .off => s

/-- The retest of a start pending (R5). -/
def retestPending (i : Channel) (s : State) : State :=
  let c := s.chan i
  match c.startPending with
  | none => s
  | some d => if c.state = .parked then startTry i d s else s

end Sys2Proof.Machine
end

