-- ==== Sys2Proof/Machine/Profile.lean ====
section
/-! DEFINITION. The arithmetic of the profile unit (07_profile_and_synchronisation.md): planning, progress, commanded
positions, errors, duty and load shares. Every division is floored and every product is formed exactly (00_scope.md,
Rounding). -/

namespace Sys2Proof.Machine

/-- The whole of a cue move in units of progress. -/
def fullProgress : Nat := 65536

/-- The distance between two positions. -/
def distance (x y : Nat) : Nat := (x - y) + (y - x)

/-- The effective speed of a member: the rated speed of a FIXED member, the fraction `f` percent of it for a VARIABLE one
(R126, R143). -/
def effectiveSpeed (fixed : Bool) (rated f : Nat) : Nat := if fixed then rated else max 1 (rated * f / 100)

/-- The target that a cue names for channel `i` (R126). -/
def entryTarget (cue : Cue) (i : Channel) : Option Nat := (cue.entries.find? fun e => e.1 = i).map Prod.snd

/-- The plan of one member of a cue (R126). DESIGN CHOICE (log entry 34): R126 gives an effective speed to a moving member
alone, and a member whose distance is 0 is given the one of the same formula. -/
def cueMemberPlan (fixed : Bool) (cue : Cue) (i : Channel) (c : Chan) : MemberPlan :=
  let target := (entryTarget cue i).getD c.position
  { start := c.position
    target := target
    dist := distance target c.position
    dir := if target < c.position then .down else .up
    veff := effectiveSpeed fixed c.cfg.ratedSpeed cue.speed }

/-- The plan of one member of a jog (R143). -/
def jogMemberPlan (fixed : Bool) (d : Dir) (f : Nat) (c : Chan) : MemberPlan :=
  { start := c.position, target := c.position, dist := 0, dir := d, veff := effectiveSpeed fixed c.cfg.ratedSpeed f }

/-- A member's items at the start of a move (R127, R143). DESIGN CHOICE (log entry 35): every plan sets the violation count to
0, to which R127 and R143 give no value. DEDUCED (log entry 36): the plan of a jog gives the trim-paused flag, the error and
the reference share the values that R127 gives them for a cue. -/
def freshMember (plan : MemberPlan) (arrived : Bool) : Member :=
  { plan := some plan, arrived := arrived, trimPaused := false, err := 0, refShare := none, viol := 0 }

/-- The rate that one moving member of a cue allows (R126). -/
def cueRate (delta : Nat) (m : MemberPlan) : Nat := fullProgress * m.veff * delta / (1000 * m.dist)

/-- The cruise rate of a cue: the least rate over the moving members, clamped into 1..16384; 0 where no member moves
(R126). -/
def cueCruise (delta : Nat) (plans : List MemberPlan) : Nat :=
  match ((plans.filter fun m => m.dist ≠ 0).map (cueRate delta)).min? with
  | none => 0
  | some m => clamp 1 16384 m

/-- The cruise rate of a jog, in counts per update (R143). -/
def jogCruise (delta : Nat) (plans : List MemberPlan) : Nat :=
  match (plans.map fun m => m.veff * delta / 1000).min? with
  | none => 1
  | some m => max 1 m

/-- The ramp step (R127): the ramp time is in tenths of a second. -/
def rampStep (ramp delta cruise : Nat) : Nat := max 1 (cruise / (ramp * 100 / delta))

/-- A freshly planned profile record (R127, R143). -/
def freshProfile (fixed : Bool) (cruise a : Nat) (jMax : Option Nat) (d : Dir) (members : Chans Member) : Profile :=
  { phase := if fixed then .cruise else .accel, p := 0, j := 0, q := 0, qCruise := cruise, a := a, jMax := jMax, dir := d
    members := members, loadCheck := .undecided, holdTimer := none, finishTimer := none }

/-- The profile record that planning a cue gives group `g` (R126, R127). DESIGN CHOICE (log entry 31): of the items of a jog,
the displacement becomes 0, the bound none, and the direction stays. -/
def planCue (g : GroupId) (cue : Cue) (s : State) : Profile :=
  let r := s.grp g
  let fixed := s.groupFixed g
  let delta := intervalMs r.interval
  let plan := fun i => cueMemberPlan fixed cue i (s.chan i)
  let cruise := cueCruise delta ((s.members g).map plan)
  freshProfile fixed cruise (rampStep cue.ramp delta cruise) none r.prof.dir
    (s.chans.mapIdx fun i _ =>
      if s.isMember g i then freshMember (plan i) (decide ((plan i).dist = 0)) else State.resetMember)

/-- How far a member may travel in direction `d` to its soft limit; a member already beyond it counts as 0 (R143). -/
def jogRoom (d : Dir) (c : Chan) : Nat :=
  match d with
  | .up => c.upper - c.position
  | .down => c.position - c.lower

/-- The bound of a jog: the least room of the members that are referenced with a VALID window (R143). -/
def jogBound (g : GroupId) (d : Dir) (s : State) : Option Nat :=
  (((s.members g).filter fun i => softLimitsBind (s.chan i)).map fun i => jogRoom d (s.chan i)).min?

/-- The profile record that planning a jog gives group `g` (R143). DESIGN CHOICE (log entry 31): the progress of a cue becomes
0. -/
def planJog (g : GroupId) (d : Dir) (f ramp : Nat) (s : State) : Profile :=
  let r := s.grp g
  let fixed := s.groupFixed g
  let delta := intervalMs r.interval
  let plan := fun i => jogMemberPlan fixed d f (s.chan i)
  let cruise := jogCruise delta ((s.members g).map plan)
  freshProfile fixed cruise (rampStep ramp delta cruise) (jogBound g d s) d
    (s.chans.mapIdx fun i _ => if s.isMember g i then freshMember (plan i) false else State.resetMember)

/-! ### Progress -/

/-- The deceleration test on the rate held before the update (R128). -/
def decelDue (pr : Profile) (remaining : Nat) : Bool := remaining ≤ pr.q * pr.q / (2 * pr.a) + pr.q

/-- Step 1 of R128: in ACCEL or CRUISE the deceleration test may make the phase DECEL. Without a bound no test is made
(R144). -/
def decelTest (remaining : Option Nat) (pr : Profile) : Phase :=
  match pr.phase with
  | .accel => if remaining.any (decelDue pr) then .decel else .accel
  | .cruise => if remaining.any (decelDue pr) then .decel else .cruise
  | .decel => .decel
  | .none => .none
  | .stopping => .stopping

/-- Steps 1 and 2 of R128: the phase and the rate. -/
def rampPhase (remaining : Option Nat) (pr : Profile) : Profile :=
  match decelTest remaining pr with
  | .decel => { pr with phase := .decel, q := max pr.a (pr.q - pr.a) }
  | .accel =>
    let q := min (pr.q + pr.a) pr.qCruise
    { pr with phase := if q = pr.qCruise then .cruise else .accel, q := q }
  | .cruise => { pr with phase := .cruise }
  | .none => pr
  | .stopping => pr

/-- What remains of the move: of the whole progress (R128), or of the bound of a jog (R144). -/
def remainingOf (mk : MoveKind) (pr : Profile) : Option Nat :=
  match mk with
  | .cue => some (fullProgress - pr.p)
  | .jog => pr.jMax.map fun m => m - pr.j

/-- Advance the progress or the displacement by the rate, clamped at its end (R128, R129, R144, R145). -/
def advanceBy (mk : MoveKind) (pr : Profile) : Profile :=
  match mk with
  | .cue => { pr with p := min fullProgress (pr.p + pr.q) }
  | .jog =>
    match pr.jMax with
    | none => { pr with j := pr.j + pr.q }
    | some m => { pr with j := min m (pr.j + pr.q) }

/-- Step 1 of a MOVING update (R128, R129, R144). -/
def advanceMoving (fixed : Bool) (mk : MoveKind) (pr : Profile) : Profile :=
  advanceBy mk (if fixed then { pr with q := pr.qCruise } else rampPhase (remainingOf mk pr) pr)

/-- Step 1 of a STOPPING update of a VARIABLE group: the stop ramp (R145). -/
def stopRamp (mk : MoveKind) (pr : Profile) : Profile := advanceBy mk { pr with q := pr.q - pr.a }

/-- The rate used for duty in an update that advanced from `before` to `after` (R131): 0 in a cue update that began with
the progress at its end. -/
def dutyRate (mk : MoveKind) (before after : Profile) : Nat :=
  match mk with
  | .cue => if before.p = fullProgress then 0 else after.q
  | .jog => after.q

/-! ### Commanded positions and errors (R130) -/

/-- +1 for UP, -1 for DOWN. -/
def Dir.sign : Dir → Int
  | .up => 1
  | .down => -1

/-- The commanded position of a member (R130). -/
def commanded (mk : MoveKind) (pr : Profile) (m : MemberPlan) : Int :=
  match mk with
  | .cue => (m.start : Int) + Dir.sign m.dir * ((m.dist * pr.p / fullProgress : Nat) : Int)
  | .jog => (m.start : Int) + Dir.sign m.dir * (pr.j : Int)

/-- The member error (R130): positive when the member is ahead in its direction of travel. -/
def memberError (mk : MoveKind) (pr : Profile) (m : MemberPlan) (position : Nat) : Int :=
  ((position : Int) - commanded mk pr m) * Dir.sign m.dir

/-! ### Duty (R131, R132) -/

/-- The feedforward duty of a VARIABLE member (R131). -/
def feedforward (mk : MoveKind) (qd delta dist rated : Nat) : Nat :=
  match mk with
  | .cue => dist * qd * 1000 * 255 / (fullProgress * delta * rated)
  | .jog => qd * 1000 * 255 / (delta * rated)

/-- The correction of a VARIABLE member (R132). -/
def correction (err : Int) (gainK : Nat) : Nat := err.natAbs * gainK / 16

/-- The duty written for a VARIABLE member (R132), clamped into 0..255. -/
def dutyOf (ff corr : Nat) (err : Int) : Nat :=
  if err < 0 then min 255 (ff + corr) else if 0 < err then min 255 (ff - corr) else min 255 ff

/-! ### Load shares (R146, R147) -/

/-- A load as a share of a total, in 1/1024. -/
def shareOf (load total : Nat) : Nat := load * 1024 / total

/-- The deviation from its reference share that a member is allowed (R147). -/
def shareMargin (ref tolerance : Nat) : Nat := ref * tolerance / 100 + 8

/-- The violation count after a comparison (R147): it rises by one, up to 3, or returns to 0. -/
def violNext (tolerance load total ref viol : Nat) : Nat :=
  if shareMargin ref tolerance < distance (shareOf load total) ref then min 3 (viol + 1) else 0

end Sys2Proof.Machine
end

