-- ==== Sys2Proof/Machine/Sequencer.lean ====
section
/-! DEFINITION. The group sequencer (06_motion_groups_and_cue_queues.md): starting, completing and stopping a group, the
checks of GO and JOG, and what the sequencer and the profile unit make of a member's entry to RUNNING or to PARKED. -/

namespace Sys2Proof.Machine

/-- Raise a notice of a console group; the pendant group has none (R122). -/
def raiseGroup (g : GroupId) (k : GroupNotice) (s : State) : State :=
  match g with
  | .console n => s.raise (.group n k)
  | .pendant => s

/-- The profile items of member `i` of group `g`. -/
def State.member (s : State) (g : GroupId) (i : Channel) : Member := (s.grp g).prof.members.get i

/-- `s` with the profile items of member `i` of group `g` changed by `f`. -/
def State.modMember (s : State) (g : GroupId) (i : Channel) (f : Member → Member) : State :=
  s.modGrp g fun r => { r with prof := { r.prof with members := r.prof.members.set i (f (r.prof.members.get i)) } }

/-! ### The checks of GO and JOG (R110, R112) -/

/-- The result of the first check that fails. -/
def firstFailure (checks : List (Bool × Result)) : Option Result := (checks.find? Prod.fst).map Prod.snd

/-- Check 1: a stop condition forbids new motion (R110, R154, R156, R158). -/
def stopHolds (s : State) : Bool :=
  decide (s.stops.estop ≠ .clear) || decide (s.stops.monitor = .low) || s.stops.rstin

/-- Check 2: the drive supply is OFF or FAILED (R41, R110). -/
def supplyDown (s : State) : Bool := decide (s.supply.state = .off) || decide (s.supply.state = .failed)

/-- A target lies outside the channel's active limits (R110). -/
def outsideLimits (c : Chan) (target : Nat) : Bool := decide (target < c.lower) || decide (c.upper < target)

/-- Check 9 for one entry: the hard limit switch in the direction of the target is open (R110). -/
def entryIntoSwitch (c : Chan) (target : Nat) : Bool :=
  (decide (c.position < target) && c.upperOpen) || (decide (target < c.position) && c.lowerOpen)

/-- The checks of R110 on group `g` and its head cue; none when all pass. -/
def goCheck (g : GroupId) (cue : Cue) (s : State) : Option Result :=
  let ms := (s.members g).map s.chan
  firstFailure
    [ (stopHolds s, .stopActive),
      (supplyDown s, .supplyOff),
      (cue.entries.any fun e => !s.isMember g e.1, .badValue),
      (ms.any fun c => !c.referenced, .notReferenced),
      ((ms.any fun c => decide (c.window ≠ .valid)) || (cue.entries.any fun e => outsideLimits (s.chan e.1) e.2),
        .outOfWindow),
      (ms.any fun c => decide (c.state = .faulted), .faulted),
      (ms.any fun c => c.thermal, .thermal),
      (ms.any fun c => decide (c.load.status = .unknown) || decide (c.load.status = .fault), .loadUnknown),
      (cue.entries.any fun e => entryIntoSwitch (s.chan e.1) e.2, .causePresent) ]

/-- The checks that R112 makes on a jog of group `g` in direction `d`; none when all pass. -/
def jogCheck (g : GroupId) (d : Dir) (s : State) : Option Result :=
  let ms := (s.members g).map s.chan
  firstFailure
    [ (stopHolds s, .stopActive),
      (supplyDown s, .supplyOff),
      (ms.any fun c => decide (c.state = .faulted), .faulted),
      (ms.any fun c => c.thermal, .thermal),
      (ms.any fun c => limitOpen c d, .causePresent) ]

/-! ### Entry to STARTING (R113) -/

/-- The start request of one member at entry to STARTING: for a member not arrived, while the group is STARTING. -/
def sendStart (g : GroupId) (s : State) (i : Channel) : State :=
  let m := s.member g i
  match m.plan with
  | none => s
  | some p => if (s.grp g).state = .starting ∧ m.arrived = false then startRequest i p.dir s else s

/-- Entry to STARTING after a plan (R113): the start timer and the update timer start and every member not arrived is sent
a start request. -/
def enterStarting (g : GroupId) (s : State) : State :=
  let s := s.modGrp g fun r =>
    { r with
      state := .starting
      startTimer := startMs s.timebase 3000
      updateTimer := startMs s.timebase (intervalMs r.interval) }
  (s.members g).foldl (sendStart g) s

/-- The start of a cue, less the hold deadline (R111): the move kind, the plan, entry to STARTING. -/
def startCue (g : GroupId) (cue : Cue) (s : State) : State :=
  enterStarting g (s.modGrp g fun r => { r with moveKind := .cue, prof := planCue g cue s })

/-- The start of a jog, less the hold deadline (R112, R143). -/
def startJog (g : GroupId) (d : Dir) (f ramp : Nat) (s : State) : State :=
  enterStarting g (s.modGrp g fun r => { r with moveKind := .jog, prof := planJog g d f ramp s })

/-- Every member of the group is arrived: nothing is to start (R113). -/
def nothingMoves (g : GroupId) (s : State) : Bool := (s.members g).all fun i => (s.member g i).arrived

/-! ### Completion and auto-follow (R116, R117, R135) -/

/-- A member rests outside its settle band (R135). -/
def outsideBand (g : GroupId) (s : State) (i : Channel) : Bool :=
  match (s.member g i).plan with
  | none => false
  | some p => decide ((s.grp g).windows.settleBand < distance (s.chan i).position p.target)

/-- The MISS notice of a completion (R135). -/
def missCheck (g : GroupId) (s : State) : State :=
  if (s.members g).any (outsideBand g s) then raiseGroup g .miss s else s

/-- Entry to IDLE at a completion (R116): the update timer stops, and with the move go the start timer and the profile
unit's hold and finish timers. The hold deadline is kept. -/
def completedIdle (r : Group) : Group :=
  { r with
    state := .idle
    startTimer := none
    updateTimer := none
    prof := { r.prof with holdTimer := none, finishTimer := none } }

/-- The arbiter makes the hold deadline of a group absent. -/
def dropDeadline (g : GroupId) (s : State) : State := s.modGrp g fun r => { r with deadline := none }

/-- A cue completes with this queue, head first (R116); after an AUTO_NEXT cue the next one is started as if by GO, under
the deadline left (R117), and where nothing moves it completes in its turn (R113). -/
def completeFrom (g : GroupId) : List Cue → State → State
  | [], s => s
  | head :: rest, s =>
    let s := missCheck g s
    let s := s.modGrp g fun r => { r with queue := rest }
    let s := raiseGroup g .done s
    let s := s.modGrp g completedIdle
    if head.follow = .autoNext ∧ (s.grp g).deadline.isSome then
      match rest with
      | [] => dropDeadline g s
      | next :: _ =>
        match goCheck g next s with
        | some _ => dropDeadline g s
        | none =>
          let s := startCue g next s
          if nothingMoves g s then completeFrom g rest s else s
    else dropDeadline g s

/-- The completion test (R135): every member of a MOVING cue group is arrived and PARKED. -/
def completionTest (g : GroupId) (s : State) : State :=
  let r := s.grp g
  if r.state = .moving ∧ r.moveKind = .cue ∧ nothingMoves g s ∧ s.allParked g then completeFrom g r.queue s else s

/-- A GO taken on a group that passed its checks (R111), with the hold deadline set for `holdWindow` (R90). -/
def goStart (g : GroupId) (s : State) : State :=
  match (s.grp g).queue with
  | [] => s
  | head :: rest =>
    let s := s.modGrp g fun r => { r with deadline := startMs s.timebase s.settings.holdWindow }
    let s := startCue g head s
    if nothingMoves g s then completeFrom g (head :: rest) s else s

/-! ### Controlled stops of a group (R115) -/

/-- The end of a group stop, when every member is PARKED (R115): PAUSED with its notice after a cue, IDLE after a jog; the
pendant group's entry to IDLE makes its evaluation (R122). -/
def stopTest (g : GroupId) (s : State) : State :=
  let r := s.grp g
  if r.state = .stopping ∧ s.allParked g then
    match g with
    | .pendant => pendantIdle s
    | .console n =>
      match r.moveKind with
      | .cue => (s.modGrp g fun r => { r with state := .paused, updateTimer := none }).raise (.group n .paused)
      | .jog => s.modGrp g fun r => { r with state := .idle, updateTimer := none }
  else s

/-- The stop request of one member at a group's entry to STOPPING: a RUNNING member of a VARIABLE group is left to the stop
ramp (R115, R145). -/
def stopAtEntry (fixed : Bool) (s : State) (i : Channel) : State :=
  if (s.chan i).state = .running ∧ fixed = false then s else stopMember .controlled s i

/-- A controlled stop of a group (R115); it acts on a group that is STARTING, MOVING or HOLDING. -/
def controlledStop (g : GroupId) (s : State) : State :=
  if (s.grp g).state.stoppable then
    let fixed := s.groupFixed g
    let s := s.modGrp g fun r =>
      let r := endMoveTimers r
      { r with state := .stopping, prof := { r.prof with phase := .stopping } }
    stopTest g ((s.members g).foldl (stopAtEntry fixed) s)
  else s

/-! ### What a member's RUNNING or PARKED makes of its group -/

/-- The group of channel `i` is told of its entry to RUNNING (R6, R113). -/
def tellRunning (i : Channel) (s : State) : State :=
  match (s.chan i).group with
  | none => s
  | some g =>
    if (s.grp g).state = .starting ∧
        ((s.members g).all fun k => (s.member g k).arrived || decide ((s.chan k).state = .running)) then
      s.modGrp g fun r => { r with state := .moving, startTimer := none }
    else s

/-- Start completion of channel `i` (R6). -/
def startCompletion (i : Channel) (s : State) : State :=
  tellRunning i (s.modChan i (chanEnterRunning s.timebase))

/-- The trim restart of a PARKED, trim-paused member at or below the trim-off window (R142). An arrived member is not restarted
(R134). -/
def trimRestart (g : GroupId) (i : Channel) (err : Int) (s : State) : State :=
  let m := s.member g i
  match m.plan with
  | none => s
  | some p =>
    if m.trimPaused ∧ m.arrived = false ∧ (s.chan i).state = .parked ∧ err ≤ (s.grp g).windows.trimOff then
      startRequest i p.dir (s.modMember g i fun m => { m with trimPaused := false })
    else s

/-- The trim restart test at a member's entry to PARKED: on an error formed from its position now and the commanded
position of the last update (R142). -/
def trimAtPark (g : GroupId) (i : Channel) (s : State) : State :=
  match (s.member g i).plan with
  | none => s
  | some p => trimRestart g i (memberError (s.grp g).moveKind (s.grp g).prof p (s.chan i).position) s

/-- The group sequencer and the profile unit are told of channel `i`'s entry to PARKED (R8, R12). -/
def tellParked (i : Channel) (s : State) : State :=
  match (s.chan i).group with
  | none => s
  | some g =>
    match (s.grp g).state with
    | .stopping => stopTest g s
    | .moving => completionTest g (trimAtPark g i s)
    | .holding => trimAtPark g i s
    | .tripped => if g = .pendant then pendantExit s else s
    | .idle => s
    | .starting => s
    | .paused => s

/-- What follows a change of channel `i`, which was in state `before`: where it has entered PARKED its group is told and
then any start pending is retested (R8). -/
def afterPark (before : ChanState) (i : Channel) (s : State) : State :=
  if before ≠ .parked ∧ (s.chan i).state = .parked then retestPending i (tellParked i s) else s

/-- A stop request to channel `i` from outside its group (R7), whose group is told where the stop is confirmed at once. -/
def stopTold (form : StopForm) (s : State) (i : Channel) : State :=
  afterPark (s.chan i).state i (s.modChan i (chanStop s.timebase form))

/-- A QUICK stop request to every channel that is not OFF (R44, R151, R158); an OFF channel discards it (R7). -/
def quickStopAll (s : State) : State := channels.foldl (stopTold .quick) s

/-- A trip that names no channel, to every group (R44, R151, R158). -/
def tripAll (cause : TripCause) (s : State) : State :=
  allGroups.foldl (fun s g => tripGroup cause none g s) s

end Sys2Proof.Machine
end

