-- ==== Sys2Proof/Machine/Update.lean ====
section
/-! DEFINITION. The group update (R125) step by step, and the expiries of a group's own timers (R92, R120, R136, R140). -/

namespace Sys2Proof.Machine

/-! ### Steps 2 and 3 -/

/-- The members of group `g` that are not arrived, ascending. -/
def State.live (s : State) (g : GroupId) : List Channel := (s.members g).filter fun i => !(s.member g i).arrived

/-- Step 2: the errors of all members, from the positions of this moment (R130). -/
def formErrors (g : GroupId) (s : State) : State :=
  let r := s.grp g
  let errs := r.prof.members.mapIdx fun i m =>
    if s.isMember g i then
      match m.plan with
      | none => m
      | some p => { m with err := memberError r.moveKind r.prof p (s.chan i).position }
    else m
  s.setGrp g { r with prof := { r.prof with members := errs } }

/-- Mark member `i` arrived; a trim pause ends with it (R133, R134). -/
def markArrived (g : GroupId) (i : Channel) (s : State) : State :=
  s.modMember g i fun m => { m with arrived := true, trimPaused := false }

/-- Step 3 for one member: the arrival of a VARIABLE member at the end of progress (R133), of a FIXED member within its
coast (R134). -/
def arrivalOf (g : GroupId) (fixed : Bool) (s : State) (i : Channel) : State :=
  let m := s.member g i
  match m.plan with
  | none => s
  | some p =>
    if m.arrived then s
    else if fixed then
      let c := s.chan i
      if ((p.target : Int) - c.position) * Dir.sign p.dir ≤ c.cfg.coast then
        let s := markArrived g i s
        if c.state = .running then stopMember .controlled s i else s
      else s
    else if (s.grp g).prof.p = fullProgress ∧ m.err.natAbs ≤ (s.grp g).windows.arriveBand then
      stopMember .controlled (markArrived g i s) i
    else s

/-- Step 3 of a cue (R133, R134); a jog has no arrivals. -/
def arrivals (g : GroupId) (s : State) : State :=
  match (s.grp g).moveKind with
  | .cue => (s.members g).foldl (arrivalOf g (s.groupFixed g)) s
  | .jog => s

/-! ### Step 4 -/

/-- Step 4: SYNC_LAG, else SYNC_LEAD, naming the lowest-numbered member found (R137). -/
def syncTrip (g : GroupId) (s : State) : Option (TripCause × Channel) :=
  let w := (s.grp g).windows
  match (s.live g).find? fun i => (s.member g i).err ≤ -(w.tripLag : Int) with
  | some i => some (.syncLag, i)
  | none =>
    match (s.live g).find? fun i => (w.tripLead : Int) ≤ (s.member g i).err with
    | some i => some (.syncLead, i)
    | none => none

/-! ### Step 5 -/

/-- Channel `i` has load state VALID. -/
def loadValid (s : State) (i : Channel) : Bool := (s.chan i).load.status = .valid

/-- The sum of the filtered loads of these channels. -/
def loadSum (s : State) (is : List Channel) : Nat := (is.map fun i => (s.chan i).load.filtered).sum

/-- `s` with the profile record of group `g` changed by `f`. -/
def State.modProf (s : State) (g : GroupId) (f : Profile → Profile) : State :=
  s.modGrp g fun r => { r with prof := f r.prof }

/-- The load-share decision at the first MOVING update (R146). -/
def decideShares (g : GroupId) (s : State) : State :=
  let taken := (s.members g).filter (loadValid s)
  let total := loadSum s taken
  if taken.length < 2 ∨ total < 50 then s.modProf g fun pr => { pr with loadCheck := .off }
  else
    s.modProf g fun pr =>
      { pr with
        loadCheck := .on
        members := pr.members.mapIdx fun i m =>
          if taken.contains i then { m with refShare := some (shareOf (s.chan i).load.filtered total), viol := 0 }
          else m }

/-- The members compared at an update: those with a reference share whose load state is VALID (R147). -/
def State.compared (s : State) (g : GroupId) : List Channel :=
  (s.members g).filter fun i => (s.member g i).refShare.isSome && loadValid s i

/-- A comparison is made at this update: at least two members are compared and their loads do not sum to 0 (step 2 of
R147). -/
def comparable (g : GroupId) (s : State) : Bool :=
  decide (2 ≤ (s.compared g).length) && decide (loadSum s (s.compared g) ≠ 0)

/-- The violation counts after a comparison (steps 1 to 4 of R147). -/
def compareShares (g : GroupId) (s : State) : State :=
  let compared := s.compared g
  let total := loadSum s compared
  let tolerance := (s.grp g).windows.shareTolerance
  s.modProf g fun pr =>
    { pr with
      members := pr.members.mapIdx fun i m =>
        match m.refShare with
        | none => m
        | some ref =>
          if compared.contains i then
            if comparable g s then { m with viol := violNext tolerance (s.chan i).load.filtered total ref m.viol }
            else m
          else if s.isMember g i then { m with viol := 0 }
          else m }

/-- The lowest-numbered member whose violation count is 3 after a comparison (step 5 of R147). -/
def shiftFound (g : GroupId) (s : State) : Option Channel :=
  if comparable g s then (s.compared g).find? fun i => 3 ≤ (s.member g i).viol else none

/-- Step 5: the decision, or the comparison where the check is ON; the member found, if the group is to trip with
LOAD_SHIFT. -/
def loadStep (g : GroupId) (s : State) : State × Option Channel :=
  match (s.grp g).prof.loadCheck, (s.grp g).state with
  | .undecided, .moving => (decideShares g s, none)
  | .on, _ => let s := compareShares g s; (s, shiftFound g s)
  | _, _ => (s, none)

/-! ### Step 6 -/

/-- A jog has reached its bound (R144). -/
def atBound (r : Group) : Bool :=
  match r.moveKind with
  | .cue => false
  | .jog => decide (r.prof.jMax = some r.prof.j)

/-- A member is behind by the hold lag (R138). -/
def holdDue (g : GroupId) (s : State) : Bool :=
  (s.live g).any fun i => decide ((s.member g i).err ≤ -((s.grp g).windows.holdLag : Int))

/-- Every member is within the release lag (R139). -/
def releaseDue (g : GroupId) (s : State) : Bool :=
  (s.live g).all fun i => decide (-((s.grp g).windows.releaseLag : Int) ≤ (s.member g i).err)

/-- Entry to HOLDING (R138). -/
def enterHolding (g : GroupId) (s : State) : State :=
  s.modGrp g fun r =>
    { r with
      state := .holding
      prof := { r.prof with q := 0, holdTimer := startMs s.timebase r.windows.holdTimeout } }

/-- Release from HOLDING (R139). -/
def releaseGroup (g : GroupId) (s : State) : State :=
  let fixed := s.groupFixed g
  s.modGrp g fun r =>
    { r with
      state := .moving
      prof := { r.prof with q := 0, phase := if fixed then .cruise else .accel, holdTimer := none } }

/-! ### Steps 7, 8 and 9 -/

/-- Step 7 for one FIXED member: a trim pause (R141) or a trim restart (R142). -/
def trimOf (g : GroupId) (s : State) (i : Channel) : State :=
  let r := s.grp g
  let m := s.member g i
  if r.state = .moving ∨ r.state = .holding then
    if (s.chan i).state = .running ∧ m.arrived = false ∧ m.trimPaused = false ∧ (r.windows.trimOn : Int) ≤ m.err then
      stopMember .controlled (s.modMember g i fun m => { m with trimPaused := true }) i
    else trimRestart g i m.err s
  else s

/-- A pending duty written to the generator of channel `i`; a channel that is not VARIABLE and RUNNING discards it (R38). -/
def writeDuty (duty : Nat) (i : Channel) (s : State) : State :=
  s.modChan i fun c =>
    if c.cfg.kind = .variableSpeed ∧ c.state = .running then { c with gen := { c.gen with pendingDuty := some duty } }
    else c

/-- Step 8 for one member (R131, R132): feedforward at the rate `qd` and correction by the member's error. -/
def dutyFor (g : GroupId) (qd : Nat) (s : State) (i : Channel) : State :=
  let r := s.grp g
  let m := s.member g i
  match m.plan with
  | none => s
  | some p =>
    let c := s.chan i
    if m.arrived = false ∧ c.state = .running then
      let ff := feedforward r.moveKind qd (intervalMs r.interval) p.dist c.cfg.ratedSpeed
      writeDuty (dutyOf ff (correction m.err c.cfg.gainK) m.err) i s
    else s

/-- Step 8 of a VARIABLE group (R132). -/
def dutyStep (g : GroupId) (qd : Nat) (s : State) : State := (s.members g).foldl (dutyFor g qd) s

/-- Step 9: the finish timer starts where the progress is at its end and a member is not arrived (R136). -/
def finishStep (g : GroupId) (s : State) : State :=
  let r := s.grp g
  if (r.state = .moving ∨ r.state = .holding) ∧ r.prof.p = fullProgress ∧ nothingMoves g s = false ∧
      r.prof.finishTimer = none then
    s.modProf g fun pr => { pr with finishTimer := startMs s.timebase 2000 }
  else s

/-- Steps 7 to 9 of an update of a group that is or was MOVING or HOLDING. -/
def updateTail (g : GroupId) (qd : Nat) (s : State) : State :=
  let s := if s.groupFixed g then (s.members g).foldl (trimOf g) s else dutyStep g qd s
  match (s.grp g).moveKind with
  | .jog => s
  | .cue => completionTest g (finishStep g s)

/-! ### The update -/

/-- Steps 4 and 5, which may trip the group and end the update (R125); otherwise `next` makes the rest. -/
def updateTests (g : GroupId) (s : State) (next : State → State) : State :=
  match syncTrip g s with
  | some (cause, i) => tripGroup cause (some i) g s
  | none =>
    match loadStep g s with
    | (s, some i) => tripGroup .loadShift (some i) g s
    | (s, none) => next s

/-- An update in STARTING (R125). -/
def updateStarting (g : GroupId) (s : State) : State :=
  let s := formErrors g s
  if s.groupFixed g then s else dutyStep g 0 s

/-- An update in MOVING (R125). -/
def updateMoving (g : GroupId) (s : State) : State :=
  let before := (s.grp g).prof
  let after := advanceMoving (s.groupFixed g) (s.grp g).moveKind before
  let qd := dutyRate (s.grp g).moveKind before after
  let s := arrivals g (formErrors g (s.modProf g fun _ => after))
  updateTests g s fun s =>
    if atBound (s.grp g) then updateTail g qd (controlledStop g s)
    else if holdDue g s then updateTail g 0 (enterHolding g s)
    else updateTail g qd s

/-- An update in HOLDING (R125). -/
def updateHolding (g : GroupId) (s : State) : State :=
  let s := arrivals g (formErrors g s)
  updateTests g s fun s => updateTail g 0 (if releaseDue g s then releaseGroup g s else s)

/-- The CONTROLLED stop of a RUNNING member at the end of the stop ramp (R145). -/
def stopRunning (s : State) (i : Channel) : State :=
  if (s.chan i).state = .running then stopMember .controlled s i else s

/-- An update in STOPPING (R125, R145). A FIXED group only forms its errors. -/
def updateStopping (g : GroupId) (s : State) : State :=
  if s.groupFixed g then formErrors g s
  else
    let before := (s.grp g).prof
    let after := stopRamp (s.grp g).moveKind before
    let qd := dutyRate (s.grp g).moveKind before after
    let s := formErrors g (s.modProf g fun _ => after)
    let s := if after.q = 0 then (s.members g).foldl stopRunning s else s
    stopTest g (dutyStep g qd s)

/-- A group update (R125): taken where the update timer runs, which then runs on for one more interval (R113). -/
def groupUpdate (g : GroupId) (s : State) : State :=
  match (s.grp g).updateTimer with
  | none => s
  | some e =>
    let s := s.modGrp g fun r => { r with updateTimer := startMs e (intervalMs r.interval) }
    match (s.grp g).state with
    | .starting => updateStarting g s
    | .moving => updateMoving g s
    | .holding => updateHolding g s
    | .stopping => updateStopping g s
    | .idle => s
    | .paused => s
    | .tripped => s

/-! ### The expiries of a group's own timers -/

/-- The start timer expires (R120): the lowest-numbered member neither arrived nor RUNNING is named. -/
def startTimeout (g : GroupId) (s : State) : State :=
  if (s.grp g).startTimer.isSome then
    tripGroup .startTimeout ((s.live g).find? fun i => decide ((s.chan i).state ≠ .running)) g s
  else s

/-- The member named at the expiry of the hold timer (R140). -/
def holdNamed (g : GroupId) (s : State) : Option Channel :=
  ((s.live g).find? fun i => decide ((s.member g i).err < -((s.grp g).windows.releaseLag : Int))).or (s.live g).head?

/-- The hold timer expires in HOLDING (R140). -/
def holdTimeout (g : GroupId) (s : State) : State :=
  if (s.grp g).prof.holdTimer.isSome then tripGroup .syncStall (holdNamed g s) g s else s

/-- The finish timer expires (R136): the lowest-numbered member not arrived is named. DESIGN CHOICE (log entry 33): where
every member is arrived and the last is not yet PARKED, the trip names no channel. -/
def finishTimeout (g : GroupId) (s : State) : State :=
  if (s.grp g).prof.finishTimer.isSome then tripGroup .syncStall (s.live g).head? g s else s

/-- The hold deadline of a console group expires (R92). A deadline that a HOLD of the same moment has renewed is not due, and
the expiry does not happen. -/
def deadlineExpired (g : ConsoleGroup) (s : State) : State :=
  if timerDue s.timebase (s.grp (.console g)).deadline then dropDeadline (.console g) (controlledStop (.console g) s) else s

end Sys2Proof.Machine
end

