-- ==== Sys2Proof/Machine/Lines.lean ====
section
/-! DEFINITION. The commands of a channel's lines and sequence timers (01_hoist_channels.md R14, R15;
02_drive_outputs_and_brake_sequencing.md R24 to R40). -/

namespace Sys2Proof.Machine

/-- What a meaning answers. -/
abbrev Answer := Host.Outcome State Fault Refusal

/-! ### Conditions (R1, R14, R15) -/

/-- The end of the first 20 ms after a power-on reset (R1): the condition fields take their lines and no notice is raised. It
comes once (log entry 3). -/
def initialSettle (thr ulim llim : EightSet) (s : State) : State :=
  if s.arb.settled then s
  else
    { s with
      arb := { s.arb with settled := true }
      chans := s.chans.mapIdx fun i c =>
        { c with thermal := inSet thr i, upperOpen := inSet ulim i, lowerOpen := inSet llim i } }

/-- INITIAL_CONDITION_SETTLE (R1). -/
def execInitialConditionSettle (thr ulim llim : EightSet) (s : State) : Answer := .next (initialSettle thr ulim llim s)

/-- The debounced THRn of channel `i` becomes open or closed (R14). -/
def thermalTo (i : Channel) (isOpen : Bool) (s : State) : State :=
  if (s.chan i).thermal = isOpen then s
  else
    let s := s.modChan i fun c => { c with thermal := isOpen }
    if isOpen then s.raise (.chan i .thermal) else s

/-- THERMAL_CHANGE (R14). -/
def execThermalChange (ch : Channel) (isOpen : Bool) (s : State) : Answer := .next (thermalTo ch isOpen s)

/-- The direction that a hard limit switch limits (R15). -/
def sideDir : Side → Dir
  | .upper => .up
  | .lower => .down

/-- `c` with a switch field written (R14). -/
def setSwitch (side : Side) (isOpen : Bool) (c : Chan) : Chan :=
  match side with
  | .upper => { c with upperOpen := isOpen }
  | .lower => { c with lowerOpen := isOpen }

/-- The channel is on a run that an opening of the switch of direction `d` stops: STARTING, RUNNING, or STOPPING under a
controlled stop, with last direction `d` (R15). -/
def runsInto (d : Dir) (c : Chan) : Bool :=
  decide (c.lastDir = some d) &&
    (match c.state with
     | .starting => true
     | .running => true
     | .stopping .controlled => true
     | .stopping .quick => false
     | .off => false
     | .parked => false
     | .faulted => false)

/-- A debounced ULIMn or LLIMn becomes open or closed (R14, R15). -/
def switchTo (i : Channel) (side : Side) (isOpen : Bool) (s : State) : State :=
  if limitOpen (s.chan i) (sideDir side) = isOpen then s
  else
    let s := s.modChan i (setSwitch side isOpen)
    if isOpen ∧ runsInto (sideDir side) (s.chan i) then
      let s := stopTold .quick s i
      tripGroupOf .limitSwitch i (s.raise (.chan i .limit))
    else s

/-- LIMIT_SWITCH_CHANGE (R15). -/
def execLimitSwitchChange (ch : Channel) (side : Side) (isOpen : Bool) (s : State) : Answer :=
  .next (switchTo ch side isOpen s)

/-! ### Current sense and the stuck-contactor watch (R34) -/

/-- The debounced CSn becomes active or inactive (R24, R34). -/
def currentTo (i : Channel) (active : Bool) (s : State) : State :=
  s.modChan i fun c => watchStuck s.timebase { c with out := { c.out with cs := active } }

/-- CURRENT_SENSE_CHANGE (R34). -/
def execCurrentSenseChange (ch : Channel) (active : Bool) (s : State) : Answer := .next (currentTo ch active s)

/-- The stuck-contactor timer reaches 100 ms (R34): one report for the spell. -/
def stuckTimeout (i : Channel) (s : State) : State :=
  match (s.chan i).out.stuck with
  | .timing _ =>
    faultReport i .stuckContactor (s.modChan i fun c => { c with out := { c.out with stuck := .reported } })
  | .idle => s
  | .reported => s

/-- STUCK_CONTACTOR_TIMEOUT (R34). -/
def execStuckContactorTimeout (ch : Channel) (s : State) : Answer := .next (stuckTimeout ch s)

/-! ### Brake feedback (R24, R28, R32, R33, R55) -/

/-- What a change of BFBn makes of a channel whose brake feedback is fitted: the brake part of a confirmation done when it
shows set (R32, R33), slip armed following it while PARKED or FAULTED (R55). -/
def feedbackChan (now : Time) (released : Bool) (c : Chan) : Chan :=
  let c := { c with out := { c.out with bfb := released } }
  match c.state with
  | .stopping _ => if released then c else chanFinishStop now { c with out := { c.out with confirmTimer := none } }
  | .faulted =>
    { c with
      out := { c.out with confirmTimer := if released then c.out.confirmTimer else none }
      pos := { c.pos with slipArmed := !released } }
  | .parked => { c with pos := { c.pos with slipArmed := !released } }
  | .starting => c
  | .running => c
  | .off => c

/-- The debounced BFBn becomes released or set (R28, R32, R33, R55). Where brake feedback is not fitted the level is held and
not read (R24). -/
def feedbackTo (i : Channel) (released : Bool) (s : State) : State :=
  let c := s.chan i
  if c.cfg.bfbFitted then
    let s := s.setChan i (feedbackChan s.timebase released c)
    if released ∧ c.state = .starting ∧ c.out.brakeTimer.isSome then startCompletion i s
    else afterPark c.state i s
  else s.setChan i { c with out := { c.out with bfb := released } }

/-- BRAKE_FEEDBACK_CHANGE (R28). -/
def execBrakeFeedbackChange (ch : Channel) (released : Bool) (s : State) : Answer := .next (feedbackTo ch released s)

/-! ### The sequence timers -/

/-- The torque timer expires on a STARTING channel (R27): current proves the torque, its absence is NO_CURRENT. BFBn already
showing released completes the start at this moment (R28). -/
def torqueExpired (i : Channel) (s : State) : State :=
  let c := s.chan i
  if c.state = .starting ∧ c.out.torqueTimer.isSome then
    if c.out.cs then
      let s := s.setChan i (chanReleaseBrake s.timebase c)
      if c.cfg.bfbFitted ∧ c.out.bfb then startCompletion i s else s
    else faultReport i .noCurrent (s.setChan i { c with out := { c.out with torqueTimer := none } })
  else s

/-- TORQUE_TIMER_EXPIRY (R27). -/
def execTorqueTimerExpiry (ch : Channel) (s : State) : Answer := .next (torqueExpired ch s)

/-- The brake timer expires in STARTING (R28): BRAKE_NO_RELEASE with brake feedback fitted, start completion without. -/
def brakeExpired (i : Channel) (s : State) : State :=
  let c := s.chan i
  if c.state = .starting ∧ c.out.brakeTimer.isSome then
    let s := s.setChan i { c with out := { c.out with brakeTimer := none } }
    if c.cfg.bfbFitted then faultReport i .brakeNoRelease s else startCompletion i s
  else s

/-- BRAKE_TIMER_EXPIRY (R28). -/
def execBrakeTimerExpiry (ch : Channel) (s : State) : Answer := .next (brakeExpired ch s)

/-- Brake time runs out in a brake-set confirmation (R32, R33): BRAKE_NO_SET with brake feedback fitted and showing released;
otherwise the brake part is done, which parks a STOPPING channel whose lines are down and arms the slip check of a FAULTED
one (R55). A brake that never lifted shows set throughout (log entry 22). -/
def confirmExpired (i : Channel) (s : State) : State :=
  let c := s.chan i
  if c.out.confirmTimer.isSome then
    let c' := { c with out := { c.out with confirmTimer := none } }
    if c.cfg.bfbFitted ∧ c.out.bfb then faultReport i .brakeNoSet (s.setChan i c')
    else if c.state = .faulted then s.setChan i { c' with pos := { c'.pos with slipArmed := true } }
    else afterPark c.state i (s.setChan i (chanFinishStop s.timebase c'))
  else s

/-- BRAKE_SET_TIME_EXPIRY (R32). -/
def execBrakeSetTimeExpiry (ch : Channel) (s : State) : Answer := .next (confirmExpired ch s)

/-- The stop hold timer expires in a controlled stop (R30, R32): the direction line goes off. -/
def holdLineExpired (i : Channel) (s : State) : State :=
  let c := s.chan i
  if c.out.stopHoldTimer.isSome then
    afterPark c.state i
      (s.setChan i
        (chanFinishStop s.timebase
          { c with out := { c.out with raise := false, lower := false, stopHoldTimer := none } }))
  else s

/-- STOP_HOLD_EXPIRY (R30). -/
def execStopHoldExpiry (ch : Channel) (s : State) : Answer := .next (holdLineExpired ch s)

/-- The reversal dwell expires (R35): any start pending is retested (R5). -/
def dwellExpired (i : Channel) (s : State) : State :=
  if (s.chan i).out.dwellTimer.isSome then
    retestPending i (s.modChan i fun c => { c with out := { c.out with dwellTimer := none } })
  else s

/-- REVERSAL_DWELL_EXPIRY (R35). -/
def execReversalDwellExpiry (ch : Channel) (s : State) : Answer := .next (dwellExpired ch s)

/-! ### The reference generator (R37, R38, R40, R59) -/

/-- A period of the generator starts (R38, R40): it takes the pending duty and the frequency code in force, and on a RUNNING
VARIABLE channel the position unit starts or cancels the no-motion timer by the duty (R59). -/
def periodStarts (now : Time) (c : Chan) : Chan :=
  let duty := c.gen.pendingDuty.getD c.gen.duty
  { c with
    gen := { duty := duty, pendingDuty := none, periodCode := c.cfg.refCode, periodStart := now }
    pos := { c.pos with
      noMotion :=
        if c.cfg.kind = .variableSpeed ∧ c.state = .running then
          if 16 ≤ duty then (if c.pos.noMotion.isSome then c.pos.noMotion else startMs now 1000) else none
        else c.pos.noMotion } }

/-- REFERENCE_PERIOD_START (R38). -/
def execReferencePeriodStart (ch : Channel) (s : State) : Answer := .next (s.modChan ch (periodStarts s.timebase))

end Sys2Proof.Machine
end

