-- ==== Sys2Proof/Machine/Position.lean ====
section
/-! DEFINITION. The commands of the position unit (03_chain_position_and_speed.md). -/

namespace Sys2Proof.Machine

/-- How a change of the encoder pair reads (R47). -/
inductive EdgeReading where
  | unchanged
  | edge (d : Dir)
  | illegal
deriving DecidableEq, Repr

/-- The place of a pair in the UP sequence (0,0), (1,0), (1,1), (0,1) of R47. -/
def pairPhase (p : EncPair) : Nat :=
  match p.a, p.b with
  | false, false => 0
  | true, false => 1
  | true, true => 2
  | false, true => 3

/-- The reading of a change from the held pair to the seen pair (the table of R47). -/
def readPair (held seen : EncPair) : EdgeReading :=
  match (pairPhase seen + 4 - pairPhase held) % 4 with
  | 0 => .unchanged
  | 1 => .edge .up
  | 2 => .illegal
  | _ => .edge .down

/-- The measured speed for two edges at these times (R54): the interval is taken modulo 2^32. -/
def speedOf (earlier later : Time) : Nat :=
  let interval := (later - earlier).toNat
  if interval < 16 then 65535 else 1000000 / interval

/-- The edge capture, the measured speed and the speed timeout after a legal edge (R53, R54). -/
def captureEdge (now : Time) (d : Dir) (u : PosUnit) : PosUnit :=
  let u := { u with speedTimeout := startMs now 250 }
  match u.capture, decide (u.lastEdge = some d) with
  | .one t, true => { u with capture := .two t now, speed := speedOf t now }
  | .two _ t, true => { u with capture := .two t now, speed := speedOf t now }
  | _, _ => { u with capture := .one now, lastEdge := some d, speed := 0 }

/-- An edge in direction `d` would take the position past a bound (R51). -/
def pastBound (d : Dir) (position : Nat) : Bool :=
  match d with
  | .up => decide (65535 ≤ position)
  | .down => decide (position = 0)

/-- The bound flag at the bound of direction `d` (R51). -/
def boundOf : Dir → BoundFlag
  | .up => .high
  | .down => .low

/-- Step 1 of R48: the position moves one count, or saturates (R51). The first saturated edge at a bound loses the reference
(R52) and reports ENCODER. -/
def edgePosition (i : Channel) (d : Dir) (s : State) : State :=
  let c := s.chan i
  if pastBound d c.position then
    if c.pos.bound = boundOf d then s
    else
      let s := s.setChan i { c with pos := { c.pos with bound := boundOf d } }
      faultReport i .encoder (loseReference i s)
  else
    s.setChan i
      { c with
        position := match d with
          | .up => c.position + 1
          | .down => c.position - 1
        pos := { c.pos with bound := .none } }

/-- Step 3 of R48: an armed and counting slip accumulator takes the edge and reports BRAKE_SLIP at the slip count (R56). -/
def edgeSlip (i : Channel) (d : Dir) (s : State) : State :=
  let c := s.chan i
  if c.pos.slipArmed ∧ c.pos.slipStopped = false then
    let n := c.pos.slip + Dir.sign d
    let full := decide (c.cfg.slipCount ≤ n.natAbs)
    let s := s.setChan i { c with pos := { c.pos with slip := n, slipStopped := full } }
    if full then faultReport i .brakeSlip s else s
  else s

/-- The wrong-direction count after an edge (R58). It does not pass the lower end of its range (log entry 14). -/
def wrongNext (against : Bool) (n : Int) : Int := if against then n + 1 else max (-65535) (n - 1)

/-- Step 4 of R48: on a RUNNING channel the wrong-direction count takes the edge and reports WRONG_DIRECTION at 16 (R58). -/
def edgeWrong (i : Channel) (d : Dir) (s : State) : State :=
  let c := s.chan i
  if c.state = .running then
    let n := wrongNext (decide (c.lastDir = some d.opposite)) c.pos.wrongDir
    let s := s.setChan i { c with pos := { c.pos with wrongDir := n } }
    if 16 ≤ n then faultReport i .wrongDirection s else s
  else s

/-- Step 5 of R48: a running no-motion timer restarts (R59). -/
def edgeMotion (i : Channel) (s : State) : State :=
  s.modChan i fun c =>
    if c.pos.noMotion.isSome then { c with pos := { c.pos with noMotion := startMs s.timebase 1000 } } else c

/-- A legal edge on a channel that is not OFF: the five effects of R48 in order. -/
def legalEdge (i : Channel) (d : Dir) (s : State) : State :=
  let s := edgePosition i d s
  let s := s.modChan i fun c => { c with pos := captureEdge s.timebase d c.pos }
  edgeMotion i (edgeWrong i d (edgeSlip i d s))

/-- An illegal transition on a channel that is not OFF (R50). -/
def illegalEdge (i : Channel) (s : State) : State :=
  let s := loseReference i s
  let s := s.modChan i fun c =>
    { c with pos := { c.pos with capture := .empty, speed := 0, speedTimeout := none, lastEdge := none } }
  faultReport i .encoder s

/-- A seen change of the encoder lines (R47, R49): the seen pair becomes the held pair, and on a channel that is not OFF the
change is an edge or an illegal transition. -/
def encoderTo (i : Channel) (seen : EncPair) (s : State) : State :=
  let c := s.chan i
  let s := s.setChan i { c with pos := { c.pos with held := seen } }
  if c.state = .off then s
  else
    match readPair c.pos.held seen with
    | .unchanged => s
    | .edge d => legalEdge i d s
    | .illegal => illegalEdge i s

/-- ENCODER_CHANGE (R47). -/
def execEncoderChange (ch : Channel) (seen : EncPair) (s : State) : Answer := .next (encoderTo ch seen s)

/-- The speed timeout expires (R53): the capture is emptied and the measured speed becomes 0; the last edge direction stays.
A timeout that an edge of the same moment has restarted is not due. -/
def speedExpired (i : Channel) (s : State) : State :=
  if timerDue s.timebase (s.chan i).pos.speedTimeout then
    s.modChan i fun c => { c with pos := { c.pos with capture := .empty, speed := 0, speedTimeout := none } }
  else s

/-- SPEED_TIMEOUT_EXPIRY (R53). -/
def execSpeedTimeoutExpiry (ch : Channel) (s : State) : Answer := .next (speedExpired ch s)

/-- The no-motion timer expires on a RUNNING channel (R59). A timer that an edge of the same moment has restarted is not
due. -/
def motionExpired (i : Channel) (s : State) : State :=
  if timerDue s.timebase (s.chan i).pos.noMotion then
    let s := s.modChan i fun c => { c with pos := { c.pos with noMotion := none } }
    if (s.chan i).state = .running then faultReport i .noMotion s else s
  else s

/-- NO_MOTION_EXPIRY (R59). -/
def execNoMotionExpiry (ch : Channel) (s : State) : Answer := .next (motionExpired ch s)

end Sys2Proof.Machine
end

