-- ==== Sys2Proof/Machine/Load.lean ====
section
/-! DEFINITION. The load unit (04_load_measurement_and_envelopes.md): the scanner, calibration, the ring, the checks, and the
effects of a change of assignment, of calibration and of the enable set. -/

namespace Sys2Proof.Machine

/-! ### The scanner (R67) -/

/-- The lowest enabled input. -/
def lowestInput (enable : EightSet) : Option LoadInput := channels.find? (inSet enable)

/-- The lowest enabled input above `i`, or else the lowest enabled input (R67). -/
def nextInput (enable : EightSet) (i : LoadInput) : Option LoadInput :=
  (channels.find? fun k => decide (i < k) && inSet enable k).or (lowestInput enable)

/-- The scanner starts a conversion of this input now, or becomes idle (R67). -/
def startConversion (now : Time) (next : Option LoadInput) : Option Conversion :=
  next.map fun k => { input := k, start := now, discard := false }

/-! ### A good reading (R71, R73) -/

/-- The load of a good raw reading (R71): floor((r - zero) * gain / 256), clamped into 0..9999. -/
def calibrate (zeroPoint gain raw : Nat) : Nat := min 9999 ((raw - zeroPoint) * gain / 256)

/-- A load joins the ring after the newest; of five the oldest leaves (R73). -/
def ringJoin (ring : List Nat) (load : Nat) : List Nat :=
  let ring := ring ++ [load]
  if 4 < ring.length then ring.tail else ring

/-- The filtered load of a ring: the floored mean of its loads (R73). -/
def ringMean (ring : List Nat) : Nat := ring.sum / ring.length

/-- A raw reading taken into a channel's items (steps 1 to 4 of R69), under this enable set. A sensor reading sets both
counters to 0 (R70). -/
def takeReading (enable : EightSet) (raw : Nat) (u : LoadUnit) : LoadUnit :=
  let u := { u with raw := some raw }
  let u :=
    if isSensorReading raw then { u with overCount := 0, underCount := 0 }
    else
      let ring := ringJoin u.ring (calibrate u.zero u.gain raw)
      { u with ring := ring, filtered := ringMean ring }
  { u with status := deriveLoad enable u }

/-! ### The envelope checks (R74, R75) -/

/-- The count after a check: a violation raises it, up to 3, anything else sets it to 0. -/
def checkCount (violates : Bool) (n : Nat) : Nat := if violates then min 3 (n + 1) else 0

/-- A report is due: the counter stands at 3 after a violation and the kind is not in the fault set (R74, R75). -/
def checkReports (violates : Bool) (n : Nat) (k : FaultKind) (c : Chan) : Bool :=
  violates && decide (n = 3) && !hasFault c.faults k

/-- The overload check on a new filtered load (R74). -/
def overloadCheck (i : Channel) (s : State) : State :=
  let c := s.chan i
  let violates := decide (c.envMax < c.load.filtered)
  let n := checkCount violates c.load.overCount
  let s := s.setChan i { c with load := { c.load with overCount := n } }
  if checkReports violates n .overload c then faultReport i .overload s else s

/-- The underload check on a new filtered load: it counts only while the channel is RUNNING DOWN (R75). -/
def underloadCheck (i : Channel) (s : State) : State :=
  let c := s.chan i
  let violates := decide (c.load.filtered < c.envMin) && decide (c.state = .running) && decide (c.lastDir = some .down)
  let n := checkCount violates c.load.underCount
  let s := s.setChan i { c with load := { c.load with underCount := n } }
  if checkReports violates n .underload c then faultReport i .underload s else s

/-- A result reaches channel `i` (R69, R70): the reading is taken, and on a channel that is not OFF a good reading is checked
and a sensor reading is reported as LOADCELL, unless LOADCELL is in the fault set. -/
def takeResult (i : Channel) (raw : Nat) (s : State) : State :=
  let s := s.modChan i fun c => { c with load := takeReading s.settings.enable raw c.load }
  let c := s.chan i
  if c.state = .off then s
  else if isSensorReading raw then
    if hasFault c.faults .loadcell then s else faultReport i .loadcell s
  else underloadCheck i (overloadCheck i s)

/-- The channel that input `k` is assigned to (R69). -/
def assignedTo (s : State) (k : LoadInput) : Option Channel :=
  channels.find? fun i => decide ((s.chan i).load.input = some k)

/-- A conversion completes (R67, R68, R69): an unmarked result goes to the channel its input is assigned to, and the scanner
starts the next input of the enable set. -/
def conversionDone (raw : Nat) (s : State) : State :=
  match s.scanner with
  | none => s
  | some conv =>
    let s :=
      if conv.discard then s
      else
        match assignedTo s conv.input with
        | none => s
        | some i => takeResult i raw s
    { s with scanner := startConversion s.timebase (nextInput s.settings.enable conv.input) }

/-- CONVERSION_COMPLETE (R69). -/
def execConversionComplete (raw : BitVec 12) (s : State) : Answer := .next (conversionDone raw.toNat s)

/-! ### Changes of assignment, calibration and enable set -/

/-- The conversion in flight marked for discard (R68). -/
def markDiscard (s : State) : State := { s with scanner := s.scanner.map fun conv => { conv with discard := true } }

/-- The scanner is converting this input. -/
def converting (s : State) (k : LoadInput) : Bool := s.scanner.any fun conv => decide (conv.input = k)

/-- A channel's ring, filtered load and counters emptied (R65, R66, R72). -/
def emptyRing (u : LoadUnit) : LoadUnit := { u with ring := [], filtered := 0, overCount := 0, underCount := 0 }

/-- A different assignment stored on channel `i` (R65), with the conversion of the old or the new input marked (R68). -/
def assignInput (i : Channel) (new : Option LoadInput) (s : State) : State :=
  let old := (s.chan i).load.input
  let s := s.modChan i fun c =>
    let u := { emptyRing c.load with input := new, raw := none }
    { c with load := { u with status := deriveLoad s.settings.enable u } }
  if old.any (converting s) || new.any (converting s) then markDiscard s else s

/-- A zero and a gain stored on channel `i`, clamped (R72). The latest raw reading is kept. -/
def storeCal (enable : EightSet) (zeroPoint gain : Nat) (c : Chan) : Chan :=
  let u := { emptyRing c.load with zero := clamp 1 4094 zeroPoint, gain := clamp 1 1023 gain }
  { c with load := { u with status := deriveLoad enable u } }

/-- What a new enable set makes of a channel: where its input enters or leaves the set its items are emptied and its load
state is derived anew; any other channel is kept (R66). -/
def enableChan (old new : EightSet) (c : Chan) : Chan :=
  match c.load.input with
  | none => c
  | some k =>
    if inSet old k = inSet new k then c
    else
      let u := { emptyRing c.load with raw := none }
      { c with load := { u with status := deriveLoad new u } }

/-- An enable set stored by SET_PART (R66): a different one marks the conversion in flight, starts an idle scanner and
reaches the channels whose inputs enter or leave. -/
def storeEnable (new : EightSet) (s : State) : State :=
  let old := s.settings.enable
  if old = new then s
  else
    let scanner := match s.scanner with
      | some conv => some { conv with discard := true }
      | none => startConversion s.timebase (lowestInput new)
    { s with
      settings := { s.settings with enable := new }
      scanner := scanner
      chans := s.chans.mapIdx fun _ c => enableChan old new c }

/-- An envelope stored with clamping: the maximum against the rated load, then the minimum against the maximum (R22, R76). -/
def storeEnvelope (envMin envMax : Nat) (c : Chan) : Chan :=
  let m := clamp 1 (c.cfg.ratedLoad * 5 / 4) envMax
  { c with envMax := m, envMin := clamp 0 (m - 1) envMin }

end Sys2Proof.Machine
end

