-- ==== Sys2Proof/Machine/Stops.lean ====
section
/-! DEFINITION. The drive supply (02_drive_outputs_and_brake_sequencing.md R41 to R45) and the stop and trip unit
(08_stops_and_trips.md). -/

namespace Sys2Proof.Machine

/-! ### The drive supply -/

/-- A change of the drive supply's state, with its SUPPLY notice (R41). -/
def supplyTo (f : Supply → Supply) (s : State) : State := { s with supply := f s.supply }.raise .supply

/-- The supply proven closed (R43): from CLOSING to SETTLING. -/
def supplySettling (s : State) : State :=
  supplyTo (fun u => { u with
    state := .settling, closingTimer := none, settlingTimer := startMs s.timebase 1500 }) s

/-- The supply failed (R43, R44). -/
def supplyFailed (s : State) : State :=
  supplyTo (fun u => { u with state := .failed, mains := false, closingTimer := none, settlingTimer := none }) s

/-- The supply switched off (R42, R45). -/
def supplyOff (s : State) : State :=
  supplyTo (fun u => { u with state := .off, mains := false, closingTimer := none, settlingTimer := none }) s

/-- The supply closing (R42); MAINSFB already closed proves it at once (R43). -/
def supplyClosing (s : State) : State :=
  let s := supplyTo (fun u => { u with
    state := .closing, mains := true, closingTimer := startMs s.timebase 500, settlingTimer := none }) s
  if s.supply.mainsfb then supplySettling s else s

/-- The supply is lost while ON (R44): FAILED, QUICK stops of every channel not OFF, SUPPLY_LOST trips. -/
def supplyLost (s : State) : State := tripAll .supplyLost (quickStopAll (supplyFailed s))

/-- The debounced MAINSFB becomes closed or open (R43, R44). -/
def mainsfbTo (closed : Bool) (s : State) : State :=
  if s.supply.mainsfb = closed then s
  else
    let s := { s with supply := { s.supply with mainsfb := closed } }
    match s.supply.state with
    | .closing => if closed then supplySettling s else s
    | .settling => if closed then s else supplyFailed s
    | .on => if closed then s else supplyLost s
    | .off => s
    | .failed => s

/-- MAINSFB_CHANGE (R44). -/
def execMainsfbChange (closed : Bool) (s : State) : Answer := .next (mainsfbTo closed s)

/-- The closing timer expires with MAINSFB open (R43). -/
def closingExpired (s : State) : State :=
  if s.supply.state = .closing ∧ s.supply.closingTimer.isSome then supplyFailed s else s

/-- CLOSING_TIMER_EXPIRY (R43). -/
def execClosingTimerExpiry (s : State) : Answer := .next (closingExpired s)

/-- The settling timer expires (R43): the supply is ON and every start pending is retested (R36). -/
def settlingExpired (s : State) : State :=
  if s.supply.state = .settling ∧ s.supply.settlingTimer.isSome then
    let s := supplyTo (fun u => { u with state := .on, settlingTimer := none }) s
    channels.foldl (fun s i => retestPending i s) s
  else s

/-- SETTLING_TIMER_EXPIRY (R43). -/
def execSettlingTimerExpiry (s : State) : Answer := .next (settlingExpired s)

/-! ### The emergency stop (R149 to R153) -/

/-- The pendant stop holds: PPRES reads present and PSTOP reads open (08_stops_and_trips.md, before R150). -/
def pendantStop (s : State) : Bool := s.arb.ppres && !s.arb.pstopClosed

/-- An opening of the loop or a beginning of the pendant stop (R151). -/
def estopOpens (cause : EstopCause) (s : State) : State :=
  if s.stops.estop = .active then s
  else
    let s := { s with stops := { s.stops with estop := .active, cause := cause } }
    ((tripAll .estop (quickStopAll s)).raise .estop).retrip

/-- The test for closure (R152). -/
def estopCloses (s : State) : State :=
  if s.stops.estop = .active ∧ s.stops.estinClosed ∧ pendantStop s = false then
    ({ s with stops := { s.stops with estop := .latched } }.raise .estop).retrip
  else s

/-- The debounced ESTIN becomes closed or open (R151, R152). -/
def estinTo (closed : Bool) (s : State) : State :=
  if s.stops.estinClosed = closed then s
  else
    let s := { s with stops := { s.stops with estinClosed := closed } }
    if closed then estopCloses s else estopOpens .loop s

/-- ESTIN_CHANGE (R151). -/
def execEstinChange (closed : Bool) (s : State) : Answer := .next (estinTo closed s)

/-- The end of ESTIN's first 10 ms after a power-on reset (R149): no notice is raised and the pendant plays no part. It
comes once (log entry 3). -/
def estinSettle (closed : Bool) (s : State) : State :=
  if s.stops.estinSettled then s
  else
    let s := { s with stops := { s.stops with estinSettled := true, estinClosed := closed } }
    if closed ∧ s.stops.estop = .active then { s with stops := { s.stops with estop := .latched } }.retrip else s

/-- ESTIN_FIRST_SETTLE (R149). -/
def execEstinFirstSettle (closed : Bool) (s : State) : Answer := .next (estinSettle closed s)

/-- The debounced PSTOP becomes closed or open (R150). It is read while PPRES reads present. -/
def pstopTo (closed : Bool) (s : State) : State :=
  if s.arb.pstopClosed = closed then s
  else
    let s := { s with arb := { s.arb with pstopClosed := closed } }
    if s.arb.ppres then (if closed then estopCloses s else estopOpens .pendant s) else s

/-- PSTOP_CHANGE (R150). -/
def execPstopChange (closed : Bool) (s : State) : Answer := .next (pstopTo closed s)

/-! ### The remote stop (R155, R156) -/

/-- The debounced RSTIN becomes asserted or not (R155, R156). -/
def rstinTo (asserted : Bool) (s : State) : State :=
  if s.stops.rstin = asserted then s
  else
    let s := { s with stops := { s.stops with rstin := asserted } }
    if asserted then allGroups.foldl (fun s g => controlledStop g s) s else s

/-- RSTIN_CHANGE (R155). -/
def execRstinChange (asserted : Bool) (s : State) : Answer := .next (rstinTo asserted s)

/-! ### The control-supply monitor (R157 to R159) -/

/-- The threshold of monitor level `level` in millivolts: 18.0 V + 0.5 V x level (R157). -/
def thresholdMv (level : Nat) : Nat := 18000 + 500 * level

/-- The beginning of control low (R158): QUICK stops, SUPPLY_LOW trips, the drive supply off, the SUPPLY notice, TRIPOUT. -/
def controlLowBegins (s : State) : State :=
  let s := { s with stops := { s.stops with monitor := .low, lowTimer := none } }
  let s := tripAll .supplyLow (quickStopAll s)
  let s := if s.supply.state = .off then s else supplyOff s
  (s.raise .supply).retrip

/-- The end of control low (R159). -/
def controlLowEnds (s : State) : State :=
  ({ s with stops := { s.stops with monitor := .normal, lowTimer := none } }.raise .supply).retrip

/-- The monitor compares VCTL with the threshold (R157). -/
def monitorCompare (s : State) : State :=
  let v := s.stops.vctl
  let threshold := thresholdMv s.settings.level
  match s.stops.monitor with
  | .normal =>
    if v < threshold then { s with stops := { s.stops with monitor := .dip, lowTimer := startMs s.timebase 10 } } else s
  | .dip => if threshold ≤ v then { s with stops := { s.stops with monitor := .normal, lowTimer := none } } else s
  | .low => if threshold + 500 < v then controlLowEnds s else s

/-- VCTL moves to `mv` millivolts and the monitor, which compares continuously, sees it (R157; log entry 15). DESIGN CHOICE
(log entry 32): no level counts as the loss of the control supply (R183), so the attention lines stand. -/
def vctlTo (mv : Nat) (s : State) : State := monitorCompare { s with stops := { s.stops with vctl := mv } }

/-- VCTL_BELOW_THRESHOLD (R157). -/
def execVctlBelowThreshold (mv : Nat) (s : State) : Answer := .next (vctlTo mv s)

/-- VCTL_AT_THRESHOLD (R157). -/
def execVctlAtThreshold (mv : Nat) (s : State) : Answer := .next (vctlTo mv s)

/-- VCTL_ABOVE_HYSTERESIS (R159). -/
def execVctlAboveHysteresis (mv : Nat) (s : State) : Answer := .next (vctlTo mv s)

/-- The low timer expires in DIP (R157, R158). -/
def lowExpired (s : State) : State :=
  if s.stops.monitor = .dip ∧ s.stops.lowTimer.isSome then controlLowBegins s else s

/-- LOW_TIMER_EXPIRY (R158). -/
def execLowTimerExpiry (s : State) : Answer := .next (lowExpired s)

end Sys2Proof.Machine
end

