-- ==== Sys2Proof/Machine/Arbiter.lean ====
section
/-! DEFINITION. The selection arbiter's own commands (05_masters_and_selection.md): the pendant's lines and the console
links. -/

namespace Sys2Proof.Machine

/-! ### The pendant's lines (R93 to R100) -/

/-- `m` with the membership of channel `i` written. -/
def writeBit (m : EightSet) (i : Channel) (v : Bool) : EightSet :=
  if v then m ||| BitVec.twoPow 8 i.val else m &&& ~~~(BitVec.twoPow 8 i.val)

/-- A debounced PSELn becomes closed or open (R95, R99): an evaluation while the pendant group is IDLE, a controlled stop
where a member's switch opens during a jog. -/
def pselTo (i : Channel) (closed : Bool) (s : State) : State :=
  if inSet s.arb.psel i = closed then s
  else
    let s := { s with arb := { s.arb with psel := writeBit s.arb.psel i closed } }
    match (s.grp .pendant).state with
    | .idle => pendantEval s
    | .starting => if closed = false ∧ s.isMember .pendant i then controlledStop .pendant s else s
    | .moving => if closed = false ∧ s.isMember .pendant i then controlledStop .pendant s else s
    | .holding => if closed = false ∧ s.isMember .pendant i then controlledStop .pendant s else s
    | .stopping => s
    | .paused => s
    | .tripped => s

/-- PSEL_CHANGE (R95). -/
def execPselChange (ch : Channel) (closed : Bool) (s : State) : Answer := .next (pselTo ch closed s)

/-- What a change of PPRES makes of the pendant group (R95, R96). -/
def presenceActs (present : Bool) (s : State) : State :=
  match (s.grp .pendant).state with
  | .idle => pendantEval s
  | .starting => if present then s else controlledStop .pendant s
  | .moving => if present then s else controlledStop .pendant s
  | .holding => if present then s else controlledStop .pendant s
  | .stopping => s
  | .paused => s
  | .tripped => s

/-- The debounced PPRES becomes present or absent (R96): the PENDANT notice, unless the first 20 ms have not ended (R93;
log entry 3), the pendant group, and the pendant stop's beginning or ending (R150). -/
def ppresTo (present : Bool) (s : State) : State :=
  if s.arb.ppres = present then s
  else
    let s := { s with arb := { s.arb with ppres := present } }
    let s := if s.arb.settled then s.raise .pendant else s
    let s := presenceActs present s
    if present then (if s.arb.pstopClosed then s else estopOpens .pendant s) else estopCloses s

/-- PPRES_CHANGE (R96). -/
def execPpresChange (present : Bool) (s : State) : Answer := .next (ppresTo present s)

/-- The direction of the jog condition (R98): PENB active and exactly one of PUP and PDN active. -/
def jogCondition (a : Arbiter) : Option Dir :=
  match a.penb, a.pup, a.pdn with
  | true, true, false => some .up
  | true, false, true => some .down
  | _, _, _ => none

/-- The start conditions of a pendant jog in direction `d` (R98). -/
def jogMayStart (d : Dir) (s : State) : Bool :=
  let ms := (s.members .pendant).map s.chan
  decide ((s.grp .pendant).state = .idle) && !ms.isEmpty && !stopHolds s && !supplyDown s &&
    ms.all fun c => decide (c.state ≠ .faulted) && !c.thermal && !limitOpen c d

/-- The ramp time of a pendant jog, in tenths of a second (R97). -/
def pendantRamp : Nat := 10

/-- A pendant line written. -/
def writeLine (line : PendantLine) (active : Bool) (a : Arbiter) : Arbiter :=
  match line with
  | .penb => { a with penb := active }
  | .pup => { a with pup := active }
  | .pdn => { a with pdn := active }

/-- The level of a pendant line. -/
def readLine (line : PendantLine) (a : Arbiter) : Bool :=
  match line with
  | .penb => a.penb
  | .pup => a.pup
  | .pdn => a.pdn

/-- The release events of R99 on these three lines: the jog is no longer held in its own direction. -/
def jogReleased (d : Dir) (a : Arbiter) : Bool := decide (jogCondition a ≠ some d)

/-- The debounced PENB, PUP or PDN becomes active or inactive (R98, R99, R100). -/
def pendantLineTo (line : PendantLine) (active : Bool) (s : State) : State :=
  if readLine line s.arb = active then s
  else
    let before := jogCondition s.arb
    let s := { s with arb := writeLine line active s.arb }
    match (s.grp .pendant).state with
    | .idle =>
      match jogCondition s.arb with
      | none => s
      | some d =>
        if s.arb.ppres ∧ before = none ∧ jogMayStart d s then startJog .pendant d s.settings.pendantSpeed pendantRamp s
        else s
    | .starting => if jogReleased (s.grp .pendant).prof.dir s.arb then controlledStop .pendant s else s
    | .moving => if jogReleased (s.grp .pendant).prof.dir s.arb then controlledStop .pendant s else s
    | .holding => if jogReleased (s.grp .pendant).prof.dir s.arb then controlledStop .pendant s else s
    | .tripped => if line = .penb then pendantExit s else s
    | .stopping => s
    | .paused => s

/-- PENDANT_CONTROL_CHANGE (R98). -/
def execPendantControlChange (line : PendantLine) (active : Bool) (s : State) : Answer :=
  .next (pendantLineTo line active s)

/-! ### Console links (R84 to R86) -/

/-- A good frame received on console `c`'s link (R84, R85). -/
def refreshLink (c : Console) (s : State) : State :=
  let l := s.link c
  let s := s.setLink c { state := .active, timer := startMs s.timebase s.settings.linkTimeout }
  if l.state = .active then s else s.raiseLink c

/-- The holder or owner that console `c` is. -/
def asHolder (c : Console) : Holder := .console c

/-- The controlled stop of a console group that console `c` owns (R86). -/
def stopOwned (c : Console) (s : State) (g : ConsoleGroup) : State :=
  if (s.grp (.console g)).owner = asHolder c then controlledStop (.console g) s else s

/-- The link timer of console `c` expires (R84, R85, R86). A timer that a good frame of the same moment has restarted is not
due, and no loss occurs. -/
def linkExpired (c : Console) (s : State) : State :=
  if timerDue s.timebase (s.link c).timer then
    let s := (s.setLink c { state := .lost, timer := none }).raiseLink c
    consoleGroups.foldl (stopOwned c) s
  else s

/-- LINK_TIMER_EXPIRY (R84). -/
def execLinkTimerExpiry (c : Console) (s : State) : Answer := .next (linkExpired c s)

/-! ### The timers of the groups -/

/-- HOLD_DEADLINE_EXPIRY (R92). -/
def execHoldDeadlineExpiry (g : ConsoleGroup) (s : State) : Answer := .next (deadlineExpired g s)

/-- START_TIMER_EXPIRY (R120). -/
def execStartTimerExpiry (g : GroupId) (s : State) : Answer := .next (startTimeout g s)

/-- GROUP_UPDATE (R125). -/
def execGroupUpdate (g : GroupId) (s : State) : Answer := .next (groupUpdate g s)

/-- HOLD_TIMER_EXPIRY (R140). -/
def execHoldTimerExpiry (g : GroupId) (s : State) : Answer := .next (holdTimeout g s)

/-- FINISH_TIMER_EXPIRY (R136). -/
def execFinishTimerExpiry (g : GroupId) (s : State) : Answer := .next (finishTimeout g s)

/-! ### Power-on reset -/

/-- The block after a power-on reset that ends with its lines at these levels (R1, R46, R157, R167 and the reset column of
every chapter). The waiting commands stay, and so does the count of free values drawn, so
that none is drawn twice. -/
def powerOnReset (pins : ResetPins) (s : State) : State :=
  let normal := decide (thresholdMv State.resetSettings.level ≤ pins.vctl)
  { State.reset with
    chans := pins.enc.mapIdx fun _ held => State.resetChan held
    stops := { State.resetStops pins.vctl with
      monitor := if normal then .normal else .dip
      lowTimer := if normal then none else startMs 0 10 }
    station := pins.straps
    freeCount := s.freeCount
    pending := s.pending }

/-- POWER_ON_RESET (R1). -/
def execPowerOnReset (pins : ResetPins) (s : State) : Answer := .next (powerOnReset pins s)

end Sys2Proof.Machine
end

