-- ==== Sys2Proof/Machine/Operands.lean ====
section
/-! DEFINITION. The byte forms of what crosses a console link (11_frame_and_record_layouts.md): the fields of a request
payload with the checks that step 3 of R171 makes on them, the forms of the fields of a response, the numeric codes, the
CRC (R166) and the response frame (R173). Offsets in a payload count from 0: offset k is the layout's byte k + 1. -/

namespace Sys2Proof.Machine

/-! ### Fields of a request payload (R184) -/

/-- The byte at offset `k` of a payload. -/
def byteAt (p : List Byte) (k : Nat) : Nat := (p.getD k 0).toNat

/-- The 16-bit number at offset `k`, most significant byte first. -/
def wordAt (p : List Byte) (k : Nat) : Nat := 256 * byteAt p k + byteAt p (k + 1)

/-- A channel byte: 0..7 (R184). -/
def channelAt (p : List Byte) (k : Nat) : Option Channel :=
  if h : byteAt p k < 8 then some ⟨byteAt p k, h⟩ else none

/-- A console group byte: 0..3 (R184). -/
def groupAt (p : List Byte) (k : Nat) : Option ConsoleGroup :=
  if h : byteAt p k < 4 then some ⟨byteAt p k, h⟩ else none

/-- A load-input byte: 0..7, or 0xFF for none (R184). The outer `none` is a byte out of range. -/
def inputAt (p : List Byte) (k : Nat) : Option (Option LoadInput) :=
  if h : byteAt p k < 8 then some (some ⟨byteAt p k, h⟩) else if byteAt p k = 255 then some none else none

/-- A set of channels or of load inputs: one byte (R184). -/
def setAt (p : List Byte) (k : Nat) : EightSet := BitVec.ofNat 8 (byteAt p k)

/-- A console group set: bits 4..7 must be 0 (R184). -/
def groupSetAt (p : List Byte) (k : Nat) : Option GroupSet :=
  if byteAt p k < 16 then some (BitVec.ofNat 4 (byteAt p k)) else none

/-- A trip-out class set: bits 5..7 must be 0 (R184). -/
def classSetAt (p : List Byte) (k : Nat) : Option ClassSet :=
  if byteAt p k < 32 then some (BitVec.ofNat 5 (byteAt p k)) else none

/-- The number that `n` bytes at offset `k` spell, lowest byte first. -/
def lowFirstAt (p : List Byte) (k : Nat) : Nat → Nat
  | 0 => 0
  | n + 1 => byteAt p k + 256 * lowFirstAt p (k + 1) n

/-- A notice set: 7 bytes, lowest byte first, with bits 53..55 at 0 (R184). -/
def noticeSetAt (p : List Byte) (k : Nat) : Option NoticeSet :=
  if lowFirstAt p k 7 < 2 ^ 53 then some (BitVec.ofNat 53 (lowFirstAt p k 7)) else none

/-- A yes/no byte: 1 or 0 (R184). -/
def yesNoAt (p : List Byte) (k : Nat) : Option Bool :=
  match byteAt p k with
  | 0 => some false
  | 1 => some true
  | _ => none

/-- A kind byte (R184, Numeric codes). -/
def kindAt (p : List Byte) (k : Nat) : Option Kind :=
  match byteAt p k with
  | 0 => some .absent
  | 1 => some .fixedSpeed
  | 2 => some .variableSpeed
  | _ => none

/-- A reference frequency code (R184, Numeric codes). -/
def frequencyAt (p : List Byte) (k : Nat) : Option Nat := if byteAt p k ≤ 3 then some (byteAt p k) else none

/-- An update interval code (R184, Numeric codes). -/
def intervalAt (p : List Byte) (k : Nat) : Option Nat := if byteAt p k ≤ 2 then some (byteAt p k) else none

/-- A direction byte of a JOG, which accepts only UP or DOWN (11_frame_and_record_layouts.md, Requests). -/
def directionAt (p : List Byte) (k : Nat) : Option Dir :=
  match byteAt p k with
  | 1 => some .up
  | 2 => some .down
  | _ => none

/-- A follow byte (R184, Numeric codes). -/
def followAt (p : List Byte) (k : Nat) : Option Follow :=
  match byteAt p k with
  | 0 => some .stopAtEnd
  | 1 => some .autoNext
  | _ => none

/-! ### The configuration block and the settings block -/

/-- The configuration block at offset `k`, with the checks of step 3 of R171 on its enumerations and its yes/no byte. The
magnitudes are as sent. -/
def configAt (p : List Byte) (k : Nat) : Option ChanConfig :=
  match kindAt p k, yesNoAt p (k + 7), frequencyAt p (k + 17) with
  | some kind, some fitted, some code =>
    some
      { kind := kind, ratedSpeed := wordAt p (k + 1), ratedLoad := wordAt p (k + 3), gainK := byteAt p (k + 5)
        coast := byteAt p (k + 6), bfbFitted := fitted, torqueTime := wordAt p (k + 8), brakeTime := wordAt p (k + 10)
        stopHold := wordAt p (k + 12), dwell := wordAt p (k + 14), slipCount := byteAt p (k + 16), refCode := code }
  | _, _, _ => none

/-- The ten windows at offset `k`, as sent, in the order of the window table. -/
def windowsAt (p : List Byte) (k : Nat) : Windows :=
  { trimOn := wordAt p k, trimOff := wordAt p (k + 2), holdLag := wordAt p (k + 4), releaseLag := wordAt p (k + 6)
    tripLag := wordAt p (k + 8), tripLead := wordAt p (k + 10), arriveBand := wordAt p (k + 12)
    settleBand := wordAt p (k + 14), holdTimeout := wordAt p (k + 16), shareTolerance := wordAt p (k + 18) }

/-- The settings block at offset `k`, as sent; none where the class set has a member outside the five classes. -/
def settingsAt (p : List Byte) (k : Nat) : Option Settings :=
  (classSetAt p (k + 1)).map fun mask =>
    { level := byteAt p k, mask := mask, linkTimeout := wordAt p (k + 2), holdWindow := wordAt p (k + 4)
      pendantSpeed := byteAt p (k + 6), enable := setAt p (k + 7) }

/-! ### The cue block (R185) -/

/-- `n` entries of 3 bytes at offset `k`; none where a channel byte is out of range. -/
def entriesAt (p : List Byte) (k : Nat) : Nat → Option (List (Channel × Nat))
  | 0 => some []
  | n + 1 =>
    match channelAt p k, entriesAt p (k + 3) n with
    | some i, some rest => some ((i, wordAt p (k + 1)) :: rest)
    | _, _ => none

/-- No channel appears in two entries. -/
def noRepeat : List (Channel × Nat) → Bool
  | [] => true
  | e :: rest => !(rest.any fun f => decide (f.1 = e.1)) && noRepeat rest

/-- The length of a cue block agrees with its entry count (R185, step 1 of R171). -/
def cueFits (p : List Byte) : Bool := decide (7 ≤ p.length) && decide (p.length = 7 + 3 * byteAt p 6)

/-- The cue of a cue block whose length fits, as sent; none where step 3 of R171 refuses it (R107, R185). -/
def cueAt (p : List Byte) : Option Cue :=
  match followAt p 5, entriesAt p 7 (byteAt p 6) with
  | some follow, some entries =>
    if 1 ≤ byteAt p 6 ∧ byteAt p 6 ≤ 8 ∧ noRepeat entries then
      some { tag := wordAt p 1, speed := byteAt p 3, ramp := byteAt p 4, follow := follow, entries := entries }
    else none
  | _, _ => none

/-! ### Fields of a response (R184) -/

/-- A one-byte number. -/
def u8 (n : Nat) : List Byte := [BitVec.ofNat 8 n]

/-- A two-byte number, most significant byte first. -/
def u16 (n : Nat) : List Byte := [BitVec.ofNat 8 (n / 256), BitVec.ofNat 8 n]

/-- A four-byte number, most significant byte first. -/
def u32 (n : Nat) : List Byte := u16 (n / 65536) ++ u16 n

/-- A member error: signed, clamped into -32768..32767 (R185). -/
def s16 (x : Int) : List Byte := u16 (BitVec.ofInt 16 (max (-32768) (min 32767 x))).toNat

/-- A longer set as `n` bytes, lowest byte first. -/
def setBytes (n : Nat) (m : Nat) : List Byte :=
  match n with
  | 0 => []
  | k + 1 => BitVec.ofNat 8 m :: setBytes k (m / 256)

/-- A yes/no byte, or a level byte. -/
def bit8 (b : Bool) : List Byte := if b then [1] else [0]

/-! ### Numeric codes (11_frame_and_record_layouts.md, Numeric codes) -/

/-- The code of a kind. -/
def kindCode : Kind → Nat
  | .absent => 0
  | .fixedSpeed => 1
  | .variableSpeed => 2

/-- The code of a channel state. -/
def stateCode : ChanState → Nat
  | .off => 0
  | .parked => 1
  | .starting => 2
  | .running => 3
  | .stopping _ => 4
  | .faulted => 5

/-- The code of a holder or an owner. -/
def holderCode : Holder → Nat
  | .none => 0
  | .console .a => 1
  | .console .b => 2
  | .pendant => 3

/-- The code of a window state. -/
def windowCode : WindowState → Nat
  | .none => 0
  | .opened => 1
  | .valid => 2

/-- The code of a direction. -/
def dirCode : Dir → Nat
  | .up => 1
  | .down => 2

/-- The code of a direction that may be none or absent. -/
def optDirCode : Option Dir → Nat
  | none => 0
  | some d => dirCode d

/-- The code of a load state. -/
def loadCode : LoadStatus → Nat
  | .none => 0
  | .unknown => 1
  | .valid => 2
  | .fault => 3

/-- The code of a group state. -/
def groupStateCode : GroupState → Nat
  | .idle => 0
  | .starting => 1
  | .moving => 2
  | .holding => 3
  | .stopping => 4
  | .paused => 5
  | .tripped => 6

/-- The code of a move kind. -/
def moveCode : MoveKind → Nat
  | .cue => 0
  | .jog => 1

/-- The code of a phase. -/
def phaseCode : Phase → Nat
  | .none => 0
  | .accel => 1
  | .cruise => 2
  | .decel => 3
  | .stopping => 4

/-- The code of a follow value. -/
def followCode : Follow → Nat
  | .stopAtEnd => 0
  | .autoNext => 1

/-- The code of a link state. -/
def linkCode : LinkState → Nat
  | .silent => 0
  | .active => 1
  | .lost => 2

/-- The code of a drive supply state. -/
def supplyCode : SupplyState → Nat
  | .off => 0
  | .closing => 1
  | .settling => 2
  | .on => 3
  | .failed => 4

/-- The code of an E-stop state. -/
def estopCode : EstopState → Nat
  | .clear => 0
  | .active => 1
  | .latched => 2

/-- The code of an E-stop cause. -/
def estopCauseCode : EstopCause → Nat
  | .loop => 0
  | .pendant => 1

/-- The code of a monitor state. -/
def monitorCode : MonitorState → Nat
  | .normal => 0
  | .dip => 1
  | .low => 2

/-- The code of a trip cause; 0 is kept for an absent record. -/
def tripCode : TripCause → Nat
  | .syncLag => 1
  | .syncLead => 2
  | .syncStall => 3
  | .startTimeout => 4
  | .loadShift => 5
  | .limitSwitch => 6
  | .referenceLost => 7
  | .channelFault _ => 8
  | .estop => 9
  | .supplyLow => 10
  | .supplyLost => 11

/-- The fault-kind byte of a trip cause: 0xFF unless CHANNEL_FAULT. -/
def tripKindCode : TripCause → Nat
  | .channelFault k => faultCode k
  | .syncLag => 255
  | .syncLead => 255
  | .syncStall => 255
  | .startTimeout => 255
  | .loadShift => 255
  | .limitSwitch => 255
  | .referenceLost => 255
  | .estop => 255
  | .supplyLow => 255
  | .supplyLost => 255

/-- A group byte: 0..3, 4 for the pendant group, 0xFF for none (READ_CHANNEL, byte 15). -/
def groupCode : Option GroupId → Nat
  | none => 255
  | some .pendant => 4
  | some (.console g) => g.val

/-- A load-input byte: 0..7, 0xFF for none. -/
def inputCode : Option LoadInput → Nat
  | none => 255
  | some k => k.val

/-- The result codes of R174. -/
def resultCode : Result → Nat
  | .ok => 0
  | .badFrame => 1
  | .unknownRequest => 2
  | .badValue => 3
  | .notHolder => 4
  | .heldElsewhere => 5
  | .notOwner => 6
  | .ownerActive => 7
  | .busy => 8
  | .queueFull => 9
  | .queueEmpty => 10
  | .badWindow => 11
  | .outOfWindow => 12
  | .notReferenced => 13
  | .causePresent => 14
  | .supplyOff => 15
  | .stopActive => 16
  | .thermal => 17
  | .inGroup => 18
  | .mixedKinds => 19
  | .loadUnknown => 20
  | .faulted => 21

/-! ### CRC and response frame (R166, R173) -/

/-- One bit of the CRC: the register shifted left by one, the generator added where the bit shifted out was 1 (R166). -/
def crcBit (r : BitVec 16) : BitVec 16 := if r.msb then (r <<< 1) ^^^ 0x1021#16 else r <<< 1

/-- One byte enters the CRC, most significant bit first (R166). -/
def crcByte (r : BitVec 16) (b : Byte) : BitVec 16 :=
  crcBit (crcBit (crcBit (crcBit (crcBit (crcBit (crcBit (crcBit (r ^^^ (b.zeroExtend 16 <<< 8)))))))))

/-- The CRC of R166 over these bytes. -/
def crc16 (bytes : List Byte) : BitVec 16 := bytes.foldl crcByte 0xFFFF#16

/-- The bytes of the response frame that a receiver in ANSWERING sends (R173). -/
def responseFrame (station : BitVec 5) (r : Response) : List Byte :=
  let body := u8 station.toNat ++ u8 (1 + r.payload.length) ++ [r.code] ++ u8 (resultCode r.result) ++ r.payload
  0x5A#8 :: (body ++ u16 (crc16 body).toNat)

end Sys2Proof.Machine
end

