-- ==== Sys2Proof/Machine/Snapshots.lean ====
section
/-! DEFINITION. The payloads of the responses (11_frame_and_record_layouts.md): the five snapshots and the echoes that the
requests' rules name. Each is read off the state at the moment the request is taken (R170, R175). -/

namespace Sys2Proof.Machine

/-! ### Blocks that several layouts share -/

/-- The configuration block. -/
def configBytes (f : ChanConfig) : List Byte :=
  u8 (kindCode f.kind) ++ u16 f.ratedSpeed ++ u16 f.ratedLoad ++ u8 f.gainK ++ u8 f.coast ++ bit8 f.bfbFitted ++
  u16 f.torqueTime ++ u16 f.brakeTime ++ u16 f.stopHold ++ u16 f.dwell ++ u8 f.slipCount ++ u8 f.refCode

/-- The ten windows, in the order of the window table. -/
def windowsBytes (w : Windows) : List Byte :=
  u16 w.trimOn ++ u16 w.trimOff ++ u16 w.holdLag ++ u16 w.releaseLag ++ u16 w.tripLag ++ u16 w.tripLead ++
  u16 w.arriveBand ++ u16 w.settleBand ++ u16 w.holdTimeout ++ u16 w.shareTolerance

/-- The settings block. -/
def settingsBytes (v : Settings) : List Byte :=
  u8 v.level ++ u8 v.mask.toNat ++ u16 v.linkTimeout ++ u16 v.holdWindow ++ u8 v.pendantSpeed ++ [v.enable]

/-- A trip record in 4 bytes; an absent one is 0, 0xFF, 0xFF, 0. -/
def tripBytes : Option TripRecord → List Byte
  | none => [0, 0xFF, 0xFF, 0]
  | some t =>
    u8 (tripCode t.cause) ++ u8 (tripKindCode t.cause) ++
    u8 (match t.channel with
        | none => 255
        | some i => i.val) ++
    u8 t.further

/-- The pending kind of a pending limit: 0 absent, 1 UPPER, 2 LOWER. -/
def pendingKind : Option (Side × Nat) → Nat
  | none => 0
  | some (.upper, _) => 1
  | some (.lower, _) => 2

/-- The pending value of a pending limit, 0 when absent. -/
def pendingValue : Option (Side × Nat) → Nat
  | none => 0
  | some (_, v) => v

/-- The holder of channels 0..7. -/
def holdersBytes (s : State) : List Byte := channels.flatMap fun i => u8 (holderCode (s.chan i).holder)

/-- The milliseconds left to a hold deadline, floored, in 0..1000, or 0xFFFF when absent (R185). -/
def deadlineLeft (now : Time) : Timer → Nat
  | none => 65535
  | some e => if (e - now).toNat ≤ 1000000 then (e - now).toNat / 1000 else 0

/-- Progress for a cue, displacement for a jog, which is carried modulo 2^32 (log entry 19). -/
def travelBytes (mk : MoveKind) (pr : Profile) : List Byte :=
  match mk with
  | .cue => u32 pr.p
  | .jog => u32 pr.j

/-! ### The snapshots -/

/-- READ_CHANNEL: 48 bytes (R23). -/
def channelSnapshot (c : Chan) : List Byte :=
  u8 (kindCode c.cfg.kind) ++ u8 (stateCode c.state) ++ u16 c.position ++ bit8 c.referenced ++ u8 (windowCode c.window) ++
  u16 c.upper ++ u16 c.lower ++ u8 (pendingKind c.pendingLimit) ++ u16 (pendingValue c.pendingLimit) ++
  u8 (holderCode c.holder) ++ u8 (groupCode c.group) ++ configBytes c.cfg ++ u16 c.envMin ++ u16 c.envMax ++
  setBytes 2 c.faults.toNat ++ u8 (c.thermal.toNat + 2 * c.upperOpen.toNat + 4 * c.lowerOpen.toNat) ++
  u8 (optDirCode c.lastDir) ++ u8 (optDirCode c.startPending) ++ u16 c.pos.speed ++ u16 c.load.filtered ++
  u8 (loadCode c.load.status) ++ u8 c.gen.duty

/-- One member in READ_GROUP: channel, target, error and flags; target 0 before a plan (R185). -/
def memberBytes (i : Channel) (m : Member) : List Byte :=
  u8 i.val ++
  u16 (match m.plan with
       | none => 0
       | some p => p.target) ++
  s16 m.err ++ u8 (m.arrived.toNat + 2 * m.trimPaused.toNat)

/-- READ_GROUP: 39 + 6m bytes (R123). -/
def groupSnapshot (g : GroupId) (s : State) : List Byte :=
  let r := s.grp g
  u8 (holderCode r.owner) ++ [s.memberSet g] ++ u8 r.interval ++ windowsBytes r.windows ++ u8 (groupStateCode r.state) ++
  u8 (moveCode r.moveKind) ++ tripBytes r.trip ++ u8 r.queue.length ++ u16 (deadlineLeft s.timebase r.deadline) ++
  u8 (phaseCode r.prof.phase) ++ travelBytes r.moveKind r.prof ++ u16 r.prof.q ++
  (s.members g).flatMap fun i => memberBytes i (s.member g i)

/-- One cue in READ_QUEUE: bytes 2 onward of its cue block. -/
def cueBytes (q : Cue) : List Byte :=
  u16 q.tag ++ u8 q.speed ++ u8 q.ramp ++ u8 (followCode q.follow) ++ u8 q.entries.length ++
  q.entries.flatMap fun e => u8 e.1.val ++ u16 e.2

/-- READ_QUEUE (R123). -/
def queueSnapshot (queue : List Cue) : List Byte := u8 queue.length ++ queue.flatMap cueBytes

/-- The debounced pendant inputs but the switches (READ_PART, byte 19). -/
def pendantBits (a : Arbiter) : Nat :=
  a.pup.toNat + 2 * a.pdn.toNat + 4 * a.penb.toNat + 8 * a.pstopClosed.toNat + 16 * a.ppres.toNat

/-- READ_PART: 41 bytes (R175). -/
def partSnapshot (s : State) : List Byte :=
  let r := s.grp .pendant
  u8 s.station.toNat ++ u8 (linkCode (s.link .a).state) ++ u8 (linkCode (s.link .b).state) ++ settingsBytes s.settings ++
  u8 (supplyCode s.supply.state) ++ u8 (estopCode s.stops.estop) ++ u8 (estopCauseCode s.stops.cause) ++
  bit8 s.stops.rstin ++ u8 (monitorCode s.stops.monitor) ++ bit8 s.stops.tripout ++ [s.arb.psel] ++
  u8 (pendantBits s.arb) ++ u8 (groupStateCode r.state) ++ [s.memberSet .pendant] ++ tripBytes r.trip ++
  u8 (phaseCode r.prof.phase) ++ u32 r.prof.j ++ u16 r.prof.q ++ u8 (dirCode r.prof.dir) ++ holdersBytes s

/-- READ_NOTICES: pending set, mask, line level (R182). -/
def noticesSnapshot (b : NoticeBox) : List Byte :=
  setBytes 7 b.pending.toNat ++ setBytes 7 b.mask.toNat ++ bit8 b.atn

/-! ### The echoes -/

/-- The echo of CONFIG_CHANNEL: configuration block and envelope (R22). -/
def configEcho (c : Chan) : List Byte := configBytes c.cfg ++ u16 c.envMin ++ u16 c.envMax

/-- The echo of SET_UPPER and SET_LOWER (R18). -/
def limitsEcho (c : Chan) : List Byte :=
  u8 (windowCode c.window) ++ u16 c.upper ++ u16 c.lower ++ u8 (pendingKind c.pendingLimit) ++
  u16 (pendingValue c.pendingLimit)

/-- The echo of SET_LOAD_INPUT: assignment and load state (R64). -/
def inputEcho (c : Chan) : List Byte := u8 (inputCode c.load.input) ++ u8 (loadCode c.load.status)

/-- Owner and member set, the echo of TAKE_GROUP and DISBAND (R88, R106). -/
def ownerEcho (g : GroupId) (s : State) : List Byte := u8 (holderCode (s.grp g).owner) ++ [s.memberSet g]

/-- The echo of SET_GROUP (R105). -/
def groupEcho (g : GroupId) (s : State) : List Byte :=
  ownerEcho g s ++ u8 (s.grp g).interval ++ windowsBytes (s.grp g).windows

end Sys2Proof.Machine
end

