-- ==== Sys2Proof/Machine/Port.lean ====
section
/-! DEFINITION. What the link interface does with a frame that has ended with a good CRC (R167 to R173): the address, the
link refresh, the request, and the receiver. A request's rule is a function `Taking` of the state that the refresh left;
it answers the state after the request, the result and the payload of the response. -/

namespace Sys2Proof.Machine

/-- The result and the payload of a response (R173). -/
structure Reply where
  result  : Result
  payload : List Byte
deriving DecidableEq, Repr

/-- A request taken or refused: the state after it, and the reply. -/
abbrev Taken := State × Reply

/-- A refusal by the link interface, with no payload (steps 1 to 3 of R171, R173). -/
def refuse (r : Result) (s : State) : Taken := (s, { result := r, payload := [] })

/-- A refusal by the owning rule: no state changes and the echo is of the values left unchanged (R170, R173). -/
def refuseWith (r : Result) (echo : State → List Byte) (s : State) : Taken := (s, { result := r, payload := echo s })

/-- A request taken with this result: the echo is of the state left by it (R170). -/
def takenWith (r : Result) (echo : State → List Byte) (s : State) : Taken := (s, { result := r, payload := echo s })

/-- The rack has a station address: its straps read 1..30 (R167). -/
def hasStation (s : State) : Bool := decide (1 ≤ s.station.toNat) && decide (s.station.toNat ≤ 30)

/-- The receiver of console `c` is sending a response: what arrives is not read (R163, R173). -/
def isAnswering : Receiver → Bool
  | .hunting => false
  | .receiving _ _ => false
  | .answering _ => true

/-- The receiver state in which the response to a request is sent (R173). -/
def answeringWith (code : Byte) (r : Reply) : Receiver :=
  .answering { code := code, result := r.result, payload := r.payload }

/-- A good frame addressed to this rack (R168, R170): the link is refreshed, the request is taken and the receiver answers. -/
def takeAddressed (c : Console) (code : Byte) (request : State → Taken) (s : State) : State :=
  (request (refreshLink c s)).1.setPort c (answeringWith code (request (refreshLink c s)).2)

/-- A good frame at the broadcast address (R168, R169): the link is refreshed, the request is taken, and no response is sent. -/
def takeBroadcast (c : Console) (request : State → Taken) (s : State) : State :=
  (request (refreshLink c s)).1.setPort c .hunting

/-- The rack takes frames on this payload: it has a station address (R167) and the frame's LEN is 0..64 (R164). -/
def takesFrame (payload : List Byte) (s : State) : Bool := hasStation s && decide (payload.length ≤ 64)

/-- A request frame, given whole, with a good CRC. In ANSWERING it is not read (R173). A rack without a station address, or
a LEN above 64, drops it. -/
def frameOn (c : Console) (payload : List Byte) (take : State → State) (s : State) : State :=
  if isAnswering (s.port c) then s
  else if takesFrame payload s then take s
  else s.setPort c .hunting

/-- An addressed request frame with this CODE and payload, on link `c`. -/
def addressedFrame (c : Console) (code : Byte) (payload : List Byte) (request : State → Taken) (s : State) : State :=
  frameOn c payload (takeAddressed c code request) s

/-- A broadcast request frame with this payload, on link `c`. -/
def broadcastFrame (c : Console) (payload : List Byte) (request : State → Taken) (s : State) : State :=
  frameOn c payload (takeBroadcast c request) s

/-- A frame carrying GO, HOLD or STOP, addressed or broadcast (R169). -/
def eitherFrame (c : Console) (via : Addressing) (code : Byte) (payload : List Byte) (request : State → Taken) (s : State) :
    State :=
  match via with
  | .addressed => addressedFrame c code payload request s
  | .broadcast => broadcastFrame c payload request s

/-! ### Steps 1 and 3 of R171 -/

/-- Step 1 of R171: the length the CODE requires. -/
def withLength (n : Nat) (p : List Byte) (f : State → Taken) (s : State) : Taken :=
  if p.length = n then f s else refuse .badFrame s

/-- Step 3 of R171 on a field: a value out of range is refused with BAD_VALUE. -/
def withField {α : Type} (field : Option α) (f : α → State → Taken) (s : State) : Taken :=
  match field with
  | none => refuse .badValue s
  | some x => f x s

/-- Console `c` holds channel `i`. -/
def holds (c : Console) (s : State) (i : Channel) : Bool := decide ((s.chan i).holder = asHolder c)

/-- Console `c` owns console group `g`. -/
def owns (c : Console) (s : State) (g : ConsoleGroup) : Bool := decide ((s.grp (.console g)).owner = asHolder c)

end Sys2Proof.Machine
end

