-- ==== Sys2Proof/Machine/ReadRequests.lean ====
section
/-! DEFINITION. The five reads (R23, R123, R175, R182): taken from either console, they change no state. -/

namespace Sys2Proof.Machine

/-- READ_PART (R175). -/
def reqReadPart (p : List Byte) : State → Taken := withLength 0 p (takenWith .ok partSnapshot)

/-- READ_CHANNEL (R23). -/
def reqReadChannel (p : List Byte) : State → Taken :=
  withLength 1 p (withField (channelAt p 0) fun i => takenWith .ok fun s => channelSnapshot (s.chan i))

/-- READ_GROUP (R123). -/
def reqReadGroup (p : List Byte) : State → Taken :=
  withLength 1 p (withField (groupAt p 0) fun g => takenWith .ok (groupSnapshot (.console g)))

/-- READ_QUEUE (R123). -/
def reqReadQueue (p : List Byte) : State → Taken :=
  withLength 1 p (withField (groupAt p 0) fun g => takenWith .ok fun s => queueSnapshot (s.grp (.console g)).queue)

/-- READ_NOTICES (R182): the requesting console's own set, mask and line. -/
def reqReadNotices (c : Console) (p : List Byte) : State → Taken :=
  withLength 0 p (takenWith .ok fun s => noticesSnapshot (s.box c))

/-- READ_PART (R175). -/
def execReadPart (c : Console) (payload : List Byte) (s : State) : Answer :=
  .next (addressedFrame c 0x01 payload (reqReadPart payload) s)

/-- READ_CHANNEL (R23). -/
def execReadChannel (c : Console) (payload : List Byte) (s : State) : Answer :=
  .next (addressedFrame c 0x02 payload (reqReadChannel payload) s)

/-- READ_GROUP (R123). -/
def execReadGroup (c : Console) (payload : List Byte) (s : State) : Answer :=
  .next (addressedFrame c 0x03 payload (reqReadGroup payload) s)

/-- READ_QUEUE (R123). -/
def execReadQueue (c : Console) (payload : List Byte) (s : State) : Answer :=
  .next (addressedFrame c 0x04 payload (reqReadQueue payload) s)

/-- READ_NOTICES (R182). -/
def execReadNotices (c : Console) (payload : List Byte) (s : State) : Answer :=
  .next (addressedFrame c 0x05 payload (reqReadNotices c payload) s)

end Sys2Proof.Machine
end

