-- ==== Sys2Proof/Machine/HolderRequests.lean ====
section
/-! DEFINITION. The requests of the selection arbiter (R81, R82, R87, R88). -/

namespace Sys2Proof.Machine

/-- `s` with the holder of every channel of `set` written. -/
def setHolders (set : EightSet) (h : Holder) (s : State) : State :=
  { s with chans := s.chans.mapIdx fun i c => if inSet set i then { c with holder := h } else c }

/-- Every channel of `set` satisfies `p`. -/
def allIn (set : EightSet) (p : Channel → Bool) : Bool := (listOf set).all p

/-- Some channel of `set` is a member of a group. -/
def someGrouped (set : EightSet) (s : State) : Bool := (listOf set).any fun i => (s.chan i).group.isSome

/-- SELECT (R81). -/
def selectChannels (c : Console) (set : EightSet) (s : State) : Taken :=
  if allIn set fun i => decide ((s.chan i).holder = .none) || holds c s i then
    takenWith .ok holdersBytes (setHolders set (asHolder c) s)
  else refuseWith .heldElsewhere holdersBytes s

/-- RELEASE (R82). -/
def releaseChannels (c : Console) (set : EightSet) (s : State) : Taken :=
  if allIn set (holds c s) then
    if someGrouped set s then refuseWith .inGroup holdersBytes s
    else takenWith .ok holdersBytes (setHolders set .none s)
  else refuseWith .notHolder holdersBytes s

/-- FORCE_RELEASE (R87): TAKEOVER is raised for a non-empty set. -/
def forceChannels (c : Console) (set : EightSet) (s : State) : Taken :=
  if allIn set (holds c.other s) then
    if (s.link c.other).state ≠ .lost then refuseWith .ownerActive holdersBytes s
    else if someGrouped set s then refuseWith .inGroup holdersBytes s
    else if set = 0 then takenWith .ok holdersBytes s
    else takenWith .ok holdersBytes ((setHolders set .none s).raise .takeover)
  else refuseWith .notHolder holdersBytes s

/-- The effect of a taken TAKE_GROUP (R88). -/
def takeOver (c : Console) (g : ConsoleGroup) (s : State) : State :=
  ((setHolders (s.memberSet (.console g)) (asHolder c) s).modGrp (.console g) fun r => { r with owner := asHolder c }).raise
    .takeover

/-- TAKE_GROUP (R88). -/
def takeGroup (c : Console) (g : ConsoleGroup) (s : State) : Taken :=
  if owns c.other s g then
    if (s.link c.other).state ≠ .lost then refuseWith .ownerActive (ownerEcho (.console g)) s
    else if (s.grp (.console g)).state.inMove then refuseWith .busy (ownerEcho (.console g)) s
    else takenWith .ok (ownerEcho (.console g)) (takeOver c g s)
  else refuseWith .notOwner (ownerEcho (.console g)) s

/-- SELECT with its payload (R81). -/
def reqSelect (c : Console) (p : List Byte) : State → Taken := withLength 1 p (selectChannels c (setAt p 0))

/-- RELEASE with its payload (R82). -/
def reqRelease (c : Console) (p : List Byte) : State → Taken := withLength 1 p (releaseChannels c (setAt p 0))

/-- FORCE_RELEASE with its payload (R87). -/
def reqForceRelease (c : Console) (p : List Byte) : State → Taken := withLength 1 p (forceChannels c (setAt p 0))

/-- TAKE_GROUP with its payload (R88). -/
def reqTakeGroup (c : Console) (p : List Byte) : State → Taken := withLength 1 p (withField (groupAt p 0) (takeGroup c))

/-- SELECT (R81). -/
def execSelect (c : Console) (payload : List Byte) (s : State) : Answer :=
  .next (addressedFrame c 0x10 payload (reqSelect c payload) s)

/-- RELEASE (R82). -/
def execRelease (c : Console) (payload : List Byte) (s : State) : Answer :=
  .next (addressedFrame c 0x11 payload (reqRelease c payload) s)

/-- FORCE_RELEASE (R87). -/
def execForceRelease (c : Console) (payload : List Byte) (s : State) : Answer :=
  .next (addressedFrame c 0x12 payload (reqForceRelease c payload) s)

/-- TAKE_GROUP (R88). -/
def execTakeGroup (c : Console) (payload : List Byte) (s : State) : Answer :=
  .next (addressedFrame c 0x13 payload (reqTakeGroup c payload) s)

end Sys2Proof.Machine
end

