-- ==== Sys2Proof/Machine/ChannelRequests.lean ====
section
/-! DEFINITION. The requests that act on channels (R12, R17 to R22, R64, R65, R72, R76). -/

namespace Sys2Proof.Machine

/-- The authority of the channel requests: the requester holds the channel, or the request is refused with NOT_HOLDER and
the echo of the values left unchanged. -/
def asHeld (c : Console) (i : Channel) (echo : Chan → List Byte) (f : State → Taken) (s : State) : Taken :=
  if holds c s i then f s else refuseWith .notHolder (fun s => echo (s.chan i)) s

/-! ### CONFIG_CHANNEL (R21, R22) -/

/-- A configuration with its magnitudes clamped into the ranges of the record table (R22). -/
def clampConfig (f : ChanConfig) : ChanConfig :=
  { f with
    ratedSpeed := clamp 1 4000 f.ratedSpeed
    ratedLoad := clamp 125 5000 f.ratedLoad
    gainK := clamp 0 255 f.gainK
    coast := clamp 0 200 f.coast
    torqueTime := clamp 50 500 f.torqueTime
    brakeTime := clamp 100 1000 f.brakeTime
    stopHold := clamp 0 500 f.stopHold
    dwell := clamp 200 2000 f.dwell
    slipCount := clamp 2 64 f.slipCount }

/-- What the stored kind makes of the channel's state (the table of R22). A channel that stays PARKED has its slip check
re-derived under the brake feedback setting now stored (R55). -/
def configState (now : Time) (c : Chan) : Chan :=
  match c.state, c.cfg.kind with
  | .off, .absent => c
  | .off, _ => chanLeaveOff now c
  | .parked, .absent => chanEnterOff c
  | .parked, _ => { c with pos := { c.pos with slipArmed := brakeKnownSet c } }
  | _, _ => c

/-- The channel that a taken CONFIG_CHANNEL leaves: values stored, envelope re-clamped, kind acted on last (R22). -/
def configured (now : Time) (f : ChanConfig) (c : Chan) : Chan :=
  configState now (storeEnvelope c.envMin c.envMax { c with cfg := clampConfig f })

/-- A taken CONFIG_CHANNEL: entry to OFF loses the reference, which raises REF_LOST (R3). -/
def configTaken (i : Channel) (f : ChanConfig) (s : State) : State :=
  let c := s.chan i
  let s := s.setChan i (configured s.timebase f c)
  if c.referenced ∧ (s.chan i).referenced = false then s.raise (.chan i .refLost) else s

/-- CONFIG_CHANNEL (R21). -/
def configChannel (c : Console) (i : Channel) (f : ChanConfig) : State → Taken :=
  asHeld c i configEcho fun s =>
    let echo := fun s => configEcho (State.chan s i)
    if (s.chan i).group.isSome then refuseWith .inGroup echo s
    else if (s.chan i).state ≠ .parked ∧ (s.chan i).state ≠ .off then refuseWith .busy echo s
    else takenWith .ok echo (configTaken i f s)

/-! ### SET_UPPER and SET_LOWER (R18, R19) -/

/-- The pair that a write of `v` on one side closes with the pending value `x` of the other: upper first. -/
def closedPair (side : Side) (v x : Nat) : Nat × Nat :=
  match side with
  | .upper => (v, x)
  | .lower => (x, v)

/-- The pending slot after a write that closes no pair (R19). -/
def openLimit (side : Side) (v : Nat) (c : Chan) : Chan := { c with pendingLimit := some (side, v), window := .opened }

/-- A taken limit write (R19); none where it is refused with BAD_WINDOW. -/
def writeLimit (side : Side) (v : Nat) (c : Chan) : Option Chan :=
  match c.pendingLimit with
  | none => some (openLimit side v c)
  | some (other, x) =>
    if other = side then some (openLimit side v c)
    else
      let pair := closedPair side v x
      if pair.2 + 20 ≤ pair.1 then
        some { c with upper := pair.1, lower := pair.2, window := .valid, pendingLimit := none }
      else none

/-- SET_UPPER or SET_LOWER (R18). -/
def setLimit (side : Side) (c : Console) (i : Channel) (v : Nat) : State → Taken :=
  asHeld c i limitsEcho fun s =>
    let echo := fun s => limitsEcho (State.chan s i)
    if (s.chan i).state.inMotion then refuseWith .busy echo s
    else if s.inMovingGroup i then refuseWith .busy echo s
    else
      match writeLimit side v (s.chan i) with
      | none => refuseWith .badWindow echo s
      | some ch => takenWith .ok echo (s.setChan i ch)

/-! ### SET_POSITION (R17) -/

/-- A taken SET_POSITION: the bound flag goes (R51). -/
def placed (x : Nat) (c : Chan) : Chan :=
  { c with position := x, referenced := true, pos := { c.pos with bound := .none } }

/-- SET_POSITION (R17). -/
def setPosition (c : Console) (i : Channel) (x : Nat) : State → Taken :=
  asHeld c i (fun ch => u16 ch.position) fun s =>
    let echo := fun s => u16 (State.chan s i).position
    if (s.chan i).state ≠ .parked ∧ (s.chan i).state ≠ .faulted then refuseWith .busy echo s
    else if s.inMovingGroup i then refuseWith .busy echo s
    else takenWith .ok echo (s.modChan i (placed x))

/-! ### The load unit's requests (R64, R65, R72, R76) -/

/-- SET_ENVELOPE (R76). -/
def setEnvelope (c : Console) (i : Channel) (lo hi : Nat) : State → Taken :=
  asHeld c i (fun ch => u16 ch.envMin ++ u16 ch.envMax) fun s =>
    takenWith .ok (fun s => u16 (s.chan i).envMin ++ u16 (s.chan i).envMax) (s.modChan i (storeEnvelope lo hi))

/-- The input is assigned to a channel other than `i` (R64). -/
def inputElsewhere (s : State) (i : Channel) (k : LoadInput) : Bool :=
  channels.any fun j => decide (j ≠ i) && decide ((s.chan j).load.input = some k)

/-- A taken SET_LOAD_INPUT (R65). -/
def inputTaken (i : Channel) (new : Option LoadInput) (s : State) : State :=
  if (s.chan i).load.input = new then s else assignInput i new s

/-- SET_LOAD_INPUT (R64). -/
def setLoadInput (c : Console) (i : Channel) (new : Option LoadInput) : State → Taken :=
  asHeld c i inputEcho fun s =>
    let echo := fun s => inputEcho (State.chan s i)
    if s.inMovingGroup i then refuseWith .busy echo s
    else if new.any (inputElsewhere s i) then refuseWith .badValue echo s
    else takenWith .ok echo (inputTaken i new s)

/-- SET_LOAD_CAL (R72). -/
def setLoadCal (c : Console) (i : Channel) (zeroPoint gain : Nat) : State → Taken :=
  asHeld c i (fun ch => u16 ch.load.zero ++ u16 ch.load.gain) fun s =>
    let echo := fun s => u16 (State.chan s i).load.zero ++ u16 (State.chan s i).load.gain
    if s.inMovingGroup i then refuseWith .busy echo s
    else takenWith .ok echo (s.modChan i (storeCal s.settings.enable zeroPoint gain))

/-! ### CLEAR_FAULTS (R12) -/

/-- Console `c` has authority on channel `i` for CLEAR_FAULTS: the other console does not hold it (R12). -/
def mayClear (c : Console) (s : State) (i : Channel) : Bool := decide ((s.chan i).holder ≠ asHolder c.other)

/-- CLEAR_FAULTS taken on channel `i`, whose group is told where it enters PARKED (R12). -/
def clearOne (s : State) (i : Channel) : State :=
  afterPark (s.chan i).state i (s.modChan i (chanClearFaults s.timebase s.settings.enable))

/-- CLEAR_FAULTS (R12): CAUSE_PRESENT where a channel of the set is still FAULTED after it. -/
def clearFaults (c : Console) (set : EightSet) (s : State) : Taken :=
  if allIn set (mayClear c s) then
    let s := (listOf set).foldl clearOne s
    if (listOf set).any fun i => decide ((s.chan i).state = .faulted) then takenWith .causePresent (fun _ => []) s
    else takenWith .ok (fun _ => []) s
  else refuseWith .notHolder (fun _ => []) s

/-! ### Payloads and meanings -/

/-- CONFIG_CHANNEL with its payload (R21). -/
def reqConfigChannel (c : Console) (p : List Byte) : State → Taken :=
  withLength 19 p (withField (channelAt p 0) fun i => withField (configAt p 1) (configChannel c i))

/-- SET_UPPER with its payload (R18). -/
def reqSetUpper (c : Console) (p : List Byte) : State → Taken :=
  withLength 3 p (withField (channelAt p 0) fun i => setLimit .upper c i (wordAt p 1))

/-- SET_LOWER with its payload (R18). -/
def reqSetLower (c : Console) (p : List Byte) : State → Taken :=
  withLength 3 p (withField (channelAt p 0) fun i => setLimit .lower c i (wordAt p 1))

/-- SET_POSITION with its payload (R17). -/
def reqSetPosition (c : Console) (p : List Byte) : State → Taken :=
  withLength 3 p (withField (channelAt p 0) fun i => setPosition c i (wordAt p 1))

/-- SET_ENVELOPE with its payload (R76). -/
def reqSetEnvelope (c : Console) (p : List Byte) : State → Taken :=
  withLength 5 p (withField (channelAt p 0) fun i => setEnvelope c i (wordAt p 1) (wordAt p 3))

/-- SET_LOAD_INPUT with its payload (R64). -/
def reqSetLoadInput (c : Console) (p : List Byte) : State → Taken :=
  withLength 2 p (withField (channelAt p 0) fun i => withField (inputAt p 1) (setLoadInput c i))

/-- SET_LOAD_CAL with its payload (R72). -/
def reqSetLoadCal (c : Console) (p : List Byte) : State → Taken :=
  withLength 5 p (withField (channelAt p 0) fun i => setLoadCal c i (wordAt p 1) (wordAt p 3))

/-- CLEAR_FAULTS with its payload (R12). -/
def reqClearFaults (c : Console) (p : List Byte) : State → Taken := withLength 1 p (clearFaults c (setAt p 0))

/-- CONFIG_CHANNEL (R22). -/
def execConfigChannel (c : Console) (payload : List Byte) (s : State) : Answer :=
  .next (addressedFrame c 0x20 payload (reqConfigChannel c payload) s)

/-- SET_UPPER (R19). -/
def execSetUpper (c : Console) (payload : List Byte) (s : State) : Answer :=
  .next (addressedFrame c 0x21 payload (reqSetUpper c payload) s)

/-- SET_LOWER (R19). -/
def execSetLower (c : Console) (payload : List Byte) (s : State) : Answer :=
  .next (addressedFrame c 0x22 payload (reqSetLower c payload) s)

/-- SET_POSITION (R17). -/
def execSetPosition (c : Console) (payload : List Byte) (s : State) : Answer :=
  .next (addressedFrame c 0x23 payload (reqSetPosition c payload) s)

/-- SET_ENVELOPE (R76). -/
def execSetEnvelope (c : Console) (payload : List Byte) (s : State) : Answer :=
  .next (addressedFrame c 0x24 payload (reqSetEnvelope c payload) s)

/-- SET_LOAD_INPUT (R65). -/
def execSetLoadInput (c : Console) (payload : List Byte) (s : State) : Answer :=
  .next (addressedFrame c 0x25 payload (reqSetLoadInput c payload) s)

/-- SET_LOAD_CAL (R72). -/
def execSetLoadCal (c : Console) (payload : List Byte) (s : State) : Answer :=
  .next (addressedFrame c 0x26 payload (reqSetLoadCal c payload) s)

/-- CLEAR_FAULTS (R12). -/
def execClearFaults (c : Console) (payload : List Byte) (s : State) : Answer :=
  .next (addressedFrame c 0x27 payload (reqClearFaults c payload) s)

end Sys2Proof.Machine
end

