-- ==== Sys2Proof/Machine/GroupRequests.lean ====
section
/-! DEFINITION. The requests that act on console groups (R91, R104 to R112, R118, R121). -/

namespace Sys2Proof.Machine

/-! ### SET_GROUP (R104, R105) -/

/-- The ten windows clamped in the order of the window table, each against the values stored before it (R105). -/
def clampWindows (w : Windows) : Windows :=
  let trimOn := clamp 10 200 w.trimOn
  let holdLag := clamp 10 500 w.holdLag
  let arriveBand := clamp 1 20 w.arriveBand
  { trimOn := trimOn
    trimOff := clamp 0 (trimOn - 5) w.trimOff
    holdLag := holdLag
    releaseLag := clamp 0 (holdLag - 5) w.releaseLag
    tripLag := clamp (holdLag + 20) 1000 w.tripLag
    tripLead := clamp 20 1000 w.tripLead
    arriveBand := arriveBand
    settleBand := clamp arriveBand 100 w.settleBand
    holdTimeout := clamp 500 10000 w.holdTimeout
    shareTolerance := clamp 5 100 w.shareTolerance }

/-- All channels of the set are of one kind (test 6 of R104). -/
def oneKind (set : EightSet) (s : State) : Bool :=
  allIn set fun i => allIn set fun j => decide ((s.chan i).cfg.kind = (s.chan j).cfg.kind)

/-- The tests of R104 in order; none when all pass. -/
def setGroupCheck (c : Console) (g : ConsoleGroup) (set : EightSet) (s : State) : Option Result :=
  let r := s.grp (.console g)
  firstFailure
    [ (decide (r.owner ≠ asHolder c) && decide (r.owner ≠ .none), .notOwner),
      (!allIn set (holds c s), .notHolder),
      (decide (r.state ≠ .idle), .busy),
      (!allIn set fun i => decide ((s.chan i).group = none) || s.isMember (.console g) i, .inGroup),
      (!allIn set fun i => decide ((s.chan i).state ≠ .off), .badValue),
      (!oneKind set s, .mixedKinds) ]

/-- The members of group `g` become exactly the channels of `set` (step 2 of R105). -/
def writeMembers (g : GroupId) (set : EightSet) (s : State) : State :=
  { s with
    chans := s.chans.mapIdx fun i c =>
      if inSet set i then { c with group := some g } else if c.group = some g then { c with group := none } else c }

/-- A taken SET_GROUP (R105); the profile record returns to its power-on values (R124). -/
def setGroupTaken (c : Console) (g : ConsoleGroup) (set : EightSet) (interval : Nat) (w : Windows) (s : State) : State :=
  (writeMembers (.console g) set s).modGrp (.console g) fun r =>
    { r with owner := asHolder c, interval := interval, windows := clampWindows w, prof := State.resetProfile }

/-- SET_GROUP (R104). -/
def setGroup (c : Console) (g : ConsoleGroup) (set : EightSet) (interval : Nat) (w : Windows) (s : State) : Taken :=
  match setGroupCheck c g set s with
  | some r => refuseWith r (groupEcho (.console g)) s
  | none => takenWith .ok (groupEcho (.console g)) (setGroupTaken c g set interval w s)

/-! ### DISBAND (R106) -/

/-- A taken DISBAND (R106); the profile record returns to its power-on values (R124). -/
def disbandTaken (g : ConsoleGroup) (s : State) : State :=
  ((writeMembers (.console g) 0 s).modGrp (.console g) fun r =>
    { r with owner := .none, state := .idle, queue := [], trip := none, prof := State.resetProfile }).retrip

/-- DISBAND (R106). -/
def disband (c : Console) (g : ConsoleGroup) (s : State) : Taken :=
  if owns c s g then
    if (s.grp (.console g)).state.inMove then refuseWith .busy (ownerEcho (.console g)) s
    else takenWith .ok (ownerEcho (.console g)) (disbandTaken g s)
  else refuseWith .notOwner (ownerEcho (.console g)) s

/-! ### LOAD_CUE and CLEAR_QUEUE (R107, R108) -/

/-- A cue with its magnitudes clamped (R107). -/
def clampCue (q : Cue) : Cue := { q with speed := clamp 1 100 q.speed, ramp := clamp 2 50 q.ramp }

/-- The number of cues in the queue of console group `g`. -/
def queueCount (g : ConsoleGroup) (s : State) : List Byte := u8 (s.grp (.console g)).queue.length

/-- A refused LOAD_CUE: the echo has fields for a stored speed fraction and ramp time where nothing was stored, and the
manual gives them no value (log entry 5). -/
def refuseCue (r : Result) (g : ConsoleGroup) (s : State) : Taken :=
  let speed := s.drawFree
  let ramp := speed.2.drawFree
  (ramp.2, { result := r, payload := queueCount g s ++ [speed.1, ramp.1] })

/-- LOAD_CUE (R107). -/
def loadCue (c : Console) (g : ConsoleGroup) (q : Cue) (s : State) : Taken :=
  if owns c s g then
    if 4 ≤ (s.grp (.console g)).queue.length then refuseCue .queueFull g s
    else
      let q := clampCue q
      takenWith .ok (fun s => queueCount g s ++ u8 q.speed ++ u8 q.ramp)
        (s.modGrp (.console g) fun r => { r with queue := r.queue ++ [q] })
  else refuseCue .notOwner g s

/-- A taken CLEAR_QUEUE, by the group's state (the table of R108). -/
def clearedQueue (r : Group) : Group :=
  match r.state with
  | .starting => { r with queue := r.queue.take 1 }
  | .moving => { r with queue := r.queue.take 1 }
  | .holding => { r with queue := r.queue.take 1 }
  | .stopping => { r with queue := r.queue.take 1 }
  | .idle => { r with queue := [] }
  | .tripped => { r with queue := [] }
  | .paused => { r with queue := [], state := .idle }

/-- CLEAR_QUEUE (R108). -/
def clearQueue (c : Console) (g : ConsoleGroup) (s : State) : Taken :=
  if owns c s g then takenWith .ok (queueCount g) (s.modGrp (.console g) clearedQueue)
  else refuseWith .notOwner (queueCount g) s

/-! ### GO (R109 to R111) -/

/-- The state tests of R109 and the checks of R110 on one group; none when all pass. -/
def groupGoCheck (s : State) (g : ConsoleGroup) : Option Result :=
  let r := s.grp (.console g)
  if r.state ≠ .idle ∧ r.state ≠ .paused then some .busy
  else
    match r.queue with
    | [] => some .queueEmpty
    | head :: _ => goCheck (.console g) head s

/-- The first failure of a GO, in the order of groups and checks, with its group (R109). A group that the requester does not
own is looked for first; the group named with NOT_OWNER is the lowest such one (DEDUCED, log entry 17). -/
def goFailure (c : Console) (gs : List ConsoleGroup) (s : State) : Option (ConsoleGroup × Result) :=
  match gs.find? fun g => !owns c s g with
  | some g => some (g, .notOwner)
  | none => gs.findSome? fun g => (groupGoCheck s g).map fun r => (g, r)

/-- GO (R109): taken whole or not at all. -/
def goGroups (c : Console) (set : GroupSet) (s : State) : Taken :=
  match goFailure c (groupsOf set) s with
  | some (g, r) => refuseWith r (fun _ => u8 g.val) s
  | none => takenWith .ok (fun _ => [0xFF]) ((groupsOf set).foldl (fun s g => goStart (.console g) s) s)

/-! ### HOLD and STOP (R91, R118) -/

/-- A group that HOLD renews and STOP stops: STARTING, MOVING or HOLDING. -/
def isStoppable (s : State) (g : ConsoleGroup) : Bool := (s.grp (.console g)).state.stoppable

/-- A list of console groups as a group set. -/
def groupSetOf (gs : List ConsoleGroup) : GroupSet := gs.foldl (fun m g => m ||| BitVec.twoPow 4 g.val) 0

/-- The hold deadline of a group set to the hold window from now (R90). -/
def renewDeadline (s : State) (g : ConsoleGroup) : State :=
  s.modGrp (.console g) fun r => { r with deadline := startMs s.timebase s.settings.holdWindow }

/-- HOLD (R91). -/
def holdGroups (c : Console) (set : GroupSet) (s : State) : Taken :=
  let renewed := (groupsOf set).filter (isStoppable s)
  if (groupsOf set).all (owns c s) then
    if renewed.isEmpty then refuseWith .busy (fun _ => [0]) s
    else takenWith .ok (fun _ => u8 (groupSetOf renewed).toNat) (renewed.foldl renewDeadline s)
  else refuseWith .notOwner (fun _ => [0]) s

/-- STOP (R118): OK in every case, with the set of the groups that entered STOPPING. -/
def stopGroups (set : GroupSet) (s : State) : Taken :=
  takenWith .ok (fun _ => u8 (groupSetOf ((groupsOf set).filter (isStoppable s))).toNat)
    ((groupsOf set).foldl (fun s g => controlledStop (.console g) s) s)

/-! ### JOG (R112) and RESET_GROUP (R121) -/

/-- The echo of JOG: the speed fraction and the ramp time stored (log entry 4). -/
def jogEcho (g : ConsoleGroup) (s : State) : List Byte :=
  u8 (s.grp (.console g)).jogSpeed ++ u8 (s.grp (.console g)).jogRamp

/-- A taken JOG (R112): the values clamped and stored, the hold deadline set (R90), the jog started. -/
def jogTaken (g : ConsoleGroup) (d : Dir) (f ramp : Nat) (s : State) : State :=
  startJog (.console g) d (clamp 1 100 f) (clamp 2 50 ramp)
    (s.modGrp (.console g) fun r =>
      { r with
        jogSpeed := clamp 1 100 f
        jogRamp := clamp 2 50 ramp
        deadline := startMs s.timebase s.settings.holdWindow })

/-- JOG (R112). -/
def jogGroup (c : Console) (g : ConsoleGroup) (d : Dir) (f ramp : Nat) (s : State) : Taken :=
  if owns c s g then
    if (s.grp (.console g)).state ≠ .idle then refuseWith .busy (jogEcho g) s
    else if (s.members (.console g)).isEmpty then refuseWith .badValue (jogEcho g) s
    else
      match jogCheck (.console g) d s with
      | some r => refuseWith r (jogEcho g) s
      | none => takenWith .ok (jogEcho g) (jogTaken g d f ramp s)
  else refuseWith .notOwner (jogEcho g) s

/-- The tests of R121 after the owner's, in order; none when all pass. -/
def resetGroupCheck (g : ConsoleGroup) (s : State) : Option Result :=
  let ms := (s.members (.console g)).map s.chan
  firstFailure
    [ (decide ((s.grp (.console g)).state ≠ .tripped), .busy),
      ((ms.any fun c => decide (c.state = .faulted)) || decide (s.stops.estop ≠ .clear), .causePresent),
      (ms.any fun c => c.state.inMotion, .busy) ]

/-- A taken RESET_GROUP (R121). -/
def resetGroupTaken (g : ConsoleGroup) (s : State) : State :=
  (s.modGrp (.console g) fun r =>
    { r with trip := none, state := if r.queue.isEmpty then .idle else .paused }).retrip

/-- RESET_GROUP (R121). -/
def resetGroup (c : Console) (g : ConsoleGroup) (s : State) : Taken :=
  if owns c s g then
    match resetGroupCheck g s with
    | some r => refuseWith r (fun _ => []) s
    | none => takenWith .ok (fun _ => []) (resetGroupTaken g s)
  else refuseWith .notOwner (fun _ => []) s

/-! ### Payloads and meanings -/

/-- SET_GROUP with its payload (R104). -/
def reqSetGroup (c : Console) (p : List Byte) : State → Taken :=
  withLength 23 p (withField (groupAt p 0) fun g => withField (intervalAt p 2) fun n =>
    setGroup c g (setAt p 1) n (windowsAt p 3))

/-- DISBAND with its payload (R106). -/
def reqDisband (c : Console) (p : List Byte) : State → Taken := withLength 1 p (withField (groupAt p 0) (disband c))

/-- LOAD_CUE with its payload (R107, R185). -/
def reqLoadCue (c : Console) (p : List Byte) (s : State) : Taken :=
  if cueFits p then withField (groupAt p 0) (fun g => withField (cueAt p) (loadCue c g)) s else refuse .badFrame s

/-- CLEAR_QUEUE with its payload (R108). -/
def reqClearQueue (c : Console) (p : List Byte) : State → Taken := withLength 1 p (withField (groupAt p 0) (clearQueue c))

/-- GO with its payload (R109). -/
def reqGo (c : Console) (p : List Byte) : State → Taken := withLength 1 p (withField (groupSetAt p 0) (goGroups c))

/-- HOLD with its payload (R91). -/
def reqHold (c : Console) (p : List Byte) : State → Taken := withLength 1 p (withField (groupSetAt p 0) (holdGroups c))

/-- STOP with its payload (R118). -/
def reqStop (p : List Byte) : State → Taken := withLength 1 p (withField (groupSetAt p 0) stopGroups)

/-- JOG with its payload (R112). -/
def reqJog (c : Console) (p : List Byte) : State → Taken :=
  withLength 4 p (withField (groupAt p 0) fun g => withField (directionAt p 1) fun d =>
    jogGroup c g d (byteAt p 2) (byteAt p 3))

/-- RESET_GROUP with its payload (R121). -/
def reqResetGroup (c : Console) (p : List Byte) : State → Taken := withLength 1 p (withField (groupAt p 0) (resetGroup c))

/-- SET_GROUP (R105). -/
def execSetGroup (c : Console) (payload : List Byte) (s : State) : Answer :=
  .next (addressedFrame c 0x30 payload (reqSetGroup c payload) s)

/-- DISBAND (R106). -/
def execDisband (c : Console) (payload : List Byte) (s : State) : Answer :=
  .next (addressedFrame c 0x31 payload (reqDisband c payload) s)

/-- LOAD_CUE (R107). -/
def execLoadCue (c : Console) (payload : List Byte) (s : State) : Answer :=
  .next (addressedFrame c 0x32 payload (reqLoadCue c payload) s)

/-- CLEAR_QUEUE (R108). -/
def execClearQueue (c : Console) (payload : List Byte) (s : State) : Answer :=
  .next (addressedFrame c 0x33 payload (reqClearQueue c payload) s)

/-- GO (R109). -/
def execGo (c : Console) (via : Addressing) (payload : List Byte) (s : State) : Answer :=
  .next (eitherFrame c via 0x34 payload (reqGo c payload) s)

/-- HOLD (R91). -/
def execHold (c : Console) (via : Addressing) (payload : List Byte) (s : State) : Answer :=
  .next (eitherFrame c via 0x35 payload (reqHold c payload) s)

/-- STOP (R118). -/
def execStop (c : Console) (via : Addressing) (payload : List Byte) (s : State) : Answer :=
  .next (eitherFrame c via 0x36 payload (reqStop payload) s)

/-- JOG (R112). -/
def execJog (c : Console) (payload : List Byte) (s : State) : Answer :=
  .next (addressedFrame c 0x37 payload (reqJog c payload) s)

/-- RESET_GROUP (R121). -/
def execResetGroup (c : Console) (payload : List Byte) (s : State) : Answer :=
  .next (addressedFrame c 0x38 payload (reqResetGroup c payload) s)

end Sys2Proof.Machine
end

