-- ==== Sys2Proof/Machine/PartRequests.lean ====
section
/-! DEFINITION. The requests that act on the whole part (R42, R153, R176, R177, R180, R181). -/

namespace Sys2Proof.Machine

/-! ### POWER (R42) -/

/-- The echo of POWER: the supply state. -/
def supplyEcho (s : State) : List Byte := u8 (supplyCode s.supply.state)

/-- POWER with ON or OFF (R42). -/
def power (on : Bool) (s : State) : Taken :=
  if on then
    if s.stops.monitor = .low then refuseWith .stopActive supplyEcho s
    else if s.supply.state = .off ∨ s.supply.state = .failed then takenWith .ok supplyEcho (supplyClosing s)
    else takenWith .ok supplyEcho s
  else if channels.any fun i => (s.chan i).state.inMotion then refuseWith .busy supplyEcho s
  else if s.supply.state = .off then takenWith .ok supplyEcho s
  else takenWith .ok supplyEcho (supplyOff s)

/-! ### RESET_ESTOP (R153) -/

/-- The echo of RESET_ESTOP: E-stop state and cause. -/
def estopEcho (s : State) : List Byte := u8 (estopCode s.stops.estop) ++ u8 (estopCauseCode s.stops.cause)

/-- RESET_ESTOP by the E-stop state (the table of R153). -/
def resetEstop (s : State) : Taken :=
  match s.stops.estop with
  | .active => refuseWith .causePresent estopEcho s
  | .clear => takenWith .ok estopEcho s
  | .latched => takenWith .ok estopEcho ({ s with stops := { s.stops with estop := .clear } }.raise .estop).retrip

/-! ### SET_MASK and ACK_NOTICES (R180, R181) -/

/-- SET_MASK (R180). -/
def setMask (c : Console) (m : NoticeSet) (s : State) : Taken :=
  takenWith .ok (fun s => setBytes 7 (s.box c).mask.toNat) (s.setBox c (noticeBox (s.box c).pending m))

/-- ACK_NOTICES (R181). -/
def ackNotices (c : Console) (m : NoticeSet) (s : State) : Taken :=
  takenWith .ok (fun s => setBytes 7 (s.box c).pending.toNat)
    (s.setBox c (noticeBox ((s.box c).pending &&& ~~~m) (s.box c).mask))

/-! ### SET_PART (R176) -/

/-- The settings clamped (R176). -/
def clampSettings (v : Settings) : Settings :=
  { v with
    level := clamp 0 15 v.level
    linkTimeout := clamp 100 2000 v.linkTimeout
    holdWindow := clamp 100 1000 v.holdWindow
    pendantSpeed := clamp 1 100 v.pendantSpeed }

/-- A taken SET_PART (R176): six settings at one moment; the enable set acts by R66, the monitor level by R157, the mask by
R162. The other three act at their next use. -/
def setPartTaken (v : Settings) (s : State) : State :=
  let s := storeEnable v.enable s
  (monitorCompare { s with settings := clampSettings v }).retrip

/-- SET_PART (R176). -/
def setPart (v : Settings) (s : State) : Taken := takenWith .ok (fun s => settingsBytes s.settings) (setPartTaken v s)

/-! ### RESTART (R177) -/

/-- A console group after a RESTART (R102, R124): interval code, windows, move kind and the last jog's values are kept. -/
def restartedGroup (r : Group) : Group :=
  { r with
    owner := .none
    queue := []
    trip := none
    state := match r.state with
      | .paused => .idle
      | .tripped => .idle
      | st => st
    prof := State.resetProfile }

/-- A taken RESTART (R177), with the pendant evaluation after the holders are gone (R101). -/
def restarted (s : State) : State :=
  let s :=
    { s with
      chans := s.chans.mapIdx fun _ c => { c with holder := .none, group := none }
      groups :=
        { g0 := restartedGroup s.groups.g0, g1 := restartedGroup s.groups.g1, g2 := restartedGroup s.groups.g2
          g3 := restartedGroup s.groups.g3, pendant := { s.groups.pendant with prof := State.resetProfile } } }
  { (pendantEval s).retrip with notices := ⟨State.resetNotices, State.resetNotices⟩ }

/-- The groups forbid a RESTART (R177). -/
def restartBusy (s : State) : Bool :=
  (consoleGroups.any fun g => (s.grp (.console g)).state.inMove) || decide ((s.grp .pendant).state ≠ .idle)

/-- RESTART (R177). -/
def restart (s : State) : Taken :=
  if restartBusy s then refuseWith .busy (fun _ => []) s else takenWith .ok (fun _ => []) (restarted s)

/-! ### Payloads and meanings -/

/-- POWER with its payload (R42): a value outside ON and OFF is refused by the link interface. -/
def reqPower (p : List Byte) : State → Taken := withLength 1 p (withField (yesNoAt p 0) power)

/-- RESET_ESTOP with its payload (R153). -/
def reqResetEstop (p : List Byte) : State → Taken := withLength 0 p resetEstop

/-- SET_MASK with its payload (R180). -/
def reqSetMask (c : Console) (p : List Byte) : State → Taken := withLength 7 p (withField (noticeSetAt p 0) (setMask c))

/-- ACK_NOTICES with its payload (R181). -/
def reqAckNotices (c : Console) (p : List Byte) : State → Taken :=
  withLength 7 p (withField (noticeSetAt p 0) (ackNotices c))

/-- SET_PART with its payload (R176). -/
def reqSetPart (p : List Byte) : State → Taken := withLength 8 p (withField (settingsAt p 0) setPart)

/-- RESTART with its payload (R177). -/
def reqRestart (p : List Byte) : State → Taken := withLength 0 p restart

/-- POWER_ON (R42): POWER with the value 1. -/
def execPowerOn (c : Console) (s : State) : Answer := .next (addressedFrame c 0x40 [1] (reqPower [1]) s)

/-- POWER_OFF (R42): POWER with the value 0. -/
def execPowerOff (c : Console) (s : State) : Answer := .next (addressedFrame c 0x40 [0] (reqPower [0]) s)

/-- RESET_ESTOP (R153). -/
def execResetEstop (c : Console) (payload : List Byte) (s : State) : Answer :=
  .next (addressedFrame c 0x41 payload (reqResetEstop payload) s)

/-- SET_MASK (R180). -/
def execSetMask (c : Console) (payload : List Byte) (s : State) : Answer :=
  .next (addressedFrame c 0x42 payload (reqSetMask c payload) s)

/-- ACK_NOTICES (R181). -/
def execAckNotices (c : Console) (payload : List Byte) (s : State) : Answer :=
  .next (addressedFrame c 0x43 payload (reqAckNotices c payload) s)

/-- SET_PART (R176). -/
def execSetPart (c : Console) (payload : List Byte) (s : State) : Answer :=
  .next (addressedFrame c 0x44 payload (reqSetPart payload) s)

/-- RESTART (R177). -/
def execRestart (c : Console) (payload : List Byte) (s : State) : Answer :=
  .next (addressedFrame c 0x45 payload (reqRestart payload) s)

end Sys2Proof.Machine
end

