-- ==== Sys2Proof/Machine/Link.lean ====
section
/-! DEFINITION. The link receivers (R163 to R169): characters, gaps, discarded frames, and the frames whose code is taken from
the bytes. -/

namespace Sys2Proof.Machine

/-- The rule of a request code (11_frame_and_record_layouts.md, Requests); an unknown code is refused with UNKNOWN_REQUEST
(step 2 of R171). -/
def requestOf (c : Console) (code : Byte) (p : List Byte) : State → Taken :=
  match code.toNat with
  | 0x01 => reqReadPart p
  | 0x02 => reqReadChannel p
  | 0x03 => reqReadGroup p
  | 0x04 => reqReadQueue p
  | 0x05 => reqReadNotices c p
  | 0x10 => reqSelect c p
  | 0x11 => reqRelease c p
  | 0x12 => reqForceRelease c p
  | 0x13 => reqTakeGroup c p
  | 0x20 => reqConfigChannel c p
  | 0x21 => reqSetUpper c p
  | 0x22 => reqSetLower c p
  | 0x23 => reqSetPosition c p
  | 0x24 => reqSetEnvelope c p
  | 0x25 => reqSetLoadInput c p
  | 0x26 => reqSetLoadCal c p
  | 0x27 => reqClearFaults c p
  | 0x30 => reqSetGroup c p
  | 0x31 => reqDisband c p
  | 0x32 => reqLoadCue c p
  | 0x33 => reqClearQueue c p
  | 0x34 => reqGo c p
  | 0x35 => reqHold c p
  | 0x36 => reqStop p
  | 0x37 => reqJog c p
  | 0x38 => reqResetGroup c p
  | 0x40 => reqPower p
  | 0x41 => reqResetEstop p
  | 0x42 => reqSetMask c p
  | 0x43 => reqAckNotices c p
  | 0x44 => reqSetPart p
  | 0x45 => reqRestart p
  | _ => refuse .unknownRequest

/-- A broadcast code that is not GO, HOLD or STOP is ignored after its refresh (R169). -/
def ignored (s : State) : Taken := refuse .unknownRequest s

/-- What a broadcast frame with this code does after its refresh (R169). -/
def broadcastOf (c : Console) (code : Byte) (p : List Byte) : State → Taken :=
  match code.toNat with
  | 0x34 => reqGo c p
  | 0x35 => reqHold c p
  | 0x36 => reqStop p
  | _ => ignored

/-- UNKNOWN_REQUEST (R171). -/
def execUnknownRequest (c : Console) (code : Byte) (payload : List Byte) (s : State) : Answer :=
  .next (addressedFrame c code payload (requestOf c code payload) s)

/-- IGNORED_BROADCAST (R169). -/
def execIgnoredBroadcast (c : Console) (code : Byte) (payload : List Byte) (s : State) : Answer :=
  .next (broadcastFrame c payload (broadcastOf c code payload) s)

/-! ### Characters (R163, R164, R165) -/

/-- The bytes after the start byte up to the last payload byte, over which the CRC is formed (R166). -/
def crcSpan (bytes : List Byte) : List Byte := bytes.take (bytes.length - 2)

/-- The CRC bytes received are the CRC of the frame (R166). -/
def crcGood (bytes : List Byte) : Bool :=
  decide (wordAt bytes (bytes.length - 2) = (crc16 (crcSpan bytes)).toNat)

/-- The payload of a whole frame: what stands between CODE and the CRC. -/
def framePayload (bytes : List Byte) : List Byte := (crcSpan bytes).drop 3

/-- The end of a frame (R164): the CRC, then the address (R168). `bytes` are those after the start byte: ADDR, LEN, CODE,
payload, CRC high, CRC low. -/
def frameEnd (c : Console) (bytes : List Byte) (s : State) : State :=
  let s := s.setPort c .hunting
  let code := bytes.getD 2 0
  if crcGood bytes && hasStation s then
    if byteAt bytes 0 = s.station.toNat then takeAddressed c code (requestOf c code (framePayload bytes)) s
    else if byteAt bytes 0 = 31 then takeBroadcast c (broadcastOf c code (framePayload bytes)) s
    else s
  else s

/-- The gap timer of a receiver, started at a character (R165). -/
def gapFrom (now : Time) : Time := afterMs now 2

/-- A character received inside a frame (R164): a LEN above 64 abandons the frame; the frame ends with its last byte; any other
character starts the gap timer again. -/
def frameByte (c : Console) (bytes : List Byte) (s : State) : State :=
  if bytes.length = 2 ∧ 64 < byteAt bytes 1 then s.setPort c .hunting
  else if 2 ≤ bytes.length ∧ bytes.length = byteAt bytes 1 + 5 then frameEnd c bytes s
  else s.setPort c (.receiving bytes (gapFrom s.timebase))

/-- A character with a good stop bit on link `c` (R163). -/
def character (c : Console) (b : Byte) (s : State) : State :=
  match s.port c with
  | .hunting => if b = 0xA5 then s.setPort c (.receiving [] (gapFrom s.timebase)) else s
  | .receiving bytes _ => frameByte c (bytes ++ [b]) s
  | .answering _ => s

/-- REQUEST_CHARACTER_RECEIVED (R165). -/
def execRequestCharacterReceived (c : Console) (b : Byte) (s : State) : Answer := .next (character c b s)

/-! ### Ends of a frame and of a response -/

/-- A frame abandoned or discarded: the receiver returns to HUNTING, and a receiver in ANSWERING carries on (R163, R164). -/
def abandon (c : Console) (s : State) : State := if isAnswering (s.port c) then s else s.setPort c .hunting

/-- The gap timer expires inside a frame (R165). A timer that a character of the same moment has started again is not due. -/
def gapExpired (c : Console) (s : State) : State :=
  match s.port c with
  | .receiving _ gap => if reached s.timebase gap then s.setPort c .hunting else s
  | .hunting => s
  | .answering _ => s

/-- GAP_TIMER_EXPIRY (R165). -/
def execGapTimerExpiry (c : Console) (s : State) : Answer := .next (gapExpired c s)

/-- FRAME_DISCARDED (R164): whatever the reason, nothing is taken, answered or refreshed. -/
def execFrameDiscarded (c : Console) (_why : DiscardReason) (s : State) : Answer := .next (abandon c s)

/-- The last response byte has been sent (R163, R173). -/
def responseDone (c : Console) (s : State) : State := if isAnswering (s.port c) then s.setPort c .hunting else s

/-- RESPONSE_SENT (R173). -/
def execResponseSent (c : Console) (s : State) : Answer := .next (responseDone c s)

end Sys2Proof.Machine
end

