-- ==== Sys2Proof/Machine/Dispatch.lean ====
section
/-! DEFINITION. One arm per command: the meaning of each row of spec/opcode_table.json. -/

namespace Sys2Proof.Machine

/-- The effect of a command on everything but the queue of waiting commands. -/
def exec (i : Instr) (s : State) : Host.Outcome State Fault Refusal :=
  match i with
  | .powerOnReset pins => Sys2Proof.Machine.execPowerOnReset pins s
  | .initialConditionSettle thr ulim llim => Sys2Proof.Machine.execInitialConditionSettle thr ulim llim s
  | .estinFirstSettle closed => Sys2Proof.Machine.execEstinFirstSettle closed s
  | .thermalChange ch isOpen => Sys2Proof.Machine.execThermalChange ch isOpen s
  | .limitSwitchChange ch side isOpen => Sys2Proof.Machine.execLimitSwitchChange ch side isOpen s
  | .currentSenseChange ch active => Sys2Proof.Machine.execCurrentSenseChange ch active s
  | .brakeFeedbackChange ch released => Sys2Proof.Machine.execBrakeFeedbackChange ch released s
  | .encoderChange ch seen => Sys2Proof.Machine.execEncoderChange ch seen s
  | .torqueTimerExpiry ch => Sys2Proof.Machine.execTorqueTimerExpiry ch s
  | .brakeTimerExpiry ch => Sys2Proof.Machine.execBrakeTimerExpiry ch s
  | .brakeSetTimeExpiry ch => Sys2Proof.Machine.execBrakeSetTimeExpiry ch s
  | .stopHoldExpiry ch => Sys2Proof.Machine.execStopHoldExpiry ch s
  | .stuckContactorTimeout ch => Sys2Proof.Machine.execStuckContactorTimeout ch s
  | .reversalDwellExpiry ch => Sys2Proof.Machine.execReversalDwellExpiry ch s
  | .mainsfbChange closed => Sys2Proof.Machine.execMainsfbChange closed s
  | .closingTimerExpiry => Sys2Proof.Machine.execClosingTimerExpiry s
  | .settlingTimerExpiry => Sys2Proof.Machine.execSettlingTimerExpiry s
  | .referencePeriodStart ch => Sys2Proof.Machine.execReferencePeriodStart ch s
  | .speedTimeoutExpiry ch => Sys2Proof.Machine.execSpeedTimeoutExpiry ch s
  | .noMotionExpiry ch => Sys2Proof.Machine.execNoMotionExpiry ch s
  | .conversionComplete raw => Sys2Proof.Machine.execConversionComplete raw s
  | .estinChange closed => Sys2Proof.Machine.execEstinChange closed s
  | .pstopChange closed => Sys2Proof.Machine.execPstopChange closed s
  | .rstinChange asserted => Sys2Proof.Machine.execRstinChange asserted s
  | .vctlBelowThreshold mv => Sys2Proof.Machine.execVctlBelowThreshold mv s
  | .vctlAtThreshold mv => Sys2Proof.Machine.execVctlAtThreshold mv s
  | .vctlAboveHysteresis mv => Sys2Proof.Machine.execVctlAboveHysteresis mv s
  | .lowTimerExpiry => Sys2Proof.Machine.execLowTimerExpiry s
  | .pselChange ch closed => Sys2Proof.Machine.execPselChange ch closed s
  | .ppresChange present => Sys2Proof.Machine.execPpresChange present s
  | .pendantControlChange line active => Sys2Proof.Machine.execPendantControlChange line active s
  | .linkTimerExpiry c => Sys2Proof.Machine.execLinkTimerExpiry c s
  | .holdDeadlineExpiry g => Sys2Proof.Machine.execHoldDeadlineExpiry g s
  | .startTimerExpiry g => Sys2Proof.Machine.execStartTimerExpiry g s
  | .groupUpdate g => Sys2Proof.Machine.execGroupUpdate g s
  | .holdTimerExpiry g => Sys2Proof.Machine.execHoldTimerExpiry g s
  | .finishTimerExpiry g => Sys2Proof.Machine.execFinishTimerExpiry g s
  | .gapTimerExpiry c => Sys2Proof.Machine.execGapTimerExpiry c s
  | .frameDiscarded c why => Sys2Proof.Machine.execFrameDiscarded c why s
  | .unknownRequest c code payload => Sys2Proof.Machine.execUnknownRequest c code payload s
  | .ignoredBroadcast c code payload => Sys2Proof.Machine.execIgnoredBroadcast c code payload s
  | .responseSent c => Sys2Proof.Machine.execResponseSent c s
  | .readPart c payload => Sys2Proof.Machine.execReadPart c payload s
  | .readChannel c payload => Sys2Proof.Machine.execReadChannel c payload s
  | .readGroup c payload => Sys2Proof.Machine.execReadGroup c payload s
  | .readQueue c payload => Sys2Proof.Machine.execReadQueue c payload s
  | .readNotices c payload => Sys2Proof.Machine.execReadNotices c payload s
  | .select c payload => Sys2Proof.Machine.execSelect c payload s
  | .release c payload => Sys2Proof.Machine.execRelease c payload s
  | .forceRelease c payload => Sys2Proof.Machine.execForceRelease c payload s
  | .takeGroup c payload => Sys2Proof.Machine.execTakeGroup c payload s
  | .configChannel c payload => Sys2Proof.Machine.execConfigChannel c payload s
  | .setUpper c payload => Sys2Proof.Machine.execSetUpper c payload s
  | .setLower c payload => Sys2Proof.Machine.execSetLower c payload s
  | .setPosition c payload => Sys2Proof.Machine.execSetPosition c payload s
  | .setEnvelope c payload => Sys2Proof.Machine.execSetEnvelope c payload s
  | .setLoadInput c payload => Sys2Proof.Machine.execSetLoadInput c payload s
  | .setLoadCal c payload => Sys2Proof.Machine.execSetLoadCal c payload s
  | .clearFaults c payload => Sys2Proof.Machine.execClearFaults c payload s
  | .setGroup c payload => Sys2Proof.Machine.execSetGroup c payload s
  | .disband c payload => Sys2Proof.Machine.execDisband c payload s
  | .loadCue c payload => Sys2Proof.Machine.execLoadCue c payload s
  | .clearQueue c payload => Sys2Proof.Machine.execClearQueue c payload s
  | .go c via payload => Sys2Proof.Machine.execGo c via payload s
  | .hold c via payload => Sys2Proof.Machine.execHold c via payload s
  | .stop c via payload => Sys2Proof.Machine.execStop c via payload s
  | .jog c payload => Sys2Proof.Machine.execJog c payload s
  | .resetGroup c payload => Sys2Proof.Machine.execResetGroup c payload s
  | .powerOn c => Sys2Proof.Machine.execPowerOn c s
  | .powerOff c => Sys2Proof.Machine.execPowerOff c s
  | .resetEstop c payload => Sys2Proof.Machine.execResetEstop c payload s
  | .setMask c payload => Sys2Proof.Machine.execSetMask c payload s
  | .ackNotices c payload => Sys2Proof.Machine.execAckNotices c payload s
  | .setPart c payload => Sys2Proof.Machine.execSetPart c payload s
  | .restart c payload => Sys2Proof.Machine.execRestart c payload s
  | .requestCharacterReceived c b => Sys2Proof.Machine.execRequestCharacterReceived c b s

end Sys2Proof.Machine
end

