-- ==== Sys2Proof/Safety.lean ====
section
/-! DEFINITION. What a sound state is, law by law, in the terms that the statements use: each law is one that a rule of the
manual says the part keeps at every moment. -/

namespace Sys2Proof.Safety

open Sys2Proof.Machine

/-! ### Laws of one channel -/

/-- The line laws of R25: never both directions; BRKn only in STARTING and RUNNING, and always in RUNNING; the line of last
direction in STARTING and RUNNING; no line in OFF, PARKED and FAULTED; a line of a STOPPING channel only while its stop hold
time runs. -/
abbrev LineLaw (c : Chan) : Prop :=
  ¬(c.out.raise = true ∧ c.out.lower = true) ∧
  (c.out.brk = true → c.state = .starting ∨ c.state = .running) ∧
  (c.state = .running → c.out.brk = true) ∧
  (c.state = .starting ∨ c.state = .running →
    (c.out.raise = true ∧ c.lastDir = some .up) ∨ (c.out.lower = true ∧ c.lastDir = some .down)) ∧
  (c.state = .off ∨ c.state = .parked ∨ c.state = .faulted → c.out.raise = false ∧ c.out.lower = false) ∧
  (c.state = .stopping .quick → c.out.raise = false ∧ c.out.lower = false) ∧
  (c.state = .stopping .controlled → c.out.stopHoldTimer = none → c.out.raise = false ∧ c.out.lower = false)

/-- The states in which the timers of the start and stop sequences may run (R26 to R35), and a start may be pending (R5). -/
abbrev TimerLaw (c : Chan) : Prop :=
  (c.out.torqueTimer ≠ none → c.state = .starting ∧ c.out.brk = false) ∧
  (c.out.brakeTimer ≠ none → c.state = .starting ∧ c.out.brk = true) ∧
  (c.out.stopHoldTimer ≠ none → c.state = .stopping .controlled) ∧
  (c.out.confirmTimer ≠ none → c.state = .stopping .controlled ∨ c.state = .stopping .quick ∨ c.state = .faulted) ∧
  (c.out.dwellTimer ≠ none → c.state = .parked) ∧
  (c.startPending ≠ none → c.state = .parked ∨ c.state = .stopping .controlled ∨ c.state = .stopping .quick)

/-- The duty law of R39. -/
abbrev DutyLaw (c : Chan) : Prop :=
  c.gen.duty ≤ 255 ∧
  (∀ d, c.gen.pendingDuty = some d → d ≤ 255 ∧ c.cfg.kind = .variableSpeed ∧ c.state = .running) ∧
  (c.gen.duty ≠ 0 → c.cfg.kind = .variableSpeed ∧ c.state = .running)

/-- The fault set is empty exactly when the channel is not FAULTED (R10, R12), and OFF is the state of ABSENT (R2). -/
abbrev FaultLaw (c : Chan) : Prop :=
  (c.state = .faulted ↔ c.faults ≠ 0) ∧ (c.state = .off ↔ c.cfg.kind = .absent)

/-- The limit pair (R18, R19): a limit is pending exactly while the window is OPEN, and a VALID pair is 20 counts wide. -/
abbrev WindowLaw (c : Chan) : Prop :=
  (c.pendingLimit ≠ none ↔ c.window = .opened) ∧ (c.window = .valid → c.lower + 20 ≤ c.upper)

/-- The position lies in 0..65535 and the bound flag stands only at its bound (R51). -/
abbrev PositionLaw (c : Chan) : Prop :=
  c.position ≤ 65535 ∧ (c.pos.bound = .low → c.position = 0) ∧ (c.pos.bound = .high → c.position = 65535)

/-- The envelope (R76): minimum below maximum, maximum within 5/4 of the rated load. -/
abbrev EnvelopeLaw (c : Chan) : Prop := c.envMin < c.envMax ∧ c.envMax ≤ c.cfg.ratedLoad * 5 / 4

/-- The load items (R63, R73, R74): the load state follows from assignment, enable set, reading and ring; the ring holds at
most 4 loads and the filtered load is their floored mean; the counters stop at 3. -/
abbrev LoadLaw (enable : EightSet) (c : Chan) : Prop :=
  c.load.status = deriveLoad enable c.load ∧ c.load.ring.length ≤ 4 ∧ c.load.filtered = ringMean c.load.ring ∧
  c.load.overCount ≤ 3 ∧ c.load.underCount ≤ 3

/-- The stuck-contactor watch follows its condition (R34), and the slip check is armed only in PARKED and FAULTED (R55). -/
abbrev WatchLaw (c : Chan) : Prop :=
  (c.out.stuck = .idle ↔ stuckCond c = false) ∧ (c.pos.slipArmed = true → c.state = .parked ∨ c.state = .faulted)

/-! ### Laws of the whole part -/

/-- Every channel satisfies `P`. -/
abbrev EveryChan (P : Chan → Prop) (s : State) : Prop := ∀ i : Channel, P (s.chan i)

/-- A channel is STARTING or RUNNING only while the E-stop state is CLEAR, control low does not hold and the drive supply is
ON (R4, R44, R151, R158). -/
abbrev MotionLaw (s : State) : Prop :=
  ∀ i : Channel, (s.chan i).state = .starting ∨ (s.chan i).state = .running →
    s.stops.estop = .clear ∧ s.stops.monitor ≠ .low ∧ s.supply.state = .on

/-- The attention line law of R183. -/
abbrev AttentionLaw (s : State) : Prop :=
  (s.notices.ca.atn = true ↔ s.notices.ca.pending &&& s.notices.ca.mask ≠ 0) ∧
  (s.notices.cb.atn = true ↔ s.notices.cb.pending &&& s.notices.cb.mask ≠ 0)

/-- The TRIPOUT law of R161. -/
abbrev TripoutLaw (s : State) : Prop :=
  s.stops.tripout = true ↔
    s.stops.estop ≠ .clear ∨ s.stops.monitor = .low ∨
    ∃ g : ConsoleGroup, groupDrivesTripout s.settings.mask (s.grp (.console g)) = true

/-- The owner that the channels of group `g` must have as their holder. -/
abbrev ownerOf (s : State) (g : GroupId) : Holder := (s.grp g).owner

/-- The authority law of R80 and R103: every member of a console group is held by the console that owns the group, every
member of the pendant group is held by the pendant, and the members of one group are of one kind, none of them OFF. -/
abbrev AuthorityLaw (s : State) : Prop :=
  (∀ g : ConsoleGroup, ∀ i : Channel, (s.chan i).group = some (.console g) →
    (s.chan i).holder = ownerOf s (.console g) ∧ ownerOf s (.console g) ≠ .none) ∧
  (∀ g : ConsoleGroup, ownerOf s (.console g) ≠ .pendant) ∧
  (∀ i : Channel, (s.chan i).group = some .pendant ↔ (s.chan i).holder = .pendant) ∧
  (∀ i : Channel, (s.chan i).group ≠ none → (s.chan i).state ≠ .off) ∧
  (∀ i j : Channel, (s.chan i).group ≠ none → (s.chan i).group = (s.chan j).group →
    (s.chan i).cfg.kind = (s.chan j).cfg.kind)

/-- No input is assigned to two channels (R64). -/
abbrev InputLaw (s : State) : Prop :=
  ∀ i j : Channel, (s.chan i).load.input ≠ none → (s.chan i).load.input = (s.chan j).load.input → i = j

/-- The timers and the record of a group by its state (R90, R92, R113, R119, R124). -/
abbrev GroupTimerLaw (r : Group) : Prop :=
  (r.trip ≠ none ↔ r.state = .tripped) ∧
  (r.updateTimer ≠ none ↔ r.state.inMove = true) ∧
  (r.startTimer ≠ none ↔ r.state = .starting) ∧
  (r.prof.holdTimer ≠ none ↔ r.state = .holding) ∧
  (r.prof.finishTimer ≠ none → r.state = .moving ∨ r.state = .holding)

/-- A console group (R92, R107, R110, R116): a deadline exactly in STARTING, MOVING and HOLDING, at most 4 cues, and a head
cue while PAUSED and while in a cue move. -/
abbrev ConsoleGroupLaw (r : Group) : Prop :=
  GroupTimerLaw r ∧
  (r.deadline ≠ none ↔ r.state.stoppable = true) ∧
  r.queue.length ≤ 4 ∧
  (r.state = .paused → r.queue ≠ []) ∧
  (r.state.inMove = true → r.moveKind = .cue → r.queue ≠ [])

/-- The pendant group (R122): owned by the pendant, jogs alone, no queue, no deadline, never PAUSED. -/
abbrev PendantGroupLaw (r : Group) : Prop :=
  GroupTimerLaw r ∧ r.owner = .pendant ∧ r.moveKind = .jog ∧ r.queue = [] ∧ r.deadline = none ∧ r.state ≠ .paused

/-- The progress lies in 0..65536 (R129). -/
abbrev ProgressLaw (s : State) : Prop := ∀ g : GroupId, (s.grp g).prof.p ≤ 65536

/-- The laws of the five groups. -/
abbrev GroupLaw (s : State) : Prop :=
  (∀ g : ConsoleGroup, ConsoleGroupLaw (s.grp (.console g))) ∧ PendantGroupLaw (s.grp .pendant)

/-- The drive supply and its lines and timers (R41 to R45). -/
abbrev SupplyLaw (s : State) : Prop :=
  (s.supply.mains = true ↔ s.supply.state = .closing ∨ s.supply.state = .settling ∨ s.supply.state = .on) ∧
  (s.supply.closingTimer ≠ none ↔ s.supply.state = .closing) ∧
  (s.supply.settlingTimer ≠ none ↔ s.supply.state = .settling)

/-- The low timer runs exactly in DIP (R157) and a link timer exactly while its link is ACTIVE (R84). -/
abbrev MonitorLinkLaw (s : State) : Prop :=
  (s.stops.lowTimer ≠ none ↔ s.stops.monitor = .dip) ∧
  (s.arb.links.ca.timer ≠ none ↔ s.arb.links.ca.state = .active) ∧
  (s.arb.links.cb.timer ≠ none ↔ s.arb.links.cb.state = .active)

/-! ### What the statements say of a command -/

/-- A request frame with this payload is read and taken on link `c` (R163, R164, R167): the receiver is not answering, the
rack has a station address, and LEN is 0..64. -/
abbrev Ready (c : Console) (payload : List Byte) (s : State) : Prop :=
  isAnswering (s.port c) = false ∧ 1 ≤ s.station.toNat ∧ s.station.toNat ≤ 30 ∧ payload.length ≤ 64

/-- `t` with the receiver of link `c` sending this response (R173). -/
def answered (c : Console) (code : Byte) (result : Result) (payload : List Byte) (t : State) : State :=
  t.setPort c (.answering { code := code, result := result, payload := payload })

/-- The notice `n` is pending at both consoles (R179). -/
abbrev PendingBoth (n : Notice) (t : State) : Prop :=
  t.notices.ca.pending.getLsbD (noticeNumber n) = true ∧ t.notices.cb.pending.getLsbD (noticeNumber n) = true

/-- RAISEn, LOWERn and BRKn are de-energised. -/
abbrev LinesOff (c : Chan) : Prop := c.out.raise = false ∧ c.out.lower = false ∧ c.out.brk = false

/-- The masks are the same in `s` and `t`, and no kind has left a pending set. -/
abbrev KeepsNotices (s t : State) : Prop :=
  t.notices.ca.mask = s.notices.ca.mask ∧ t.notices.cb.mask = s.notices.cb.mask ∧
  s.notices.ca.pending &&& ~~~t.notices.ca.pending = 0 ∧ s.notices.cb.pending &&& ~~~t.notices.cb.pending = 0

/-- What a channel record stores for its owner is the same in `a` and `b`: the configuration, the limit pair, the envelope,
the load items and the thermal field. -/
abbrev KeepsStored (a b : Chan) : Prop :=
  b.cfg = a.cfg ∧ b.window = a.window ∧ b.upper = a.upper ∧ b.lower = a.lower ∧ b.pendingLimit = a.pendingLimit ∧
  b.envMin = a.envMin ∧ b.envMax = a.envMax ∧ b.load = a.load ∧ b.thermal = a.thermal

/-- The holder and the group of a channel are the same in `a` and `b`. -/
abbrev KeepsAuthority (a b : Chan) : Prop := b.holder = a.holder ∧ b.group = a.group

/-- Stored items, holder, group and position of every channel are the same in `s` and `t`. -/
abbrev KeepsRecords (s t : State) : Prop :=
  ∀ j : Channel, KeepsStored (s.chan j) (t.chan j) ∧ KeepsAuthority (s.chan j) (t.chan j) ∧
    (t.chan j).position = (s.chan j).position

/-- Nothing outside the channel and group records, the pending sets and TRIPOUT differs between `s` and `t`, and no kind has
left a pending set. -/
abbrev KeepsPart (s t : State) : Prop :=
  KeepsNotices s t ∧
  t.supply = s.supply ∧ t.scanner = s.scanner ∧ t.arb = s.arb ∧ t.stops = { s.stops with tripout := t.stops.tripout } ∧
  t.settings = s.settings ∧ t.ports = s.ports ∧ t.station = s.station ∧ t.timebase = s.timebase ∧ t.flash = s.flash ∧
  t.freeCount = s.freeCount ∧ t.pending = s.pending

/-- Every channel but `i` and the members of its group is the same in `s` and `t`. -/
abbrev KeepsOthers (i : Channel) (s t : State) : Prop :=
  ∀ j : Channel, j ≠ i → ((s.chan j).group = none ∨ (s.chan j).group ≠ (s.chan i).group) → t.chan j = s.chan j

/-- A stop of this RUNNING channel is not confirmed at once: its brake shows released, or is timed (R32). -/
abbrev StopTakesTime (c : Chan) : Prop := c.state = .running ∧ (c.cfg.bfbFitted = false ∨ c.out.bfb = true)

/-- A QUICK stop of this channel, which is STARTING, RUNNING or under a controlled stop, is confirmed at once: nothing is left
of the brake-set confirmation of R32, or no confirmation is made (R29). -/
abbrev ParksAtOnce (c : Chan) : Prop :=
  (c.state = .running ∧ c.cfg.bfbFitted = true ∧ c.out.bfb = false) ∨
  (c.state = .starting ∧ c.out.brk = true ∧ c.cfg.bfbFitted = true ∧ c.out.bfb = false) ∨
  (c.state = .starting ∧ c.out.brk = false ∧ (c.cfg.bfbFitted = false ∨ c.out.bfb = false)) ∨
  (c.state = .stopping .controlled ∧ c.out.confirmTimer = none)

/-- A channel that was `a` and is `b` has taken a QUICK stop request (R7, step 2 of R119): STARTING, RUNNING and a controlled stop
have become a quick stop, or PARKED where it is confirmed at once, with the lines off; every start pending is gone; a FAULTED
channel is not changed. Its holder and group may be changed by an evaluation of the pendant (R95). -/
abbrev QuickStopped (a b : Chan) : Prop :=
  (a.state = .faulted ∨ a.state = .off → b = { a with holder := b.holder, group := b.group }) ∧
  (a.state = .parked → b = { a with startPending := none, holder := b.holder, group := b.group }) ∧
  (a.state.inMotion = true → (b.state = .stopping .quick ∨ b.state = .parked) ∧ b.startPending = none) ∧
  (a.state = .starting ∨ a.state = .running → LinesOff b) ∧
  (a.state = .stopping .controlled → b.out.raise = false ∧ b.out.lower = false) ∧
  (StopTakesTime a → b.state = .stopping .quick)

/-- The trip has been told at both consoles, for a console group (step 4 of R119; the pendant group has no notice, R122). -/
abbrev TripNoticed (g : GroupId) (t : State) : Prop :=
  ∀ n : ConsoleGroup, g = .console n → PendingBoth (.group n .tripped) t

/-- The group of channel `i` has taken a trip of this cause naming the channel (R119): a group in a move is TRIPPED with a
fresh record, its other members are stopped quick and its notice is raised; a TRIPPED one counts a further cause, and every
other group is unchanged. -/
abbrev TripTaken (cause : TripCause) (i : Channel) (s t : State) : Prop :=
  ∀ g : GroupId,
    ((s.chan i).group = some g → (s.grp g).state.inMove = true →
      (t.grp g).state = .tripped ∧ (t.grp g).trip = some { cause := cause, channel := some i, further := 0 } ∧
      (t.grp g).updateTimer = none ∧ (t.grp g).startTimer = none ∧ (t.grp g).deadline = none ∧ TripNoticed g t ∧
      (∀ j : Channel, j ≠ i → (s.chan j).group = some g → QuickStopped (s.chan j) (t.chan j))) ∧
    ((s.chan i).group = some g → (s.grp g).state = .tripped →
      t.grp g = { s.grp g with
        trip := (s.grp g).trip.map fun x => { x with further := min 255 (x.further + 1) } }) ∧
    ((s.chan i).group ≠ some g ∨ (s.grp g).state = .idle ∨ (s.grp g).state = .paused → t.grp g = s.grp g)

/-- A fault report of kind `k` on channel `i`, which is not OFF, has been taken (R10, R11): the kind joins the fault set, the
channel is FAULTED with its lines off and no start pending, FAULT is raised at both consoles, and its group trips. -/
abbrev FaultTaken (i : Channel) (k : FaultKind) (s t : State) : Prop :=
  (t.chan i).state = .faulted ∧ (t.chan i).faults = (s.chan i).faults ||| faultBit k ∧
  ((s.chan i).state ≠ .faulted → LinesOff (t.chan i) ∧ (t.chan i).startPending = none) ∧
  PendingBoth (.chan i .fault) t ∧
  TripTaken (if k = .encoder then .referenceLost else .channelFault k) i s t ∧
  KeepsRecords s t ∧ KeepsPart s t ∧ KeepsOthers i s t

/-- What a pendant evaluation of `s` has made of the holders and groups in `t` (the table of R95), channels ascending: with PPRES
present an unheld channel that is not OFF is taken where its switch is closed and it is of the kind of the members of that
moment, and a held one whose switch is open is released; with PPRES absent every held one is released. It is said where the
members of the pendant group are of one kind, as R103 keeps them. -/
abbrev PendantEvaluated (s t : State) : Prop :=
  (∀ i j : Channel, (s.chan i).group = some .pendant → (s.chan j).group = some .pendant →
    (s.chan i).cfg.kind = (s.chan j).cfg.kind) →
  ∀ i : Channel,
    let fits := ∀ j : Channel,
      (j < i ∧ (t.chan j).group = some .pendant) ∨ (i ≤ j ∧ (s.chan j).group = some .pendant) →
      (s.chan j).cfg.kind = (s.chan i).cfg.kind
    if s.arb.ppres = true ∧ inSet s.arb.psel i = true then
      if (s.chan i).holder = .none ∧ (s.chan i).state ≠ .off ∧ fits then
        (t.chan i).holder = .pendant ∧ (t.chan i).group = some .pendant
      else KeepsAuthority (s.chan i) (t.chan i)
    else if (s.chan i).holder = .pendant then (t.chan i).holder = .none ∧ (t.chan i).group = none
    else KeepsAuthority (s.chan i) (t.chan i)

/-- The pendant group, with its record at `r`, has entered IDLE (R95, R122): its update timer is stopped, the evaluation is made,
and nothing else differs between `s` and `t`. -/
abbrev PendantEnds (r : Group) (s t : State) : Prop :=
  t.grp .pendant = { r with state := .idle, updateTimer := none } ∧
  (∀ n : ConsoleGroup, t.grp (.console n) = s.grp (.console n)) ∧ t.notices = s.notices ∧
  (∀ i : Channel, t.chan i = { s.chan i with holder := (t.chan i).holder, group := (t.chan i).group }) ∧
  PendantEvaluated s t ∧ KeepsPart s t

/-- A start in direction `d` on channel `i`, which is PARKED with the record `p`, has been tried by the steps of R4, at a start
request or at the retest of a start pending (R5, R16, R26): it is dropped under an E-stop or control low, refused by an open
hard limit switch, pending while the supply is not ON or a reversal dwell runs, and otherwise the channel has entered
STARTING. The trip of a refusal is said with PENB active for a member of the pendant group, since R100 may take that group out
of TRIPPED at once. -/
abbrev RetestMade (i : Channel) (d : Dir) (p : Chan) (s t : State) : Prop :=
  let stopped := s.stops.estop ≠ .clear ∨ s.stops.monitor = .low
  let limited := (match d with | .up => p.upperOpen | .down => p.lowerOpen) = true
  let waits := s.supply.state ≠ .on ∨ (p.lastDir = some d.opposite ∧ p.out.dwellTimer ≠ none)
  (stopped → t = s.setChan i { p with startPending := none }) ∧
  (¬stopped → limited → ((s.chan i).group = some .pendant → s.arb.penb = true) →
    t.chan i = { p with startPending := none } ∧ PendingBoth (.chan i .limit) t ∧ TripTaken .limitSwitch i s t ∧
    KeepsRecords s t ∧ KeepsPart s t ∧ KeepsOthers i s t) ∧
  (¬stopped → ¬limited → waits → t = s.setChan i { p with startPending := some d }) ∧
  (¬stopped → ¬limited → ¬waits →
    (t.chan i).state = .starting ∧ (t.chan i).lastDir = some d ∧ (t.chan i).startPending = none ∧
    (t.chan i).out.raise = decide (d = .up) ∧ (t.chan i).out.lower = decide (d = .down) ∧
    (t.chan i).out.brk = false ∧ (t.chan i).out.torqueTimer = startMs s.timebase p.cfg.torqueTime ∧
    (t.chan i).out.dwellTimer = none ∧ (t.chan i).pos.slipArmed = false ∧ (t.chan i).faults = p.faults ∧
    KeepsRecords s t ∧ (∀ j : Channel, j ≠ i → t.chan j = s.chan j) ∧ t.groups = s.groups ∧
    t.notices = s.notices ∧ KeepsPart s t)

/-- Channel `i` has completed its start (R6): it is RUNNING with its torque and brake timers stopped, the wrong-direction count
at 0 (R58) and, for FIXED, the no-motion timer started (R59); no other channel changes; its group, if STARTING with every
other member arrived or RUNNING, is MOVING with the start timer stopped (R113), and no other group changes. -/
abbrev StartCompleted (i : Channel) (before : Chan) (s t : State) : Prop :=
  t.chan i =
    { before with
      state := .running
      out := { before.out with torqueTimer := none, brakeTimer := none }
      pos := { before.pos with
        wrongDir := 0
        noMotion := if before.cfg.kind = .fixedSpeed then some (s.timebase + 1000000) else none } } ∧
  (∀ j : Channel, j ≠ i → t.chan j = s.chan j) ∧
  (∀ g : GroupId, t.grp g =
    if (s.chan i).group = some g ∧ (s.grp g).state = .starting ∧
        (∀ j : Channel, (s.chan j).group = some g → j ≠ i →
          ((s.grp g).prof.members.get j).arrived = true ∨ (s.chan j).state = .running)
    then { s.grp g with state := .moving, startTimer := none } else s.grp g) ∧
  t.notices = s.notices ∧ KeepsPart s t

/-- The four UP edges of R47, as (held pair, seen pair); the DOWN edges are their reverses. -/
def upPairs : List (EncPair × EncPair) :=
  [(⟨false, false⟩, ⟨true, false⟩), (⟨true, false⟩, ⟨true, true⟩), (⟨true, true⟩, ⟨false, true⟩),
   (⟨false, true⟩, ⟨false, false⟩)]

/-- The pendant's levels with this line at this level. -/
abbrev pendantLevels (line : PendantLine) (active : Bool) (a : Arbiter) : Arbiter :=
  match line with
  | .penb => { a with penb := active }
  | .pup => { a with pup := active }
  | .pdn => { a with pdn := active }

/-- PENB and the button of direction `d` are active and the other button is not: the jog condition of R98. -/
abbrev JogHeld (d : Dir) (a : Arbiter) : Prop :=
  a.penb = true ∧ (match d with | .up => a.pup = true ∧ a.pdn = false | .down => a.pdn = true ∧ a.pup = false)

/-- The timebase, reading `now`, has reached `e` (log entry 6). -/
abbrev Due (now e : Time) : Prop := (now - e).toNat < 2147483648

/-- The change from the held pair to the seen pair is a legal edge in direction `d` (R47). -/
abbrev EdgeOf (d : Dir) (held seen : EncPair) : Prop :=
  match d with
  | .up => (held, seen) ∈ upPairs
  | .down => (seen, held) ∈ upPairs

/-- The time of the latest legal edge that a capture holds (R53). -/
def latestEdge : Capture → Option Time
  | .empty => none
  | .one u => some u
  | .two _ u => some u

/-- The position can move one count in direction `d` (R51). -/
abbrev HasRoom (d : Dir) (position : Nat) : Prop :=
  match d with
  | .up => position < 65535
  | .down => 0 < position

/-! ### The fields of the snapshots (11_frame_and_record_layouts.md): offset k is the layout's byte k + 1 -/

/-- 1 for yes, 0 for no. -/
abbrev yesNo (b : Bool) : Nat := if b then 1 else 0

/-- The numeric codes, enumeration by enumeration. -/
abbrev NumericCodes : Prop :=
  [Kind.absent, .fixedSpeed, .variableSpeed].map kindCode = [0, 1, 2] ∧
  [ChanState.off, .parked, .starting, .running, .stopping .controlled, .stopping .quick, .faulted].map stateCode =
    [0, 1, 2, 3, 4, 4, 5] ∧
  [Holder.none, .console .a, .console .b, .pendant].map holderCode = [0, 1, 2, 3] ∧
  [WindowState.none, .opened, .valid].map windowCode = [0, 1, 2] ∧
  [none, some Dir.up, some Dir.down].map optDirCode = [0, 1, 2] ∧
  [LoadStatus.none, .unknown, .valid, .fault].map loadCode = [0, 1, 2, 3] ∧
  [GroupState.idle, .starting, .moving, .holding, .stopping, .paused, .tripped].map groupStateCode =
    [0, 1, 2, 3, 4, 5, 6] ∧
  [MoveKind.cue, .jog].map moveCode = [0, 1] ∧
  [Phase.none, .accel, .cruise, .decel, .stopping].map phaseCode = [0, 1, 2, 3, 4] ∧
  [LinkState.silent, .active, .lost].map linkCode = [0, 1, 2] ∧
  [SupplyState.off, .closing, .settling, .on, .failed].map supplyCode = [0, 1, 2, 3, 4] ∧
  [EstopState.clear, .active, .latched].map estopCode = [0, 1, 2] ∧
  [EstopCause.loop, .pendant].map estopCauseCode = [0, 1] ∧
  [MonitorState.normal, .dip, .low].map monitorCode = [0, 1, 2] ∧
  [FaultKind.brakeNoRelease, .brakeNoSet, .brakeSlip, .noCurrent, .stuckContactor, .wrongDirection, .noMotion, .overload,
    .underload, .loadcell, .encoder].map faultCode = [0, 1, 2, 3, 4, 5, 6, 7, 8, 9, 10] ∧
  [TripCause.syncLag, .syncLead, .syncStall, .startTimeout, .loadShift, .limitSwitch, .referenceLost,
    .channelFault .noCurrent, .estop, .supplyLow, .supplyLost].map tripCode = [1, 2, 3, 4, 5, 6, 7, 8, 9, 10, 11]

/-- The 16-bit number `n` stands at offset `k`, most significant byte first (R184). -/
abbrev WordIs (p : List Byte) (k n : Nat) : Prop := wordAt p k = n % 65536

/-- The configuration block stands at offset `k`. -/
abbrev ConfigIs (p : List Byte) (k : Nat) (f : ChanConfig) : Prop :=
  byteAt p k = kindCode f.kind ∧ WordIs p (k + 1) f.ratedSpeed ∧ WordIs p (k + 3) f.ratedLoad ∧
  byteAt p (k + 5) = f.gainK % 256 ∧ byteAt p (k + 6) = f.coast % 256 ∧ byteAt p (k + 7) = yesNo f.bfbFitted ∧
  WordIs p (k + 8) f.torqueTime ∧ WordIs p (k + 10) f.brakeTime ∧ WordIs p (k + 12) f.stopHold ∧
  WordIs p (k + 14) f.dwell ∧ byteAt p (k + 16) = f.slipCount % 256 ∧ byteAt p (k + 17) = f.refCode % 256

/-- The trip record stands at offset `k` in 4 bytes. -/
abbrev TripIs (p : List Byte) (k : Nat) (r : Option TripRecord) : Prop :=
  match r with
  | none => byteAt p k = 0 ∧ byteAt p (k + 1) = 255 ∧ byteAt p (k + 2) = 255 ∧ byteAt p (k + 3) = 0
  | some x =>
    byteAt p k = tripCode x.cause ∧
    byteAt p (k + 1) = (match x.cause with | .channelFault f => faultCode f | _ => 255) ∧
    byteAt p (k + 2) = (match x.channel with | none => 255 | some i => i.val) ∧ byteAt p (k + 3) = x.further % 256

/-- READ_CHANNEL, 48 bytes. -/
abbrev ChannelFields (p : List Byte) (c : Chan) : Prop :=
  byteAt p 0 = kindCode c.cfg.kind ∧ byteAt p 1 = stateCode c.state ∧ WordIs p 2 c.position ∧
  byteAt p 4 = yesNo c.referenced ∧ byteAt p 5 = windowCode c.window ∧ WordIs p 6 c.upper ∧ WordIs p 8 c.lower ∧
  (match c.pendingLimit with
   | none => byteAt p 10 = 0 ∧ WordIs p 11 0
   | some (.upper, v) => byteAt p 10 = 1 ∧ WordIs p 11 v
   | some (.lower, v) => byteAt p 10 = 2 ∧ WordIs p 11 v) ∧
  byteAt p 13 = holderCode c.holder ∧
  byteAt p 14 = (match c.group with | none => 255 | some (.console g) => g.val | some .pendant => 4) ∧
  ConfigIs p 15 c.cfg ∧ WordIs p 33 c.envMin ∧ WordIs p 35 c.envMax ∧
  byteAt p 37 = c.faults.toNat % 256 ∧ byteAt p 38 = c.faults.toNat / 256 ∧
  byteAt p 39 = yesNo c.thermal + 2 * yesNo c.upperOpen + 4 * yesNo c.lowerOpen ∧ byteAt p 40 = optDirCode c.lastDir ∧
  byteAt p 41 = optDirCode c.startPending ∧ WordIs p 42 c.pos.speed ∧ WordIs p 44 c.load.filtered ∧
  byteAt p 46 = loadCode c.load.status ∧ byteAt p 47 = c.gen.duty % 256

/-- The member error that READ_GROUP reports: clamped into -32768..32767, in two's complement (R184, R185). -/
def reportedError (x : Int) : Nat := (max (-32768) (min 32767 x) % 65536).toNat

/-- READ_GROUP, 39 bytes and 6 for each member. -/
abbrev GroupFields (p : List Byte) (g : GroupId) (s : State) : Prop :=
  byteAt p 0 = holderCode (s.grp g).owner ∧
  (∀ n : Channel, (p.getD 1 0).getLsbD n.val = decide ((s.chan n).group = some g)) ∧
  byteAt p 2 = (s.grp g).interval % 256 ∧
  WordIs p 3 (s.grp g).windows.trimOn ∧ WordIs p 5 (s.grp g).windows.trimOff ∧ WordIs p 7 (s.grp g).windows.holdLag ∧
  WordIs p 9 (s.grp g).windows.releaseLag ∧ WordIs p 11 (s.grp g).windows.tripLag ∧
  WordIs p 13 (s.grp g).windows.tripLead ∧ WordIs p 15 (s.grp g).windows.arriveBand ∧
  WordIs p 17 (s.grp g).windows.settleBand ∧ WordIs p 19 (s.grp g).windows.holdTimeout ∧
  WordIs p 21 (s.grp g).windows.shareTolerance ∧ byteAt p 23 = groupStateCode (s.grp g).state ∧
  byteAt p 24 = moveCode (s.grp g).moveKind ∧ TripIs p 25 (s.grp g).trip ∧
  byteAt p 29 = (s.grp g).queue.length % 256 ∧
  (match (s.grp g).deadline with
   | none => WordIs p 30 65535
   | some e => (e - s.timebase).toNat ≤ 1000000 → WordIs p 30 ((e - s.timebase).toNat / 1000)) ∧
  byteAt p 32 = phaseCode (s.grp g).prof.phase ∧
  (let travel := match (s.grp g).moveKind with | .cue => (s.grp g).prof.p | .jog => (s.grp g).prof.j
   travel < 4294967296 → WordIs p 33 (travel / 65536) ∧ WordIs p 35 travel) ∧
  WordIs p 37 (s.grp g).prof.q ∧
  (∀ (n : Fin 8) (i : Channel), (channels.filter fun j => decide ((s.chan j).group = some g))[n.val]? = some i →
    let m := (s.grp g).prof.members.get i
    byteAt p (39 + 6 * n.val) = i.val ∧
    WordIs p (40 + 6 * n.val) (match m.plan with | none => 0 | some x => x.target) ∧
    wordAt p (42 + 6 * n.val) = reportedError m.err ∧
    byteAt p (44 + 6 * n.val) = yesNo m.arrived + 2 * yesNo m.trimPaused)

/-- READ_PART, 41 bytes. -/
abbrev PartFields (p : List Byte) (s : State) : Prop :=
  byteAt p 0 = s.station.toNat ∧ byteAt p 1 = linkCode (s.link .a).state ∧ byteAt p 2 = linkCode (s.link .b).state ∧
  byteAt p 3 = s.settings.level % 256 ∧ byteAt p 4 = s.settings.mask.toNat ∧ WordIs p 5 s.settings.linkTimeout ∧
  WordIs p 7 s.settings.holdWindow ∧ byteAt p 9 = s.settings.pendantSpeed % 256 ∧ p.getD 10 0 = s.settings.enable ∧
  byteAt p 11 = supplyCode s.supply.state ∧ byteAt p 12 = estopCode s.stops.estop ∧
  byteAt p 13 = estopCauseCode s.stops.cause ∧ byteAt p 14 = yesNo s.stops.rstin ∧
  byteAt p 15 = monitorCode s.stops.monitor ∧ byteAt p 16 = yesNo s.stops.tripout ∧ p.getD 17 0 = s.arb.psel ∧
  byteAt p 18 = yesNo s.arb.pup + 2 * yesNo s.arb.pdn + 4 * yesNo s.arb.penb + 8 * yesNo s.arb.pstopClosed +
    16 * yesNo s.arb.ppres ∧
  byteAt p 19 = groupStateCode (s.grp .pendant).state ∧
  (∀ n : Channel, (p.getD 20 0).getLsbD n.val = decide ((s.chan n).group = some .pendant)) ∧
  TripIs p 21 (s.grp .pendant).trip ∧ byteAt p 25 = phaseCode (s.grp .pendant).prof.phase ∧
  ((s.grp .pendant).prof.j < 4294967296 →
    WordIs p 26 ((s.grp .pendant).prof.j / 65536) ∧ WordIs p 28 (s.grp .pendant).prof.j) ∧
  WordIs p 30 (s.grp .pendant).prof.q ∧ byteAt p 32 = optDirCode (some (s.grp .pendant).prof.dir) ∧
  (∀ n : Channel, byteAt p (33 + n.val) = holderCode (s.chan n).holder)

/-- READ_NOTICES, 15 bytes: each set lowest byte first (R184). -/
abbrev NoticeFields (p : List Byte) (b : NoticeBox) : Prop :=
  (∀ k : Fin 7, byteAt p k.val = b.pending.toNat / 256 ^ k.val % 256 ∧
    byteAt p (7 + k.val) = b.mask.toNat / 256 ^ k.val % 256) ∧ byteAt p 14 = yesNo b.atn

/-! ### What an update of a group finds (R125) -/

/-- +1 for UP, -1 for DOWN (R130). -/
abbrev signOf (d : Dir) : Int := match d with | .up => 1 | .down => -1

/-- The members of group `g`, of which there is one at least, are all FIXED or all VARIABLE (R103). -/
abbrev MembersAre (g : GroupId) (fixed : Bool) (s : State) : Prop :=
  (∃ i : Channel, (s.chan i).group = some g) ∧
  ∀ i : Channel, (s.chan i).group = some g → (s.chan i).cfg.kind = if fixed then .fixedSpeed else .variableSpeed

/-- The profile record after step 1 of an update: advanced in MOVING, as it stands in HOLDING. -/
def updProfile (g : GroupId) (fixed : Bool) (s : State) : Profile :=
  if (s.grp g).state = .moving then advanceMoving fixed (s.grp g).moveKind (s.grp g).prof else (s.grp g).prof

/-- The error of member `i` after step 2 (R130). -/
def updError (g : GroupId) (fixed : Bool) (s : State) (i : Channel) : Int :=
  match ((s.grp g).prof.members.get i).plan with
  | none => ((s.grp g).prof.members.get i).err
  | some m => (((s.chan i).position : Int) - commanded (s.grp g).moveKind (updProfile g fixed s) m) * signOf m.dir

/-- Channel `i` is a member of group `g` that is not arrived. -/
def notArrived (g : GroupId) (s : State) (i : Channel) : Bool :=
  decide ((s.chan i).group = some g) && !((s.grp g).prof.members.get i).arrived

/-- The arrival test of a cue on member `i`: at the end of the progress within the arrive band (R133), or within the coast of
a FIXED channel (R134). -/
def inReach (g : GroupId) (fixed : Bool) (s : State) (i : Channel) : Bool :=
  match (s.grp g).moveKind, ((s.grp g).prof.members.get i).plan with
  | .cue, some m =>
    if fixed then decide (((m.target : Int) - (s.chan i).position) * signOf m.dir ≤ (s.chan i).cfg.coast)
    else decide ((updProfile g fixed s).p = 65536) &&
      decide ((updError g fixed s i).natAbs ≤ (s.grp g).windows.arriveBand)
  | _, _ => false

/-- Member `i` arrives at step 3. -/
def arrivesNow (g : GroupId) (fixed : Bool) (s : State) (i : Channel) : Bool := notArrived g s i && inReach g fixed s i

/-- Member `i` is not arrived after step 3. -/
def stillAway (g : GroupId) (fixed : Bool) (s : State) (i : Channel) : Bool := notArrived g s i && !inReach g fixed s i

/-- Member `i` is behind by the trip lag (R137). -/
def lagsNow (g : GroupId) (fixed : Bool) (s : State) (i : Channel) : Bool :=
  stillAway g fixed s i && decide (updError g fixed s i ≤ -((s.grp g).windows.tripLag : Int))

/-- Member `i` is ahead by the trip lead (R137). -/
def leadsNow (g : GroupId) (fixed : Bool) (s : State) (i : Channel) : Bool :=
  stillAway g fixed s i && decide (((s.grp g).windows.tripLead : Int) ≤ updError g fixed s i)

/-- Member `i` is behind by the hold lag (R138). -/
def holdsNow (g : GroupId) (fixed : Bool) (s : State) (i : Channel) : Bool :=
  stillAway g fixed s i && decide (updError g fixed s i ≤ -((s.grp g).windows.holdLag : Int))

/-- Member `i` is behind by more than the release lag (R139). -/
def waitsNow (g : GroupId) (fixed : Bool) (s : State) (i : Channel) : Bool :=
  stillAway g fixed s i && decide (updError g fixed s i < -((s.grp g).windows.releaseLag : Int))

/-- Member `i` of group `g` has load state VALID: it is taken where the references are made (R146). -/
def loadTaken (g : GroupId) (s : State) (i : Channel) : Bool :=
  decide ((s.chan i).group = some g) && decide ((s.chan i).load.status = .valid)

/-- Member `i` is compared: it is taken and has a reference share (step 1 of R147). -/
def shareCompared (g : GroupId) (s : State) (i : Channel) : Bool :=
  loadTaken g s i && ((s.grp g).prof.members.get i).refShare.isSome

/-- The sum of the filtered loads of the channels that `p` holds of. -/
def loadTotal (p : Channel → Bool) (s : State) : Nat := ((channels.filter p).map fun i => (s.chan i).load.filtered).sum

/-- A comparison is made: at least two members are compared and their loads do not sum to 0 (step 2 of R147). -/
abbrev SharesComparable (g : GroupId) (s : State) : Prop :=
  2 ≤ (channels.filter (shareCompared g s)).length ∧ loadTotal (shareCompared g s) s ≠ 0

/-- Member `i` violates the reference share `ref` (steps 3 and 4 of R147). -/
def shareViolates (g : GroupId) (s : State) (i : Channel) (ref : Nat) : Bool :=
  decide (ref * (s.grp g).windows.shareTolerance / 100 + 8 <
    (((s.chan i).load.filtered * 1024 / loadTotal (shareCompared g s) s : Nat) - (ref : Int)).natAbs)

/-- The count of member `i` reaches 3 at this comparison (step 5 of R147). -/
def shiftsNow (g : GroupId) (s : State) (i : Channel) : Bool :=
  decide ((s.grp g).prof.loadCheck = .on) && decide (SharesComparable g s) && shareCompared g s i &&
    ((s.grp g).prof.members.get i).refShare.any (shareViolates g s i) && decide (2 ≤ ((s.grp g).prof.members.get i).viol)

/-- Steps 4 and 5 of the update report no trip. -/
abbrev NoTripNow (g : GroupId) (fixed : Bool) (s : State) : Prop :=
  ∀ i : Channel, lagsNow g fixed s i = false ∧ leadsNow g fixed s i = false ∧ shiftsNow g s i = false

/-- The hard limit switches of the members of group `g` are closed, so that no start request is refused by R16. -/
abbrev SwitchesClosed (g : GroupId) (s : State) : Prop :=
  ∀ i : Channel, (s.chan i).group = some g → (s.chan i).upperOpen = false ∧ (s.chan i).lowerOpen = false

/-- The update leaves a jog at its bound (R144). -/
abbrev AtJogBound (g : GroupId) (fixed : Bool) (s : State) : Prop :=
  (s.grp g).moveKind = .jog ∧ (updProfile g fixed s).jMax = some (updProfile g fixed s).j

/-- What an update of group `g` leaves alone: the other groups, the channels outside it, every stored record and the rest of
the part. -/
abbrev UpdateKeeps (g : GroupId) (s t : State) : Prop :=
  (∀ h : GroupId, h ≠ g → t.grp h = s.grp h) ∧ (∀ i : Channel, (s.chan i).group ≠ some g → t.chan i = s.chan i) ∧
  KeepsRecords s t ∧ KeepsPart s t

/-- Console group `n`, MOVING in a cue with the queue `head :: rest` and with every member arrived and PARKED in `s`, has completed
the cue (R116, R117, R135): MISS where a member rests outside its settle band, DONE, and IDLE with the deadline absent; after an
AUTO_NEXT cue under a running deadline the next one is started where its checks pass, in the same step by log entry 9. -/
abbrev CueCompleted (n : ConsoleGroup) (head : Cue) (rest : List Cue) (s t : State) : Prop :=
  let g : GroupId := .console n
  let missed := ∃ j : Channel, (s.chan j).group = some g ∧
    ((s.grp g).prof.members.get j).plan.any (fun m => decide
      ((s.grp g).windows.settleBand < (((s.chan j).position : Int) - m.target).natAbs)) = true
  (head.follow = .stopAtEnd ∨ rest = [] ∨ (s.grp g).deadline = none ∨ s.stops.estop ≠ .clear →
    (t.grp g).state = .idle ∧ (t.grp g).queue = rest ∧ (t.grp g).deadline = none ∧
    (t.grp g).updateTimer = none ∧ (t.grp g).prof.finishTimer = none ∧
    (missed → t.notices = ((s.raise (.group n .miss)).raise (.group n .done)).notices) ∧
    (¬missed → t.notices = (s.raise (.group n .done)).notices) ∧ t.chans = s.chans ∧ UpdateKeeps g s t) ∧
  (∀ (cue : Cue) (more : List Cue) (m : Channel) (x : Nat), rest = cue :: more → head.follow = .autoNext →
    (s.grp g).deadline ≠ none → s.stops.estop = .clear → s.stops.monitor ≠ .low → s.stops.rstin = false →
    s.supply.state ≠ .off → s.supply.state ≠ .failed →
    (∀ j : Channel, (s.chan j).group = some g →
      (s.chan j).referenced = true ∧ (s.chan j).window = .valid ∧ (s.chan j).thermal = false ∧
      (s.chan j).load.status ≠ .unknown ∧ (s.chan j).load.status ≠ .fault) →
    (∀ v ∈ cue.entries, (s.chan v.1).group = some g ∧ (s.chan v.1).lower ≤ v.2 ∧ v.2 ≤ (s.chan v.1).upper ∧
      ((s.chan v.1).position < v.2 → (s.chan v.1).upperOpen = false) ∧
      (v.2 < (s.chan v.1).position → (s.chan v.1).lowerOpen = false)) →
    cue.entries.head? = some (m, x) → x ≠ (s.chan m).position →
    (t.grp g).state = .starting ∧ (t.grp g).moveKind = .cue ∧ (t.grp g).queue = cue :: more ∧
    (t.grp g).deadline = (s.grp g).deadline ∧ (t.grp g).startTimer = some (s.timebase + 3000000) ∧
    (t.grp g).prof.p = 0 ∧ (t.grp g).prof.q = 0 ∧ ((t.grp g).prof.members.get m).arrived = false ∧
    (missed → t.notices = ((s.raise (.group n .miss)).raise (.group n .done)).notices) ∧
    (¬missed → t.notices = (s.raise (.group n .done)).notices) ∧ UpdateKeeps g s t)

/-- Group `g` is TRIPPED with a fresh record of this cause, its timers are stopped, its members are stopped quick and its
notice is raised (R119). -/
abbrev TrippedWith (g : GroupId) (cause : TripCause) (who : Option Channel) (s t : State) : Prop :=
  (t.grp g).state = .tripped ∧ (t.grp g).trip = some { cause := cause, channel := who, further := 0 } ∧
  (t.grp g).updateTimer = none ∧ (t.grp g).startTimer = none ∧ (t.grp g).deadline = none ∧
  (t.grp g).prof.holdTimer = none ∧ (t.grp g).prof.finishTimer = none ∧ TripNoticed g t ∧
  (∀ j : Channel, (s.chan j).group = some g → QuickStopped (s.chan j) (t.chan j))

/-- The corner of log entry 7 does not arise for group `g`: a STOPPING group, or a MOVING cue whose members are all arrived, has a
member that the quick stops of `t` do not bring to PARKED, and no member's hard limit switch is open. The pendant group has
PENB active or such a member, since R100 may take it out of TRIPPED at once. -/
abbrev TripReaches (g : GroupId) (s t : State) : Prop :=
  let stays := ∃ j : Channel, (s.chan j).group = some g ∧ (t.chan j).state ≠ .parked
  ((s.grp g).state = .stopping → stays) ∧
  ((s.grp g).state = .moving → (s.grp g).moveKind = .jog ∨ stays ∨
    ∃ j : Channel, (s.chan j).group = some g ∧ ((s.grp g).prof.members.get j).arrived = false) ∧
  SwitchesClosed g s ∧ (g = .pendant → s.arb.penb = true ∨ stays)

/-- A trip of this cause that names no channel has reached every group (R44, R151, R158, R119): a group in a move is TRIPPED
outside the corner of log entry 7, a TRIPPED console group counts a further cause, and an IDLE or PAUSED one is unchanged. -/
abbrev AllTripped (cause : TripCause) (s t : State) : Prop :=
  (∀ g : GroupId, (s.grp g).state.inMove = true → TripReaches g s t → TrippedWith g cause none s t) ∧
  (∀ n : ConsoleGroup,
    ((s.grp (.console n)).state = .tripped →
      t.grp (.console n) = { s.grp (.console n) with
        trip := (s.grp (.console n)).trip.map fun x => { x with further := min 255 (x.further + 1) } }) ∧
    ((s.grp (.console n)).state = .idle ∨ (s.grp (.console n)).state = .paused →
      t.grp (.console n) = s.grp (.console n)))

/-- A member that was `a` and is `b` when its group has entered STOPPING (R115): a STARTING one has a CONTROLLED stop, which is
confirmed at once where nothing waits, a PARKED or STOPPING one has lost its start pending and nothing else, a RUNNING one of
a FIXED group has a CONTROLLED stop and one of a VARIABLE group is left to the stop ramp. Where the pendant group ends at once
its evaluation may change holder and group (R122). -/
abbrev MemberStopped (g : GroupId) (s : State) (a b : Chan) : Prop :=
  (a.state = .faulted ∨ a.state = .off → b = { a with holder := b.holder, group := b.group }) ∧
  (a.state = .parked ∨ a.state = .stopping .controlled ∨ a.state = .stopping .quick →
    b = { a with startPending := none, holder := b.holder, group := b.group }) ∧
  (a.state = .starting → (b.state = .stopping .controlled ∨ b.state = .parked) ∧ b.startPending = none ∧
    b.out.brk = false ∧ (a.cfg.bfbFitted = true → a.out.bfb = true → b.state = .stopping .controlled)) ∧
  (a.state = .running → MembersAre g true s →
    (b.state = .stopping .controlled ∨ b.state = .parked) ∧ b.startPending = none ∧ b.out.brk = false ∧
    (StopTakesTime a → b.state = .stopping .controlled)) ∧
  (a.state = .running → MembersAre g false s → b = { a with gen := b.gen, holder := b.holder, group := b.group })

/-- A controlled stop has been made of group `g` (R115): it is STOPPING while a member is not PARKED, and has ended at once
otherwise, PAUSED with its notice after a cue and IDLE after a jog; the timers of the move and the deadline are stopped, the
queue is kept, and each member is stopped as its state and kind ask. That a FIXED group shows phase STOPPING too is the model's
reading (log entry 27). -/
abbrev StopMade (g : GroupId) (s t : State) : Prop :=
  ((∃ j : Channel, (s.chan j).group = some g ∧ (t.chan j).state ≠ .parked) → (t.grp g).state = .stopping) ∧
  ((∀ j : Channel, (s.chan j).group = some g → (t.chan j).state = .parked) →
    (t.grp g).updateTimer = none ∧
    (t.grp g).state = if g ≠ .pendant ∧ (s.grp g).moveKind = .cue then .paused else .idle) ∧
  (∀ n : ConsoleGroup, g = .console n → (t.grp g).state = .paused → PendingBoth (.group n .paused) t) ∧
  (∀ j : Channel, (s.chan j).group = some g → MemberStopped g s (s.chan j) (t.chan j)) ∧
  (t.grp g).trip = (s.grp g).trip ∧ (t.grp g).queue = (s.grp g).queue ∧ (t.grp g).startTimer = none ∧
  (t.grp g).deadline = none ∧ (t.grp g).prof.holdTimer = none ∧ (t.grp g).prof.finishTimer = none ∧
  (t.grp g).prof.phase = .stopping

/-! ### What an entry to PARKED makes (R8) -/

/-- The record that channel record `c`, with its lines off, has at entry to PARKED from STOPPING (R8, R32, R34, R35, R55, R57). -/
def parkedFrom (now : Time) (c : Chan) : Chan :=
  { c with
    state := .parked
    out := { c.out with
      stopHoldTimer := none, confirmTimer := none, dwellTimer := startMs now c.cfg.dwell
      stuck :=
        if c.out.cs = true then (if c.out.stuck = .idle then .timing (now + 100000) else c.out.stuck) else .idle }
    pos := { c.pos with
      slip := 0, slipStopped := false, slipArmed := if c.cfg.bfbFitted = true then !c.out.bfb else true } }

/-- The members of group `g` other than channel `i` are PARKED. -/
abbrev OthersParked (g : GroupId) (i : Channel) (s : State) : Prop :=
  ∀ j : Channel, j ≠ i → (s.chan j).group = some g → (s.chan j).state = .parked

/-- The members of group `g` are arrived. -/
abbrev AllArrived (g : GroupId) (s : State) : Prop :=
  ∀ j : Channel, (s.chan j).group = some g → ((s.grp g).prof.members.get j).arrived = true

/-- A trim restart of member `i` is due where it enters PARKED (R142): it is trim-paused, not arrived, and its error, formed from
its position now and the commanded position of the last update, is at or below trim off. -/
def trimDue (g : GroupId) (s : State) (i : Channel) : Bool :=
  let m := (s.grp g).prof.members.get i
  m.trimPaused && !m.arrived && m.plan.any fun x =>
    decide ((((s.chan i).position : Int) - commanded (s.grp g).moveKind (s.grp g).prof x) * signOf x.dir ≤
      (s.grp g).windows.trimOff)

/-- An entry of channel `i` to PARKED ends no stop, no trip and no cue of its group, and restarts no trim pause (R8, R100, R115,
R135, R142). -/
abbrev ParkUntold (i : Channel) (s : State) : Prop :=
  ∀ g : GroupId, (s.chan i).group = some g →
    ((s.grp g).state = .stopping → ¬OthersParked g i s) ∧
    (g = .pendant → (s.grp g).state = .tripped → s.arb.penb = true ∨ ¬OthersParked g i s) ∧
    ((s.grp g).state = .moving ∨ (s.grp g).state = .holding → trimDue g s i = false) ∧
    ((s.grp g).state = .moving → (s.grp g).moveKind = .jog ∨ ¬AllArrived g s ∨ ¬OthersParked g i s)

/-- The stop of group `g` has ended, its members being PARKED (R115): PAUSED with its notice after a cue, IDLE after a jog. -/
abbrev StopEnded (g : GroupId) (s t : State) : Prop :=
  match g with
  | .console n =>
    t = if (s.grp g).moveKind = .cue then
        (s.setGrp g { s.grp g with state := .paused, updateTimer := none }).raise (.group n .paused)
      else s.setGrp g { s.grp g with state := .idle, updateTimer := none }
  | .pendant => PendantEnds (s.grp .pendant) s t

/-- Channel `i` has entered PARKED with the record `p`, its group has been told and then a start pending retested (R8): the stop of
the group ends, the pendant group leaves TRIPPED, a cue completes, a trim pause is restarted, or the group takes nothing from
it. -/
abbrev ParkMade (i : Channel) (p : Chan) (s t : State) : Prop :=
  (ParkUntold i s →
    (p.startPending = none → t = s.setChan i p) ∧
    (∀ d : Dir, p.startPending = some d → RetestMade i d p s t)) ∧
  (p.startPending = none → ∀ g : GroupId, (s.chan i).group = some g →
    let u := s.setChan i p
    let m := (s.grp g).prof.members.get i
    ((s.grp g).state = .stopping → OthersParked g i s → StopEnded g u t) ∧
    (g = .pendant → (s.grp g).state = .tripped → s.arb.penb = false → OthersParked g i s →
      PendantEnds { s.grp g with trip := none } u t) ∧
    ((s.grp g).state = .moving ∨ (s.grp g).state = .holding → trimDue g s i = true →
      ∀ x : MemberPlan, m.plan = some x →
        RetestMade i x.dir p
          (s.setGrp g { s.grp g with
            prof := { (s.grp g).prof with members := (s.grp g).prof.members.set i { m with trimPaused := false } } }) t)) ∧
  (p.startPending = none → ∀ n : ConsoleGroup, (s.chan i).group = some (.console n) →
    (s.grp (.console n)).state = .moving → (s.grp (.console n)).moveKind = .cue → AllArrived (.console n) s →
    OthersParked (.console n) i s →
    ∀ (head : Cue) (rest : List Cue), (s.grp (.console n)).queue = head :: rest →
      CueCompleted n head rest (s.setChan i p) t)

/-- No channel is STARTING or RUNNING. -/
abbrev NothingRuns (t : State) : Prop := ∀ i : Channel, (t.chan i).state ≠ .starting ∧ (t.chan i).state ≠ .running

/-- No group is STARTING, MOVING, HOLDING or STOPPING. -/
abbrev NoGroupMoves (t : State) : Prop := ∀ g : GroupId, (t.grp g).state.inMove = false

/-- Console `c` holds channel `i` (R80). -/
abbrev HeldBy (c : Console) (s : State) (i : Channel) : Prop := (s.chan i).holder = .console c

/-- Console `c` owns console group `g`. -/
abbrev OwnedBy (c : Console) (s : State) (g : ConsoleGroup) : Prop := (s.grp (.console g)).owner = .console c

/-! ### What GO, JOG and SET_GROUP test, and what planning fixes -/

/-- The first test of R104 that fails on a SET_GROUP of this set, in the rule's order; none where every test passes. -/
def setGroupRefusal (c : Console) (g : ConsoleGroup) (set : EightSet) (s : State) : Option Result :=
  if ¬OwnedBy c s g ∧ (s.grp (.console g)).owner ≠ .none then some .notOwner
  else if ∃ i : Channel, inSet set i = true ∧ ¬HeldBy c s i then some .notHolder
  else if (s.grp (.console g)).state ≠ .idle then some .busy
  else if ∃ i : Channel, inSet set i = true ∧ (s.chan i).group ≠ none ∧ (s.chan i).group ≠ some (.console g) then
    some .inGroup
  else if ∃ i : Channel, inSet set i = true ∧ (s.chan i).state = .off then some .badValue
  else if ∃ i j : Channel, inSet set i = true ∧ inSet set j = true ∧ (s.chan i).cfg.kind ≠ (s.chan j).cfg.kind then
    some .mixedKinds
  else none

/-- Checks 1 and 2 of R110: a stop condition, or the drive supply OFF or FAILED. -/
def partRefusal (s : State) : Option Result :=
  if s.stops.estop ≠ .clear ∨ s.stops.monitor = .low ∨ s.stops.rstin = true then some .stopActive
  else if s.supply.state = .off ∨ s.supply.state = .failed then some .supplyOff
  else none

/-- Some member of group `g` satisfies `P`. -/
abbrev SomeMember (g : GroupId) (s : State) (P : Chan → Prop) : Prop :=
  ∃ i : Channel, (s.chan i).group = some g ∧ P (s.chan i)

/-- The first check of R110 that fails on group `g` and this head cue, in the table's order; none where every check passes. -/
def goRefusal (g : GroupId) (cue : Cue) (s : State) : Option Result :=
  match partRefusal s with
  | some r => some r
  | none =>
    if ∃ e ∈ cue.entries, (s.chan e.1).group ≠ some g then some .badValue
    else if SomeMember g s fun c => c.referenced = false then some .notReferenced
    else if (SomeMember g s fun c => c.window ≠ .valid) ∨
        ∃ e ∈ cue.entries, e.2 < (s.chan e.1).lower ∨ (s.chan e.1).upper < e.2 then some .outOfWindow
    else if SomeMember g s fun c => c.state = .faulted then some .faulted
    else if SomeMember g s fun c => c.thermal = true then some .thermal
    else if SomeMember g s fun c => c.load.status = .unknown ∨ c.load.status = .fault then some .loadUnknown
    else if ∃ e ∈ cue.entries, ((s.chan e.1).position < e.2 ∧ (s.chan e.1).upperOpen = true) ∨
        (e.2 < (s.chan e.1).position ∧ (s.chan e.1).lowerOpen = true) then some .causePresent
    else none

/-- What GO finds on one console group of its set: the state tests of R109, then the checks of R110. A PAUSED group has a head
cue (R115). -/
def goFinds (g : ConsoleGroup) (s : State) : Option Result :=
  if (s.grp (.console g)).state ≠ .idle ∧ (s.grp (.console g)).state ≠ .paused then some .busy
  else
    match (s.grp (.console g)).queue with
    | [] => some .queueEmpty
    | cue :: _ => goRefusal (.console g) cue s

/-- The first check that fails on a jog of group `g`: 1, 2, 6, 7 and 9 of R110 (R112); none where each passes. -/
def jogRefusal (g : GroupId) (d : Dir) (s : State) : Option Result :=
  match partRefusal s with
  | some r => some r
  | none =>
    if SomeMember g s fun c => c.state = .faulted then some .faulted
    else if SomeMember g s fun c => c.thermal = true then some .thermal
    else if SomeMember g s fun c => (match d with | .up => c.upperOpen | .down => c.lowerOpen) = true then
      some .causePresent
    else none

/-- The target of channel `i` under a cue: its entry's, or its present position (R111). -/
def targetUnder (cue : Cue) (s : State) (i : Channel) : Nat :=
  match cue.entries.find? fun e => e.1 == i with
  | some e => e.2
  | none => (s.chan i).position

/-- Member `i` of group `g` is to move under the cue (R111). -/
abbrev MovesUnder (g : GroupId) (cue : Cue) (s : State) (i : Channel) : Prop :=
  (s.chan i).group = some g ∧ targetUnder cue s i ≠ (s.chan i).position

/-- The effective speed of a member at speed fraction `f` (R126, R143). -/
def speedUnder (fixed : Bool) (f : Nat) (c : Chan) : Nat :=
  if fixed then c.cfg.ratedSpeed else max 1 (c.cfg.ratedSpeed * f / 100)

/-- The distance of member `i` under a cue (R126). -/
def distUnder (cue : Cue) (s : State) (i : Channel) : Nat :=
  ((targetUnder cue s i : Int) - (s.chan i).position).natAbs

/-- The rate that moving member `i` allows, in units of progress per update (R126). -/
def rateUnder (g : GroupId) (cue : Cue) (fixed : Bool) (s : State) (i : Channel) : Nat :=
  65536 * speedUnder fixed cue.speed (s.chan i) * intervalMs (s.grp g).interval / (1000 * distUnder cue s i)

/-- `f i` is the least of the values that `f` takes on the channels of `P`. -/
abbrev LeastOf (P : Channel → Prop) (f : Channel → Nat) (i : Channel) : Prop := P i ∧ ∀ j : Channel, P j → f i ≤ f j

/-- What both plans fix: the ramp step, the phase of the group's kind and the items that begin afresh (R127, R143). -/
abbrev RampPlanned (g : GroupId) (ramp : Nat) (fixed : Bool) (s : State) (pr : Profile) : Prop :=
  pr.a = max 1 (pr.qCruise / (ramp * 100 / intervalMs (s.grp g).interval)) ∧
  pr.phase = (if fixed then .cruise else .accel) ∧ pr.q = 0 ∧ pr.holdTimer = none ∧ pr.finishTimer = none ∧
  pr.loadCheck = .undecided

/-- Planning has filled the profile record of group `g` for a cue in which a member moves (R126, R127). -/
abbrev CuePlanned (g : GroupId) (cue : Cue) (fixed : Bool) (s : State) (pr : Profile) : Prop :=
  RampPlanned g cue.ramp fixed s pr ∧ pr.p = 0 ∧
  (∃ i : Channel, LeastOf (MovesUnder g cue s) (rateUnder g cue fixed s) i ∧
    pr.qCruise = max 1 (min 16384 (rateUnder g cue fixed s i))) ∧
  (∀ i : Channel, (s.chan i).group = some g →
    let m := pr.members.get i
    (m.arrived = true ↔ ¬MovesUnder g cue s i) ∧ m.trimPaused = false ∧ m.err = 0 ∧ m.refShare = none ∧
    m.plan.any (fun x => decide
      (x.start = (s.chan i).position ∧ x.target = targetUnder cue s i ∧ x.dist = distUnder cue s i ∧
        x.dir = (if targetUnder cue s i < (s.chan i).position then .down else .up) ∧
        (MovesUnder g cue s i → x.veff = speedUnder fixed cue.speed (s.chan i)))) = true)

/-- The soft limits of member `i` bind a jog: it is referenced with a VALID window (R20, R143). -/
abbrev BindsJog (g : GroupId) (s : State) (i : Channel) : Prop :=
  (s.chan i).group = some g ∧ (s.chan i).referenced = true ∧ (s.chan i).window = .valid

/-- How far channel `i` may travel to its soft limit, 0 for one already beyond it (R143). -/
def roomOf (d : Dir) (s : State) (i : Channel) : Nat :=
  match d with
  | .up => (s.chan i).upper - (s.chan i).position
  | .down => (s.chan i).position - (s.chan i).lower

/-- The speed of member `i` of a jog in counts per update (R143). -/
def stepUnder (g : GroupId) (f : Nat) (fixed : Bool) (s : State) (i : Channel) : Nat :=
  speedUnder fixed f (s.chan i) * intervalMs (s.grp g).interval / 1000

/-- Planning has filled the profile record of group `g`, which has a member, for a jog at speed fraction `f` (R143): its cruise
rate is that of its slowest member, and its bound the least room of the members whose soft limits bind. -/
abbrev JogPlanned (g : GroupId) (d : Dir) (f ramp : Nat) (fixed : Bool) (s : State) (pr : Profile) : Prop :=
  RampPlanned g ramp fixed s pr ∧ pr.j = 0 ∧ pr.dir = d ∧
  (∃ i : Channel, LeastOf (fun j => (s.chan j).group = some g) (stepUnder g f fixed s) i ∧
    pr.qCruise = max 1 (stepUnder g f fixed s i)) ∧
  ((∀ i : Channel, ¬BindsJog g s i) → pr.jMax = none) ∧
  ((∃ i : Channel, BindsJog g s i) →
    ∃ i : Channel, LeastOf (BindsJog g s) (roomOf d s) i ∧ pr.jMax = some (roomOf d s i)) ∧
  (∀ i : Channel, (s.chan i).group = some g →
    let m := pr.members.get i
    m.arrived = false ∧ m.trimPaused = false ∧
    m.plan.any (fun x => decide
      (x.start = (s.chan i).position ∧ x.target = (s.chan i).position ∧ x.dist = 0 ∧ x.dir = d ∧
        x.veff = speedUnder fixed f (s.chan i))) = true)

/-- What a taken GO leaves of console group `n`, whose queue this is, head first: STARTING under the head cue where a member moves
under it, with every moving member started or its start pending (R111, R113). A cue in which nothing moves is complete at once
(R113, R116): it leaves the queue with DONE raised, and after an AUTO_NEXT one the next cue is started where its checks pass
(R117; in the same step by log entry 9); otherwise the group is IDLE with its deadline absent. -/
def GoLeaves (n : ConsoleGroup) (s t : State) : List Cue → Prop
  | [] => False
  | head :: rest =>
    let g : GroupId := .console n
    if ∃ i : Channel, MovesUnder g head s i then
      (t.grp g).state = .starting ∧ (t.grp g).moveKind = .cue ∧ (t.grp g).queue = head :: rest ∧
      (t.grp g).deadline = startMs s.timebase s.settings.holdWindow ∧
      (t.grp g).startTimer = some (s.timebase + 3000000) ∧
      (t.grp g).updateTimer = startMs s.timebase (intervalMs (s.grp g).interval) ∧
      (∀ fixed : Bool, MembersAre g fixed s → CuePlanned g head fixed s (t.grp g).prof) ∧
      (∀ i : Channel, (s.chan i).group = some g →
        (MovesUnder g head s i → (s.chan i).state = .parked →
          (t.chan i).state = .starting ∨
            (t.chan i).startPending = some (if targetUnder head s i < (s.chan i).position then .down else .up)) ∧
        (MovesUnder g head s i → (s.chan i).state = .stopping .controlled ∨ (s.chan i).state = .stopping .quick →
          t.chan i = { s.chan i with
            startPending := some (if targetUnder head s i < (s.chan i).position then .down else .up) }) ∧
        (¬MovesUnder g head s i → t.chan i = s.chan i))
    else
      PendingBoth (.group n .done) t ∧
      match rest with
      | [] => (t.grp g).state = .idle ∧ (t.grp g).queue = [] ∧ (t.grp g).deadline = none ∧ (t.grp g).updateTimer = none
      | next :: _ =>
        if head.follow = .autoNext ∧ goRefusal g next s = none then GoLeaves n s t rest
        else (t.grp g).state = .idle ∧ (t.grp g).queue = rest ∧ (t.grp g).deadline = none ∧ (t.grp g).updateTimer = none

/-! ### The request commands -/

/-- The requests of a fixed payload length, as addressed commands with payload `p`: the CODE, the length, and the command
(11_frame_and_record_layouts.md, Requests). LOAD_CUE has the length that its entry count gives, and POWER comes as two commands
without a payload. -/
def fixedRequests (c : Console) (p : List Byte) : List (Byte × Nat × Instr) :=
  [(0x01, 0, .readPart c p), (0x02, 1, .readChannel c p), (0x03, 1, .readGroup c p), (0x04, 1, .readQueue c p),
    (0x05, 0, .readNotices c p), (0x10, 1, .select c p), (0x11, 1, .release c p), (0x12, 1, .forceRelease c p),
    (0x13, 1, .takeGroup c p), (0x20, 19, .configChannel c p), (0x21, 3, .setUpper c p), (0x22, 3, .setLower c p)] ++
  [(0x23, 3, .setPosition c p), (0x24, 5, .setEnvelope c p), (0x25, 2, .setLoadInput c p), (0x26, 5, .setLoadCal c p),
    (0x27, 1, .clearFaults c p), (0x30, 23, .setGroup c p), (0x31, 1, .disband c p), (0x33, 1, .clearQueue c p),
    (0x34, 1, .go c .addressed p), (0x35, 1, .hold c .addressed p), (0x36, 1, .stop c .addressed p)] ++
  [(0x37, 4, .jog c p), (0x38, 1, .resetGroup c p), (0x41, 0, .resetEstop c p), (0x42, 7, .setMask c p),
    (0x43, 7, .ackNotices c p), (0x44, 8, .setPart c p), (0x45, 0, .restart c p)]

/-- Every command that is a whole request frame on link `c`, with payload `p` where it carries one. -/
def wholeFrames (c : Console) (code : Byte) (p : List Byte) : List Instr :=
  (fixedRequests c p).map (fun e => e.2.2) ++
    [.loadCue c p, .powerOn c, .powerOff c, .go c .broadcast p, .hold c .broadcast p, .stop c .broadcast p,
      .unknownRequest c code p, .ignoredBroadcast c code p]

end Sys2Proof.Safety
end

