-- ==== Sys2Proof/WellFormed.lean ====
section
/-! DEFINITION. The well-formed commands: what a line, a timer or a console link can present. The meanings are total and
do not rely on it; a command outside it has the effect that the rules give the bytes or levels it carries. -/

namespace Sys2Proof

/-- The request codes (11_frame_and_record_layouts.md, Requests). -/
def requestCodes : List Byte :=
  [0x01, 0x02, 0x03, 0x04, 0x05, 0x10, 0x11, 0x12, 0x13] ++
  [0x20, 0x21, 0x22, 0x23, 0x24, 0x25, 0x26, 0x27] ++
  [0x30, 0x31, 0x32, 0x33, 0x34, 0x35, 0x36, 0x37, 0x38] ++
  [0x40, 0x41, 0x42, 0x43, 0x44, 0x45]

/-- The codes taken at the broadcast address: GO, HOLD and STOP (R169). -/
def broadcastCodes : List Byte := [0x34, 0x35, 0x36]

/-- A payload that a frame can carry: LEN is 0..64 (R164). -/
def payloadFits (payload : List Byte) : Bool := payload.length ≤ 64

/-- A command that can reach the block. -/
def Instr.wf : Instr → Bool
  | .powerOnReset _ => true
  | .initialConditionSettle _ _ _ => true
  | .estinFirstSettle _ => true
  | .thermalChange _ _ => true
  | .limitSwitchChange _ _ _ => true
  | .currentSenseChange _ _ => true
  | .brakeFeedbackChange _ _ => true
  | .encoderChange _ _ => true
  | .torqueTimerExpiry _ => true
  | .brakeTimerExpiry _ => true
  | .brakeSetTimeExpiry _ => true
  | .stopHoldExpiry _ => true
  | .stuckContactorTimeout _ => true
  | .reversalDwellExpiry _ => true
  | .mainsfbChange _ => true
  | .closingTimerExpiry => true
  | .settlingTimerExpiry => true
  | .referencePeriodStart _ => true
  | .speedTimeoutExpiry _ => true
  | .noMotionExpiry _ => true
  | .conversionComplete _ => true
  | .estinChange _ => true
  | .pstopChange _ => true
  | .rstinChange _ => true
  | .vctlBelowThreshold _ => true
  | .vctlAtThreshold _ => true
  | .vctlAboveHysteresis _ => true
  | .lowTimerExpiry => true
  | .pselChange _ _ => true
  | .ppresChange _ => true
  | .pendantControlChange _ _ => true
  | .linkTimerExpiry _ => true
  | .holdDeadlineExpiry _ => true
  | .startTimerExpiry _ => true
  | .groupUpdate _ => true
  | .holdTimerExpiry _ => true
  | .finishTimerExpiry _ => true
  | .gapTimerExpiry _ => true
  | .frameDiscarded _ _ => true
  -- an unknown request names no request (R171), an ignored broadcast is not GO, HOLD or STOP (R169)
  | .unknownRequest _ code payload => payloadFits payload && !requestCodes.contains code
  | .ignoredBroadcast _ code payload => payloadFits payload && !broadcastCodes.contains code
  | .responseSent _ => true
  | .readPart _ payload => payloadFits payload
  | .readChannel _ payload => payloadFits payload
  | .readGroup _ payload => payloadFits payload
  | .readQueue _ payload => payloadFits payload
  | .readNotices _ payload => payloadFits payload
  | .select _ payload => payloadFits payload
  | .release _ payload => payloadFits payload
  | .forceRelease _ payload => payloadFits payload
  | .takeGroup _ payload => payloadFits payload
  | .configChannel _ payload => payloadFits payload
  | .setUpper _ payload => payloadFits payload
  | .setLower _ payload => payloadFits payload
  | .setPosition _ payload => payloadFits payload
  | .setEnvelope _ payload => payloadFits payload
  | .setLoadInput _ payload => payloadFits payload
  | .setLoadCal _ payload => payloadFits payload
  | .clearFaults _ payload => payloadFits payload
  | .setGroup _ payload => payloadFits payload
  | .disband _ payload => payloadFits payload
  | .loadCue _ payload => payloadFits payload
  | .clearQueue _ payload => payloadFits payload
  | .go _ _ payload => payloadFits payload
  | .hold _ _ payload => payloadFits payload
  | .stop _ _ payload => payloadFits payload
  | .jog _ payload => payloadFits payload
  | .resetGroup _ payload => payloadFits payload
  | .powerOn _ => true
  | .powerOff _ => true
  | .resetEstop _ payload => payloadFits payload
  | .setMask _ payload => payloadFits payload
  | .ackNotices _ payload => payloadFits payload
  | .setPart _ payload => payloadFits payload
  | .restart _ payload => payloadFits payload
  | .requestCharacterReceived _ _ => true

end Sys2Proof
end

