-- ==== Sys2Proof/Certificates/Slice0/Obligations.lean ====
section
/-! DEFINITION. The statements for the provers. Each says in its docstring which rule of spec/ it formalises, and which
clause, if any, is the model's choice. `Ready`, `answered`, `FaultTaken` and the laws are those of Sys2Proof/Safety.lean. -/

open Sys2Proof Sys2Proof.Machine Sys2Proof.Safety

/-! ### The queue and reset -/

/-- A step takes the command at the front of the queue, and on an empty queue one microsecond passes: the timebase and the flash
clock of the lamps advance (R46, R94) and nothing else changes. The queue and the step that takes its front (log entry 25) and
the microsecond that passes on an empty queue (log entry 1) are the model's choices: the manual has no queue. -/
def Obligations.StepTakesFrontCommand : Prop :=
  (∀ (c : Instr) (rest : List Instr) (s : State),
    step { s with pending := c :: rest } = exec c { s with pending := rest }) ∧
  (∀ s : State, s.pending = [] →
    step s = .next { s with timebase := s.timebase + 1, flash := (s.flash + 1) % 1000000 })

/-- A command acts on everything but the queue of waiting commands. That one queue holds them and that only the outside fills
it is the model's choice (log entry 25). -/
def Obligations.CommandsKeepTheQueue : Prop :=
  ∀ (c : Instr) (s t : State), exec c s = .next t → t.pending = s.pending

/-- POWER_ON_RESET leaves the records at the values of their reset columns (R1, R24, R37, R41, R46, R62, R84, R90, R93, R97,
R102, R124, R149, R155, R157, R161, R163, R167, R176, R178). That the pendant group shows move kind JOG is the model's reading
(log entry 12), and that the command carries the level of VCTL in millivolts is its choice (log entry 15). -/
def Obligations.PowerOnResetLeaves : Prop :=
  ∀ (pins : ResetPins) (s : State), ∃ t, exec (.powerOnReset pins) s = .next t ∧
    (∀ i : Channel,
      (t.chan i).state = .off ∧ (t.chan i).position = 0 ∧ (t.chan i).referenced = false ∧
      (t.chan i).window = .none ∧ (t.chan i).upper = 0 ∧ (t.chan i).lower = 0 ∧ (t.chan i).pendingLimit = none ∧
      (t.chan i).holder = .none ∧ (t.chan i).group = none ∧ (t.chan i).envMin = 0 ∧ (t.chan i).envMax = 1250 ∧
      (t.chan i).faults = 0 ∧ (t.chan i).thermal = false ∧ (t.chan i).upperOpen = false ∧
      (t.chan i).lowerOpen = false ∧ (t.chan i).lastDir = none ∧ (t.chan i).startPending = none ∧
      (t.chan i).cfg =
        { kind := .absent, ratedSpeed := 1000, ratedLoad := 1000, gainK := 32, coast := 10, bfbFitted := true,
          torqueTime := 100, brakeTime := 250, stopHold := 150, dwell := 500, slipCount := 8, refCode := 1 } ∧
      LinesOff (t.chan i) ∧ (t.chan i).out.cs = false ∧ (t.chan i).out.bfb = false ∧
      (t.chan i).gen = { duty := 0, pendingDuty := none, periodCode := 1, periodStart := 0 } ∧
      (t.chan i).out.torqueTimer = none ∧ (t.chan i).out.brakeTimer = none ∧ (t.chan i).out.stopHoldTimer = none ∧
      (t.chan i).out.confirmTimer = none ∧ (t.chan i).out.dwellTimer = none ∧ (t.chan i).out.stuck = .idle ∧
      (t.chan i).pos =
        { held := pins.enc.get i, bound := .none, lastEdge := none, capture := .empty, speed := 0, speedTimeout := none
          slip := 0, slipStopped := false, slipArmed := false, wrongDir := 0, noMotion := none } ∧
      (t.chan i).load =
        { input := none, zero := 400, gain := 256, ring := [], filtered := 0, raw := none, overCount := 0, underCount := 0
          status := .none }) ∧
    (∀ g : ConsoleGroup,
      (t.grp (.console g)).owner = .none ∧ (t.grp (.console g)).state = .idle ∧ (t.grp (.console g)).queue = [] ∧
      (t.grp (.console g)).trip = none ∧ (t.grp (.console g)).interval = 1 ∧ (t.grp (.console g)).deadline = none ∧
      (t.grp (.console g)).windows =
        { trimOn := 40, trimOff := 10, holdLag := 60, releaseLag := 20, tripLag := 200, tripLead := 200, arriveBand := 3,
          settleBand := 15, holdTimeout := 3000, shareTolerance := 25 } ∧
      (t.grp (.console g)).prof.phase = .none ∧ (t.grp (.console g)).moveKind = .cue ∧
      (t.grp (.console g)).startTimer = none ∧ (t.grp (.console g)).updateTimer = none) ∧
    (t.grp .pendant).owner = .pendant ∧ (t.grp .pendant).state = .idle ∧ (t.grp .pendant).moveKind = .jog ∧
    (t.grp .pendant).queue = [] ∧ (t.grp .pendant).trip = none ∧ (t.grp .pendant).interval = 1 ∧
    (t.grp .pendant).deadline = none ∧ (t.grp .pendant).startTimer = none ∧ (t.grp .pendant).updateTimer = none ∧
    (t.grp .pendant).windows =
      { trimOn := 40, trimOff := 10, holdLag := 60, releaseLag := 20, tripLag := 200, tripLead := 200, arriveBand := 3,
        settleBand := 15, holdTimeout := 3000, shareTolerance := 25 } ∧
    (∀ g : GroupId, (t.grp g).prof =
      { phase := .none, p := 0, j := 0, q := 0, qCruise := 0, a := 0, jMax := none, dir := .up
        members := Chans.all
          { plan := none, arrived := false, trimPaused := false, err := 0, refShare := none, viol := 0 }
        loadCheck := .undecided, holdTimer := none, finishTimer := none }) ∧
    t.supply.state = .off ∧ t.supply.mains = false ∧ t.scanner = none ∧ t.supply.mainsfb = false ∧
    t.supply.closingTimer = none ∧ t.supply.settlingTimer = none ∧
    t.arb.psel = 0 ∧ t.arb.pup = false ∧ t.arb.pdn = false ∧ t.arb.penb = false ∧ t.arb.pstopClosed = true ∧
    t.arb.ppres = false ∧
    t.stops.estop = .active ∧ t.stops.cause = .loop ∧ t.stops.rstin = true ∧ t.stops.tripout = true ∧
    (21000 ≤ pins.vctl → t.stops.monitor = .normal ∧ t.stops.lowTimer = none) ∧
    (pins.vctl < 21000 → t.stops.monitor = .dip ∧ t.stops.lowTimer = some 10000) ∧
    t.settings = { level := 6, mask := 0b00110, linkTimeout := 500, holdWindow := 250, pendantSpeed := 25, enable := 0 } ∧
    t.arb.links = ⟨{ state := .silent, timer := none }, { state := .silent, timer := none }⟩ ∧
    t.notices = ⟨{ pending := 0, mask := 0, atn := false }, { pending := 0, mask := 0, atn := false }⟩ ∧
    t.ports = ⟨.hunting, .hunting⟩ ∧ t.station = pins.straps ∧ t.timebase = 0 ∧ t.pending = s.pending

/-- The first settlings (R1, R149): the condition fields take their lines, the E-stop leaves ACTIVE where the loop is closed,
and no notice is raised. That each comes once is the model's reading (log entry 3): the statement is of the first. -/
def Obligations.FirstSettlingsTakeTheLines : Prop :=
  ∀ (thr ulim llim : EightSet) (closed : Bool) (s : State),
    (s.arb.settled = false →
      exec (.initialConditionSettle thr ulim llim) s = .next
        { s with
          arb := { s.arb with settled := true }
          chans := s.chans.mapIdx fun i c =>
            { c with thermal := inSet thr i, upperOpen := inSet ulim i, lowerOpen := inSet llim i } }) ∧
    (s.stops.estinSettled = false → s.stops.estop = .active →
      exec (.estinFirstSettle closed) s = .next
        { s with
          stops := { s.stops with
            estinSettled := true, estinClosed := closed, estop := if closed = true then .latched else .active
            tripout := if closed = true then true else s.stops.tripout } })

/-! ### Channel lines and sequence timers -/

/-- THERMAL_CHANGE (R14), CURRENT_SENSE_CHANGE and STUCK_CONTACTOR_TIMEOUT (R34): the thermal field follows the contact and
THERMAL is raised where it goes from no to yes; current with both direction lines off starts the 100 ms timer of a channel
that is not OFF, its end cancels it, and the expiry reports STUCK_CONTACTOR. -/
def Obligations.ThermalAndCurrentInputs : Prop :=
  ∀ (i : Channel) (isOpen active : Bool) (s : State),
    (exec (.thermalChange i isOpen) s = .next
      (if isOpen = true ∧ (s.chan i).thermal = false then
        (s.setChan i { s.chan i with thermal := true }).raise (.chan i .thermal)
      else s.setChan i { s.chan i with thermal := isOpen })) ∧
    exec (.currentSenseChange i active) s = .next
      (s.setChan i { s.chan i with out := { (s.chan i).out with
        cs := active
        stuck :=
          if (s.chan i).state ≠ .off ∧ active = true ∧ (s.chan i).out.raise = false ∧ (s.chan i).out.lower = false then
            (if (s.chan i).out.stuck = .idle then .timing (s.timebase + 100000) else (s.chan i).out.stuck)
          else .idle } }) ∧
    ((∃ e, (s.chan i).out.stuck = .timing e) → (s.chan i).state ≠ .off →
      ∃ t, exec (.stuckContactorTimeout i) s = .next t ∧ FaultTaken i .stuckContactor s t)

/-- LIMIT_SWITCH_CHANGE (R15): a switch that opens ahead of a channel STARTING, RUNNING or STOPPING under a controlled stop
stops it quick, raises LIMIT and trips its group; a switch that closes, opens behind the run, or opens on a channel that is not
on a run only changes its field. A stop that is confirmed at once ends PARKED: that is stated for a channel in no group, or in a
console group that is STARTING, since the stop is made before the trip and may end its group first (log entry 7). That a brake
shown set when BRKn goes off confirms the stop at that moment, on which the clause of `ParksAtOnce` rests, is the model's
choice, by inference (log entry 22). -/
def Obligations.LimitSwitchStopsTheRun : Prop :=
  ∀ (i : Channel) (side : Side) (isOpen : Bool) (s : State),
    let ahead := match side with | .upper => Dir.up | .lower => Dir.down
    let onRun := (s.chan i).state = .running ∨ (s.chan i).state = .starting ∨ (s.chan i).state = .stopping .controlled
    let wasClosed := (match side with | .upper => (s.chan i).upperOpen | .lower => (s.chan i).lowerOpen) = false
    (onRun → (s.chan i).lastDir = some ahead → wasClosed →
      ¬ParksAtOnce (s.chan i) ∨ (s.chan i).group = none ∨
        (∃ g : ConsoleGroup, (s.chan i).group = some (.console g) ∧ (s.grp (.console g)).state = .starting) →
      ∃ t, exec (.limitSwitchChange i side true) s = .next t ∧
        (¬ParksAtOnce (s.chan i) → (t.chan i).state = .stopping .quick ∧
          (t.chan i).out.dwellTimer = (s.chan i).out.dwellTimer) ∧
        (ParksAtOnce (s.chan i) → (t.chan i).state = .parked ∧
          (t.chan i).out.dwellTimer = startMs s.timebase (s.chan i).cfg.dwell) ∧
        (t.chan i).out.raise = false ∧ (t.chan i).out.lower = false ∧
        ((s.chan i).state ≠ .stopping .controlled → (t.chan i).out.brk = false) ∧ (t.chan i).startPending = none ∧
        (match side with | .upper => (t.chan i).upperOpen | .lower => (t.chan i).lowerOpen) = true ∧
        PendingBoth (.chan i .limit) t ∧ TripTaken .limitSwitch i s t ∧ (t.chan i).faults = (s.chan i).faults ∧
        (t.chan i).referenced = (s.chan i).referenced ∧ KeepsRecords s t ∧ KeepsPart s t ∧ KeepsOthers i s t) ∧
    (isOpen = false ∨ (s.chan i).lastDir ≠ some ahead ∨ ¬onRun →
      exec (.limitSwitchChange i side isOpen) s = .next
        (s.setChan i (match side with
          | .upper => { s.chan i with upperOpen := isOpen }
          | .lower => { s.chan i with lowerOpen := isOpen })))

/-- BRAKE_FEEDBACK_CHANGE (R8, R24, R28, R32, R55): released while the brake timer runs completes the start; set, with the lines
down, ends the stop in PARKED, of which the channel's group is told (R100, R115, R135, R142) before a start pending is retested
(R5); set with a direction line still held is the brake part of the report alone; a PARKED channel's slip check follows it, and
so does that of a FAULTED one, whose brake-set confirmation ends where it shows set (R33); in any other state, and where it is
not fitted, only the level is held. That a cue started by auto-follow starts in the same step (log entry 9), and that a start
refused by an open limit switch counts as a further cause of a TRIPPED group (log entry 29), are the model's readings. -/
def Obligations.BrakeFeedbackActs : Prop :=
  ∀ (i : Channel) (released : Bool) (s : State),
    let seen : Chan := { s.chan i with out := { (s.chan i).out with bfb := released } }
    let set : Chan := { s.chan i with out := { (s.chan i).out with bfb := false } }
    let stopping := (s.chan i).state = .stopping .controlled ∨ (s.chan i).state = .stopping .quick
    let down := (s.chan i).out.raise = false ∧ (s.chan i).out.lower = false
    ((s.chan i).cfg.bfbFitted = true → (s.chan i).state = .starting → (s.chan i).out.brakeTimer ≠ none →
      ∃ t, exec (.brakeFeedbackChange i true) s = .next t ∧
        StartCompleted i { s.chan i with out := { (s.chan i).out with bfb := true } } s t) ∧
    ((s.chan i).cfg.bfbFitted = true → stopping → down →
      ∃ t, exec (.brakeFeedbackChange i false) s = .next t ∧ ParkMade i (parkedFrom s.timebase set) s t) ∧
    ((s.chan i).cfg.bfbFitted = true → stopping → ¬down →
      exec (.brakeFeedbackChange i false) s = .next
        (s.setChan i { set with out := { set.out with confirmTimer := none, stuck := .idle } })) ∧
    ((s.chan i).cfg.bfbFitted = true → (s.chan i).state = .parked →
      exec (.brakeFeedbackChange i released) s = .next
        (s.setChan i { seen with pos := { seen.pos with slipArmed := !released } })) ∧
    ((s.chan i).cfg.bfbFitted = true → (s.chan i).state = .faulted →
      exec (.brakeFeedbackChange i released) s = .next
        (s.setChan i { seen with
          out := { seen.out with confirmTimer := if released then seen.out.confirmTimer else none }
          pos := { seen.pos with slipArmed := !released } })) ∧
    ((s.chan i).cfg.bfbFitted = false ∨ (s.chan i).state = .running ∨ (s.chan i).state = .off ∨
        (stopping ∧ released = true) ∨
        ((s.chan i).state = .starting ∧ (released = false ∨ (s.chan i).out.brakeTimer = none)) →
      exec (.brakeFeedbackChange i released) s = .next (s.setChan i seen))

/-- TORQUE_TIMER_EXPIRY and BRAKE_TIMER_EXPIRY (R27, R28): at the first, with current the brake is released and its timer
starts, feedback already showing released completes the start, and without current NO_CURRENT is reported and no brake-set
confirmation runs. At the second, BRAKE_NO_RELEASE is reported where brake feedback is fitted, with a brake-set confirmation
that runs for brake time from this moment, and the start is complete where it is not fitted. -/
def Obligations.StartTimersExpire : Prop :=
  ∀ (i : Channel) (s : State), (s.chan i).state = .starting →
    ((s.chan i).out.torqueTimer ≠ none → (s.chan i).out.brk = false →
      ((s.chan i).out.cs = true → (s.chan i).cfg.bfbFitted = false ∨ (s.chan i).out.bfb = false →
        exec (.torqueTimerExpiry i) s = .next
          (s.setChan i { s.chan i with out := { (s.chan i).out with
            torqueTimer := none, brk := true, brakeTimer := startMs s.timebase (s.chan i).cfg.brakeTime } })) ∧
      ((s.chan i).out.cs = true → (s.chan i).cfg.bfbFitted = true → (s.chan i).out.bfb = true →
        ∃ t, exec (.torqueTimerExpiry i) s = .next t ∧
          StartCompleted i { s.chan i with out := { (s.chan i).out with brk := true } } s t) ∧
      ((s.chan i).out.cs = false →
        ∃ t, exec (.torqueTimerExpiry i) s = .next t ∧ FaultTaken i .noCurrent s t ∧
          (t.chan i).out.confirmTimer = none)) ∧
    ((s.chan i).out.brakeTimer ≠ none → (s.chan i).out.brk = true →
      ((s.chan i).cfg.bfbFitted = true →
        ∃ t, exec (.brakeTimerExpiry i) s = .next t ∧ FaultTaken i .brakeNoRelease s t ∧
          (t.chan i).out.confirmTimer = startMs s.timebase (s.chan i).cfg.brakeTime) ∧
      ((s.chan i).cfg.bfbFitted = false →
        ∃ t, exec (.brakeTimerExpiry i) s = .next t ∧ StartCompleted i (s.chan i) s t))

/-- BRAKE_SET_TIME_EXPIRY and STOP_HOLD_EXPIRY (R8, R30, R32, R33, R55): with brake feedback fitted and showing released the end
of brake time reports BRAKE_NO_SET; without it, it is the brake part of the report; the stop hold's end drops the direction
line and is the other part. With both parts made the channel is PARKED, of which its group is told (R100, R115, R135, R142)
before a start pending is retested (R5). On a FAULTED channel whose brake shows set, or that has no brake feedback, the
confirmation ends with no report. That a brake which shows set throughout ends a confirmation so is the model's reading (log
entry 22), and so are that a cue started by auto-follow starts in the same step (log entry 9) and that a start refused by an
open limit switch counts as a further cause of a TRIPPED group (log entry 29). -/
def Obligations.StopSequenceEnds : Prop :=
  ∀ (i : Channel) (s : State),
    let c := s.chan i
    let stopping := c.state = .stopping .controlled ∨ c.state = .stopping .quick
    let down := c.out.raise = false ∧ c.out.lower = false
    let dropped : Chan := { c with out := { c.out with raise := false, lower := false, stopHoldTimer := none } }
    (c.out.confirmTimer ≠ none → c.cfg.bfbFitted = true → c.out.bfb = true →
      c.state ≠ .off → c.state ≠ .starting → c.state ≠ .running →
      ∃ t, exec (.brakeSetTimeExpiry i) s = .next t ∧ FaultTaken i .brakeNoSet s t ∧
        (t.chan i).out.confirmTimer = none) ∧
    (c.out.confirmTimer ≠ none → c.cfg.bfbFitted = false ∨ c.out.bfb = false → c.state = .faulted →
      exec (.brakeSetTimeExpiry i) s = .next
        (s.setChan i { c with out := { c.out with confirmTimer := none }, pos := { c.pos with slipArmed := true } })) ∧
    (c.out.confirmTimer ≠ none → c.cfg.bfbFitted = false ∨ c.out.bfb = false → stopping → down →
      ∃ t, exec (.brakeSetTimeExpiry i) s = .next t ∧ ParkMade i (parkedFrom s.timebase c) s t) ∧
    (c.out.confirmTimer ≠ none → c.cfg.bfbFitted = false ∨ c.out.bfb = false → stopping → ¬down →
      exec (.brakeSetTimeExpiry i) s = .next
        (s.setChan i { c with out := { c.out with confirmTimer := none, stuck := .idle } })) ∧
    (c.out.stopHoldTimer ≠ none → c.state = .stopping .controlled → c.out.confirmTimer ≠ none →
      ∃ t, exec (.stopHoldExpiry i) s = .next t ∧ (t.chan i).state = .stopping .controlled ∧
        (t.chan i).out.raise = false ∧ (t.chan i).out.lower = false ∧ (t.chan i).out.stopHoldTimer = none ∧
        (t.chan i).out.confirmTimer = c.out.confirmTimer ∧ (t.chan i).lastDir = c.lastDir ∧
        (t.chan i).startPending = c.startPending ∧ (t.chan i).faults = c.faults ∧ KeepsRecords s t ∧
        (∀ j : Channel, j ≠ i → t.chan j = s.chan j) ∧ t.groups = s.groups ∧ t.notices = s.notices ∧ KeepsPart s t) ∧
    (c.out.stopHoldTimer ≠ none → c.state = .stopping .controlled → c.out.confirmTimer = none →
      ∃ t, exec (.stopHoldExpiry i) s = .next t ∧ ParkMade i (parkedFrom s.timebase dropped) s t)

/-- REVERSAL_DWELL_EXPIRY (R35, R4, R5, R16, R26): the dwell ends and a start pending is retested by the steps of R4: it is
dropped under an E-stop or control low, it is refused by an open hard limit switch, which raises LIMIT and trips the group, it
stays pending while the supply is not ON, and otherwise the channel enters STARTING with the line of its direction on, the brake
off and the torque timer started. The trip is stated with PENB active for a member of the pendant group, since R100 may take
that group out of TRIPPED at once. That such a refusal counts as a further cause of a TRIPPED group, which R16 does not say, is
the model's choice, by inference (log entry 29). -/
def Obligations.DwellExpiryRetestsTheStart : Prop :=
  ∀ (i : Channel) (s : State), (s.chan i).out.dwellTimer ≠ none →
    let ended := { s.chan i with out := { (s.chan i).out with dwellTimer := none } }
    ((s.chan i).startPending = none → exec (.reversalDwellExpiry i) s = .next (s.setChan i ended)) ∧
    (∀ d : Dir, (s.chan i).startPending = some d → (s.chan i).state = .parked →
      ∃ t, exec (.reversalDwellExpiry i) s = .next t ∧ RetestMade i d ended s t)

/-- REFERENCE_PERIOD_START, SPEED_TIMEOUT_EXPIRY and NO_MOTION_EXPIRY (R38, R40, R53, R59), and the level of REFn, high for
duty/255 of its period (R37). An expiry acts where its due reading has been reached; one that finds its timer restarted
changes nothing. How a reading is known to be reached is the model's choice (log entry 6). -/
def Obligations.PeriodSpeedAndMotionTimers : Prop :=
  ∀ (i : Channel) (s : State),
    exec (.referencePeriodStart i) s = .next
      (s.setChan i { s.chan i with
        gen :=
          { duty := (s.chan i).gen.pendingDuty.getD (s.chan i).gen.duty, pendingDuty := none,
            periodCode := (s.chan i).cfg.refCode, periodStart := s.timebase }
        pos := { (s.chan i).pos with
          noMotion :=
            if (s.chan i).cfg.kind = .variableSpeed ∧ (s.chan i).state = .running then
              (if (s.chan i).gen.pendingDuty.getD (s.chan i).gen.duty < 16 then none
               else if (s.chan i).pos.noMotion = none then some (s.timebase + 1000000) else (s.chan i).pos.noMotion)
            else (s.chan i).pos.noMotion } }) ∧
    (∀ e : Time, (s.chan i).pos.speedTimeout = some e →
      (Due s.timebase e →
        exec (.speedTimeoutExpiry i) s = .next
          (s.setChan i { s.chan i with
            pos := { (s.chan i).pos with capture := .empty, speed := 0, speedTimeout := none } })) ∧
      (¬Due s.timebase e → exec (.speedTimeoutExpiry i) s = .next s)) ∧
    (∀ e : Time, (s.chan i).pos.noMotion = some e →
      ((s.chan i).state = .running → Due s.timebase e →
        ∃ t, exec (.noMotionExpiry i) s = .next t ∧ FaultTaken i .noMotion s t ∧ (t.chan i).pos.noMotion = none ∧
          (t.chan i).gen.duty = 0 ∧ (t.chan i).gen.pendingDuty = none) ∧
      (¬Due s.timebase e → exec (.noMotionExpiry i) s = .next s)) ∧
    (let elapsed := (s.timebase - (s.chan i).gen.periodStart).toNat
     let halfMicros := match (s.chan i).gen.periodCode with
       | 0 => 8000
       | 1 => 2000
       | 2 => 500
       | _ => 125
     s.refLine i = decide (elapsed * 2 * 255 < (s.chan i).gen.duty * halfMicros))

/-! ### Position -/

/-- ENCODER_CHANGE on a legal edge or on no edge (R47, R48, R49, R51): the four UP edges raise the position by one and their
reverses lower it by one where it is not at its bound; at a bound it stays, the flag is set and ENCODER is reported on the
first such edge only; on an OFF channel, and where the pair is the held one, only the held pair is written. Every legal edge on a
channel not OFF enters the capture and the measured speed (R53, R54). Where the position moves, an armed slip accumulator takes
the edge and reports BRAKE_SLIP at the slip count (R56), the wrong-direction count of a RUNNING channel takes it and reports
WRONG_DIRECTION at 16 (R58), and the no-motion timer of a channel that stays RUNNING restarts (R59). -/
def Obligations.EncoderEdgesCount : Prop :=
  ∀ (i : Channel) (seen : EncPair) (s : State),
    ((s.chan i).state ≠ .off → ((s.chan i).pos.held, seen) ∈ upPairs → (s.chan i).position < 65535 →
      ∃ t, exec (.encoderChange i seen) s = .next t ∧ (t.chan i).position = (s.chan i).position + 1 ∧
        (t.chan i).pos.held = seen ∧ (t.chan i).pos.bound = .none ∧
        (t.chan i).referenced = (s.chan i).referenced ∧ (t.chan i).pos.lastEdge = some .up ∧
        (t.chan i).pos.speedTimeout = some (s.timebase + 250000) ∧
        (∀ j : Channel, KeepsStored (s.chan j) (t.chan j) ∧ KeepsAuthority (s.chan j) (t.chan j)) ∧
        KeepsOthers i s t ∧ KeepsPart s t) ∧
    ((s.chan i).state ≠ .off → (seen, (s.chan i).pos.held) ∈ upPairs → 0 < (s.chan i).position →
      ∃ t, exec (.encoderChange i seen) s = .next t ∧ (t.chan i).position + 1 = (s.chan i).position ∧
        (t.chan i).pos.held = seen ∧ (t.chan i).pos.bound = .none ∧
        (t.chan i).referenced = (s.chan i).referenced ∧ (t.chan i).pos.lastEdge = some .down ∧
        (t.chan i).pos.speedTimeout = some (s.timebase + 250000) ∧
        (∀ j : Channel, KeepsStored (s.chan j) (t.chan j) ∧ KeepsAuthority (s.chan j) (t.chan j)) ∧
        KeepsOthers i s t ∧ KeepsPart s t) ∧
    ((s.chan i).state = .off ∨ seen = (s.chan i).pos.held →
      exec (.encoderChange i seen) s = .next
        (s.setChan i { s.chan i with pos := { (s.chan i).pos with held := seen } })) ∧
    ((s.chan i).state ≠ .off → (seen, (s.chan i).pos.held) ∈ upPairs → (s.chan i).position = 0 →
      ((s.chan i).pos.bound ≠ .low →
        ∃ t, exec (.encoderChange i seen) s = .next t ∧ (t.chan i).position = 0 ∧ (t.chan i).pos.bound = .low ∧
          (t.chan i).referenced = false ∧ (t.chan i).state = .faulted ∧ hasFault (t.chan i).faults .encoder = true ∧
          PendingBoth (.chan i .fault) t ∧ KeepsRecords s t ∧ KeepsOthers i s t ∧ KeepsPart s t) ∧
      ((s.chan i).pos.bound = .low → (s.chan i).state = .faulted → (s.chan i).pos.slipArmed = false →
        ∃ t, exec (.encoderChange i seen) s = .next t ∧ (t.chan i).position = 0 ∧ (t.chan i).pos.bound = .low ∧
          (t.chan i).referenced = (s.chan i).referenced ∧ (t.chan i).faults = (s.chan i).faults ∧
          KeepsRecords s t ∧ (∀ j : Channel, j ≠ i → t.chan j = s.chan j) ∧
          t.notices = s.notices ∧ t.groups = s.groups ∧ KeepsPart s t)) ∧
    ((s.chan i).state ≠ .off → ((s.chan i).pos.held, seen) ∈ upPairs → (s.chan i).position = 65535 →
      ((s.chan i).pos.bound ≠ .high →
        ∃ t, exec (.encoderChange i seen) s = .next t ∧ (t.chan i).position = 65535 ∧ (t.chan i).pos.bound = .high ∧
          (t.chan i).referenced = false ∧ (t.chan i).state = .faulted ∧ hasFault (t.chan i).faults .encoder = true ∧
          PendingBoth (.chan i .fault) t ∧ KeepsRecords s t ∧ KeepsOthers i s t ∧ KeepsPart s t) ∧
      ((s.chan i).pos.bound = .high → (s.chan i).state = .faulted → (s.chan i).pos.slipArmed = false →
        ∃ t, exec (.encoderChange i seen) s = .next t ∧ (t.chan i).position = 65535 ∧ (t.chan i).pos.bound = .high ∧
          (t.chan i).referenced = (s.chan i).referenced ∧ (t.chan i).faults = (s.chan i).faults ∧
          KeepsRecords s t ∧ (∀ j : Channel, j ≠ i → t.chan j = s.chan j) ∧
          t.notices = s.notices ∧ t.groups = s.groups ∧ KeepsPart s t)) ∧
    (∀ d : Dir, (s.chan i).state ≠ .off → EdgeOf d (s.chan i).pos.held seen →
      ∃ t, exec (.encoderChange i seen) s = .next t ∧ (t.chan i).pos.lastEdge = some d ∧
        (∀ u : Time, (s.chan i).pos.lastEdge = some d → latestEdge (s.chan i).pos.capture = some u →
          (t.chan i).pos.capture = .two u s.timebase ∧
          (t.chan i).pos.speed =
            (if (s.timebase - u).toNat < 16 then 65535 else 1000000 / (s.timebase - u).toNat)) ∧
        ((s.chan i).pos.lastEdge ≠ some d ∨ (s.chan i).pos.capture = .empty →
          (t.chan i).pos.capture = .one s.timebase ∧ (t.chan i).pos.speed = 0)) ∧
    (∀ d : Dir, (s.chan i).state ≠ .off → EdgeOf d (s.chan i).pos.held seen → HasRoom d (s.chan i).position →
      ∃ t, exec (.encoderChange i seen) s = .next t ∧
        ((s.chan i).pos.slipArmed = true → (s.chan i).pos.slipStopped = false →
          (t.chan i).pos.slip = (s.chan i).pos.slip + signOf d ∧
          ((t.chan i).pos.slipStopped = true ↔ (s.chan i).cfg.slipCount ≤ (t.chan i).pos.slip.natAbs) ∧
          ((t.chan i).pos.slipStopped = true →
            (t.chan i).state = .faulted ∧ hasFault (t.chan i).faults .brakeSlip = true ∧ PendingBoth (.chan i .fault) t) ∧
          ((t.chan i).pos.slipStopped = false → (s.chan i).state ≠ .running →
            (t.chan i).state = (s.chan i).state ∧ (t.chan i).faults = (s.chan i).faults)) ∧
        ((s.chan i).pos.slipArmed = false ∨ (s.chan i).pos.slipStopped = true →
          (t.chan i).pos.slip = (s.chan i).pos.slip ∧ (t.chan i).pos.slipStopped = (s.chan i).pos.slipStopped ∧
          ((s.chan i).state ≠ .running → (t.chan i).pos.wrongDir = (s.chan i).pos.wrongDir ∧
            (t.chan i).state = (s.chan i).state ∧ (t.chan i).faults = (s.chan i).faults) ∧
          ((s.chan i).state = .running → (s.chan i).lastDir = some d.opposite →
            (t.chan i).pos.wrongDir = (s.chan i).pos.wrongDir + 1 ∧
            (16 ≤ (t.chan i).pos.wrongDir →
              (t.chan i).state = .faulted ∧ hasFault (t.chan i).faults .wrongDirection = true ∧
              PendingBoth (.chan i .fault) t)) ∧
          ((s.chan i).state = .running → (s.chan i).lastDir = some d → -65535 < (s.chan i).pos.wrongDir →
            (t.chan i).pos.wrongDir = (s.chan i).pos.wrongDir - 1) ∧
          ((s.chan i).state = .running → (t.chan i).pos.wrongDir < 16 →
            (t.chan i).state = .running ∧ (t.chan i).faults = (s.chan i).faults ∧
            ((s.chan i).pos.noMotion ≠ none → (t.chan i).pos.noMotion = some (s.timebase + 1000000)) ∧
            ((s.chan i).pos.noMotion = none → (t.chan i).pos.noMotion = none))))

/-- ENCODER_CHANGE on an illegal transition (R50): both lines have changed. The position stays, the reference is lost, the
speed measurement is emptied, and ENCODER is reported. -/
def Obligations.IllegalTransitionLosesReference : Prop :=
  ∀ (i : Channel) (seen : EncPair) (s : State),
    (s.chan i).state ≠ .off → seen.a ≠ (s.chan i).pos.held.a → seen.b ≠ (s.chan i).pos.held.b →
    ∃ t, exec (.encoderChange i seen) s = .next t ∧ FaultTaken i .encoder s t ∧
      (t.chan i).position = (s.chan i).position ∧ (t.chan i).referenced = false ∧ (t.chan i).pos.held = seen ∧
      (t.chan i).pos.capture = .empty ∧ (t.chan i).pos.speed = 0 ∧ (t.chan i).pos.speedTimeout = none ∧
      (t.chan i).pos.lastEdge = none ∧ (t.chan i).pos.slip = (s.chan i).pos.slip ∧
      (t.chan i).pos.wrongDir = (s.chan i).pos.wrongDir ∧
      ((s.chan i).referenced = true → PendingBoth (.chan i .refLost) t)

/-! ### Drive supply -/

/-- MAINSFB_CHANGE, CLOSING_TIMER_EXPIRY and SETTLING_TIMER_EXPIRY (R41, R43, R44). The supply reaching ON is stated whole
where no start is pending, and for its own state where starts are retested; its loss while ON leaves nothing running and no
group in a move, and trips every group that was in one with SUPPLY_LOST and no channel (R119), outside the corner of log
entry 7 and where AuthorityLaw holds, which every step keeps. -/
def Obligations.SupplyFollowsItsTable : Prop :=
  ∀ (s : State),
    (s.supply.state = .closing → s.supply.mainsfb = false →
      exec (.mainsfbChange true) s = .next
        ({ s with supply := { s.supply with
            state := .settling, mainsfb := true, closingTimer := none
            settlingTimer := some (s.timebase + 1500000) } }.raise .supply)) ∧
    (s.supply.state = .settling → s.supply.mainsfb = true →
      exec (.mainsfbChange false) s = .next
        ({ s with supply := { s.supply with
            state := .failed, mainsfb := false, mains := false, closingTimer := none
            settlingTimer := none } }.raise .supply)) ∧
    (s.supply.state = .off ∨ s.supply.state = .failed → ∀ b : Bool,
      exec (.mainsfbChange b) s = .next { s with supply := { s.supply with mainsfb := b } }) ∧
    (s.supply.state = .closing → s.supply.closingTimer ≠ none →
      exec .closingTimerExpiry s = .next
        ({ s with supply := { s.supply with
            state := .failed, mains := false, closingTimer := none, settlingTimer := none } }.raise .supply)) ∧
    (s.supply.state = .settling → s.supply.settlingTimer ≠ none →
      ∃ t, exec .settlingTimerExpiry s = .next t ∧ t.supply.state = .on ∧ t.supply.settlingTimer = none ∧
        PendingBoth .supply t ∧ t.supply.mains = s.supply.mains ∧
        (∀ i : Channel, KeepsStored (s.chan i) (t.chan i) ∧ (t.chan i).position = (s.chan i).position) ∧
        KeepsPart s { t with supply := s.supply } ∧
        ((∀ i : Channel, (s.chan i).startPending = none) →
          t = { s with supply := { s.supply with state := .on, settlingTimer := none } }.raise .supply)) ∧
    (s.supply.state = .on → s.supply.mainsfb = true →
      ∃ t, exec (.mainsfbChange false) s = .next t ∧ t.supply.state = .failed ∧ t.supply.mains = false ∧
        t.supply.mainsfb = false ∧ NothingRuns t ∧ NoGroupMoves t ∧
        (AuthorityLaw s → AllTripped .supplyLost s t) ∧ PendingBoth .supply t ∧
        (∀ i : Channel, KeepsStored (s.chan i) (t.chan i) ∧ (t.chan i).position = (s.chan i).position ∧
          (t.chan i).faults = (s.chan i).faults) ∧
        KeepsPart s { t with supply := s.supply })

/-! ### Load -/

/-- CONVERSION_COMPLETE (R67, R69, R71, R73): an unmarked result goes to the channel its input is assigned to, in any state of
the channel: it becomes the latest raw reading; a good one gives the load of R71, the floored quotient of the exact product
clamped into 0..9999, which joins the ring of at most 4, the filtered load being the ring's floored mean; the load state
follows (R63); on a channel not OFF a sensor reading is reported as LOADCELL (R70), the third violation of the envelope
maximum as OVERLOAD (R74), and that of its minimum on a run DOWN as UNDERLOAD (R75), each once while it stays in the fault set.
The scanner starts the next enabled input. A marked result, and one of an input that no channel has, is dropped. -/
def Obligations.ConversionReachesItsChannel : Prop :=
  ∀ (raw : BitVec 12) (i : Channel) (conv : Conversion) (s : State), s.scanner = some conv →
    (conv.discard = false → (s.chan i).load.input = some conv.input →
      (∀ j : Channel, (s.chan j).load.input = some conv.input → j = i) →
      ∃ t, exec (.conversionComplete raw) s = .next t ∧ (t.chan i).load.raw = some raw.toNat ∧
        (raw = 0 ∨ raw = 4095 →
          (t.chan i).load.ring = (s.chan i).load.ring ∧ (t.chan i).load.filtered = (s.chan i).load.filtered ∧
          (t.chan i).load.overCount = 0 ∧ (t.chan i).load.underCount = 0) ∧
        (raw ≠ 0 → raw ≠ 4095 → (s.chan i).load.ring.length ≤ 4 →
          (t.chan i).load.ring =
            (if (s.chan i).load.ring.length < 4 then (s.chan i).load.ring else (s.chan i).load.ring.drop 1) ++
              [(max 0 (min 9999
                ((((raw.toNat : Int) - ((s.chan i).load.zero : Int)) * ((s.chan i).load.gain : Int)) / 256))).toNat] ∧
          (t.chan i).load.filtered = (t.chan i).load.ring.sum / (t.chan i).load.ring.length) ∧
        (t.chan i).load.status =
          (if inSet s.settings.enable conv.input = false then .unknown
           else if raw = 0 ∨ raw = 4095 then .fault else .valid) ∧
        ((s.chan i).state = .off →
          t.notices = s.notices ∧ (t.chan i).state = .off ∧ (t.chan i).faults = (s.chan i).faults) ∧
        (raw = 0 ∨ raw = 4095 → (s.chan i).state ≠ .off →
          (hasFault (s.chan i).faults .loadcell = false →
            (t.chan i).state = .faulted ∧ (t.chan i).faults = (s.chan i).faults ||| faultBit .loadcell ∧
            PendingBoth (.chan i .fault) t ∧ TripTaken (.channelFault .loadcell) i s t) ∧
          (hasFault (s.chan i).faults .loadcell = true →
            t.notices = s.notices ∧ t.groups = s.groups ∧ (t.chan i).state = (s.chan i).state ∧
            (t.chan i).faults = (s.chan i).faults)) ∧
        (raw ≠ 0 → raw ≠ 4095 → (s.chan i).state ≠ .off →
          let above := (s.chan i).envMax < (t.chan i).load.filtered
          let below := (t.chan i).load.filtered < (s.chan i).envMin ∧ (s.chan i).state = .running ∧
            (s.chan i).lastDir = some .down
          let aboveDue := above ∧ 2 ≤ (s.chan i).load.overCount ∧ hasFault (s.chan i).faults .overload = false
          let belowDue := below ∧ 2 ≤ (s.chan i).load.underCount ∧ hasFault (s.chan i).faults .underload = false
          (t.chan i).load.overCount = (if above then min 3 ((s.chan i).load.overCount + 1) else 0) ∧
          (¬aboveDue → (t.chan i).load.underCount = (if below then min 3 ((s.chan i).load.underCount + 1) else 0)) ∧
          (aboveDue → (t.chan i).state = .faulted ∧ (t.chan i).faults = (s.chan i).faults ||| faultBit .overload ∧
            PendingBoth (.chan i .fault) t ∧ TripTaken (.channelFault .overload) i s t) ∧
          (¬aboveDue → belowDue →
            (t.chan i).state = .faulted ∧ (t.chan i).faults = (s.chan i).faults ||| faultBit .underload ∧
            PendingBoth (.chan i .fault) t ∧ TripTaken (.channelFault .underload) i s t) ∧
          (¬aboveDue → ¬belowDue →
            t.notices = s.notices ∧ t.groups = s.groups ∧ (t.chan i).state = (s.chan i).state ∧
            (t.chan i).faults = (s.chan i).faults)) ∧
        (t.chan i).load.input = (s.chan i).load.input ∧ (t.chan i).load.zero = (s.chan i).load.zero ∧
        (t.chan i).load.gain = (s.chan i).load.gain ∧ (t.chan i).cfg = (s.chan i).cfg ∧
        (∀ j : Channel, (t.chan j).position = (s.chan j).position ∧ KeepsAuthority (s.chan j) (t.chan j) ∧
          (j ≠ i → KeepsStored (s.chan j) (t.chan j))) ∧
        KeepsPart s { t with scanner := s.scanner } ∧
        t.scanner =
          ((channels.find? fun k => decide (conv.input < k) && inSet s.settings.enable k).or
            (channels.find? (inSet s.settings.enable))).map fun k =>
              { input := k, start := s.timebase, discard := false }) ∧
    (conv.discard = true ∨ (∀ j : Channel, (s.chan j).load.input ≠ some conv.input) →
      ∃ t, exec (.conversionComplete raw) s = .next t ∧ t = { s with scanner := t.scanner } ∧
        t.scanner =
          ((channels.find? fun k => decide (conv.input < k) && inSet s.settings.enable k).or
            (channels.find? (inSet s.settings.enable))).map fun k =>
              { input := k, start := s.timebase, discard := false })

/-! ### Stops -/

/-- ESTIN_CHANGE, PSTOP_CHANGE and PPRES_CHANGE on the E-stop (R150, R151, R152): an opening of the loop, or a beginning of the
pendant stop (PSTOP opening with the pendant present, or the pendant arriving with PSTOP open), taken while not ACTIVE makes the
E-stop ACTIVE with its cause, after which nothing runs, no group is in a move, every group that was in one is TRIPPED with ESTOP
and no channel (outside the corner of log entry 7, and where AuthorityLaw holds, which every step keeps), ESTOP is raised and
TRIPOUT is asserted; an opening taken while ACTIVE changes the level of its contact alone; a closing of the loop, or an ending of
the pendant stop (PSTOP closing with the pendant present, or the pendant leaving), with no contact open makes an ACTIVE E-stop
LATCHED, and one that leaves a contact open does not. PSTOP is read while the pendant is present. -/
def Obligations.EstopOpensAndCloses : Prop :=
  ∀ (s : State),
    (s.stops.estinClosed = true → s.stops.estop ≠ .active →
      ∃ t, exec (.estinChange false) s = .next t ∧ t.stops.estop = .active ∧ t.stops.cause = .loop ∧
        t.stops.estinClosed = false ∧ NothingRuns t ∧ NoGroupMoves t ∧
        (AuthorityLaw s → AllTripped .estop s t) ∧ PendingBoth .estop t ∧
        t.stops.tripout = true ∧
        (∀ i : Channel, KeepsStored (s.chan i) (t.chan i) ∧ (t.chan i).position = (s.chan i).position) ∧
        KeepsPart s { t with stops := s.stops }) ∧
    (s.arb.pstopClosed = true → s.arb.ppres = true → s.stops.estop ≠ .active →
      ∃ t, exec (.pstopChange false) s = .next t ∧ t.stops.estop = .active ∧ t.stops.cause = .pendant ∧
        t.arb = { s.arb with pstopClosed := false } ∧ NothingRuns t ∧ NoGroupMoves t ∧
        (AuthorityLaw s → AllTripped .estop s t) ∧ PendingBoth .estop t ∧
        t.stops.tripout = true ∧
        (∀ i : Channel, KeepsStored (s.chan i) (t.chan i) ∧ (t.chan i).position = (s.chan i).position) ∧
        KeepsPart s { t with stops := s.stops, arb := s.arb }) ∧
    (s.stops.estinClosed = false → s.stops.estop = .active → s.arb.ppres = false ∨ s.arb.pstopClosed = true →
      exec (.estinChange true) s = .next
        ({ s with stops := { s.stops with estinClosed := true, estop := .latched, tripout := true } }.raise .estop)) ∧
    (s.stops.estinClosed = false → s.stops.estop ≠ .active ∨ (s.arb.ppres = true ∧ s.arb.pstopClosed = false) →
      exec (.estinChange true) s = .next { s with stops := { s.stops with estinClosed := true } }) ∧
    (s.stops.estop = .active →
      exec (.estinChange false) s = .next { s with stops := { s.stops with estinClosed := false } } ∧
      exec (.pstopChange false) s = .next { s with arb := { s.arb with pstopClosed := false } }) ∧
    (s.arb.pstopClosed = false → s.arb.ppres = true →
      (s.stops.estop = .active → s.stops.estinClosed = true →
        exec (.pstopChange true) s = .next
          ({ s with
              arb := { s.arb with pstopClosed := true }
              stops := { s.stops with estop := .latched, tripout := true } }.raise .estop)) ∧
      (s.stops.estop ≠ .active ∨ s.stops.estinClosed = false →
        exec (.pstopChange true) s = .next { s with arb := { s.arb with pstopClosed := true } })) ∧
    (s.arb.ppres = false → ∀ b : Bool,
      exec (.pstopChange b) s = .next { s with arb := { s.arb with pstopClosed := b } }) ∧
    (s.arb.ppres = false → s.arb.pstopClosed = false → s.stops.estop ≠ .active →
      ∃ t, exec (.ppresChange true) s = .next t ∧ t.stops.estop = .active ∧ t.stops.cause = .pendant ∧
        t.arb = { s.arb with ppres := true } ∧ NothingRuns t ∧ NoGroupMoves t ∧ (AuthorityLaw s → AllTripped .estop s t) ∧
        PendingBoth .estop t ∧ (s.arb.settled = true → PendingBoth .pendant t) ∧ t.stops.tripout = true ∧
        (∀ i : Channel, KeepsStored (s.chan i) (t.chan i) ∧ (t.chan i).position = (s.chan i).position) ∧
        KeepsPart s { t with stops := s.stops, arb := s.arb }) ∧
    (s.arb.ppres = true →
      ∃ t, exec (.ppresChange false) s = .next t ∧ t.arb = { s.arb with ppres := false } ∧
        (s.stops.estop = .active → s.stops.estinClosed = true →
          t.stops = { s.stops with estop := .latched, tripout := true } ∧ PendingBoth .estop t) ∧
        (s.stops.estop ≠ .active ∨ s.stops.estinClosed = false → t.stops = s.stops) ∧
        (s.arb.settled = true → PendingBoth .pendant t) ∧
        (∀ i : Channel, KeepsStored (s.chan i) (t.chan i) ∧ (t.chan i).position = (s.chan i).position) ∧
        KeepsPart s { t with stops := s.stops, arb := s.arb })

/-- Controlled stops asked for by RSTIN_CHANGE, HOLD_DEADLINE_EXPIRY and LINK_TIMER_EXPIRY (R84, R85, R86, R92, R115, R155): the
groups concerned that are STARTING, MOVING or HOLDING enter STOPPING with their members stopped, or end at once PAUSED with its
notice after a cue and IDLE after a jog, and the others are as they were. A link timer or a deadline that was restarted is not
due, and its expiry changes nothing. How a reading is known to be reached is the model's choice (log entry 6), and that a FIXED
group in STOPPING shows phase STOPPING is its reading (log entry 27). -/
def Obligations.ControlledStopsAreMade : Prop :=
  ∀ (g : ConsoleGroup) (c : Console) (s : State),
    (s.stops.rstin = false →
      ∃ t, exec (.rstinChange true) s = .next t ∧ t.stops = { s.stops with rstin := true } ∧
        (∀ h : GroupId, (t.grp h).state.stoppable = false ∧
          ((s.grp h).state.stoppable = true → StopMade h s t) ∧
          ((s.grp h).state.stoppable = false → (s.grp h).state ≠ .stopping → (t.grp h).state = (s.grp h).state)) ∧
        (∀ i : Channel, KeepsStored (s.chan i) (t.chan i) ∧ (t.chan i).position = (s.chan i).position) ∧
        KeepsPart s { t with stops := s.stops }) ∧
    (s.stops.rstin = true → exec (.rstinChange false) s = .next { s with stops := { s.stops with rstin := false } }) ∧
    (∀ e : Time, (s.grp (.console g)).deadline = some e → Due s.timebase e →
      ∃ t, exec (.holdDeadlineExpiry g) s = .next t ∧ (t.grp (.console g)).deadline = none ∧
        (t.grp (.console g)).state.stoppable = false ∧ (t.grp (.console g)).queue = (s.grp (.console g)).queue ∧
        ((s.grp (.console g)).state.stoppable = true →
          StopMade (.console g) s t) ∧
        ((s.grp (.console g)).state.stoppable = false →
          t.grp (.console g) = { s.grp (.console g) with deadline := none }) ∧
        (∀ h : GroupId, h ≠ .console g → t.grp h = s.grp h) ∧
        (∀ i : Channel, (s.chan i).group ≠ some (.console g) → t.chan i = s.chan i) ∧ KeepsRecords s t ∧
        KeepsPart s t) ∧
    (∀ e : Time, (s.grp (.console g)).deadline = some e → ¬Due s.timebase e →
      exec (.holdDeadlineExpiry g) s = .next s) ∧
    (∀ e : Time, (s.link c).timer = some e → Due s.timebase e →
      ∃ t, exec (.linkTimerExpiry c) s = .next t ∧ t.link c = { state := .lost, timer := none } ∧
        t.link c.other = s.link c.other ∧ (t.box c.other).pending.getLsbD (noticeNumber .link) = true ∧
        (∀ h : ConsoleGroup, OwnedBy c s h → (t.grp (.console h)).state.stoppable = false) ∧
        (∀ h : ConsoleGroup, OwnedBy c s h → (s.grp (.console h)).state.stoppable = true →
          StopMade (.console h) s t) ∧
        (∀ h : ConsoleGroup, ¬OwnedBy c s h ∨ (s.grp (.console h)).state.stoppable = false →
          t.grp (.console h) = s.grp (.console h)) ∧
        t.grp .pendant = s.grp .pendant ∧
        KeepsRecords s t ∧ KeepsPart s { t with arb := s.arb }) ∧
    (∀ e : Time, (s.link c).timer = some e → ¬Due s.timebase e → exec (.linkTimerExpiry c) s = .next s)

/-- The control-supply monitor (R157): its crossings VCTL_BELOW_THRESHOLD and VCTL_AT_THRESHOLD, those that change no state, and
LOW_TIMER_EXPIRY, which begins control low (R45, R158): nothing runs, no group is in a move, every group that was in one is
TRIPPED with SUPPLY_LOW and no channel (outside the corner of log entry 7, and where AuthorityLaw holds, which every step
keeps), the drive supply is OFF, SUPPLY is raised and TRIPOUT is asserted. The threshold of level L is 18.0 V + 0.5 V x L; that
the commands carry the level in millivolts (log entry 15), and that the attention lines stand at every level, however low (log
entry 32), are the model's choices. -/
def Obligations.MonitorFollowsTheSupply : Prop :=
  ∀ (mv : Nat) (s : State),
    (s.stops.monitor = .normal → mv < 18000 + 500 * s.settings.level →
      exec (.vctlBelowThreshold mv) s = .next
        { s with stops := { s.stops with
          vctl := mv, monitor := .dip, lowTimer := some (s.timebase + 10000) } }) ∧
    (s.stops.monitor = .dip → 18000 + 500 * s.settings.level ≤ mv →
      exec (.vctlAtThreshold mv) s = .next
        { s with stops := { s.stops with vctl := mv, monitor := .normal, lowTimer := none } }) ∧
    (s.stops.monitor = .low → mv ≤ 18000 + 500 * s.settings.level + 500 →
      exec (.vctlAtThreshold mv) s = .next { s with stops := { s.stops with vctl := mv } } ∧
      exec (.vctlBelowThreshold mv) s = .next { s with stops := { s.stops with vctl := mv } }) ∧
    (s.stops.monitor = .dip → s.stops.lowTimer ≠ none →
      ∃ t, exec .lowTimerExpiry s = .next t ∧ t.stops.monitor = .low ∧ t.stops.lowTimer = none ∧
        t.stops.estop = s.stops.estop ∧ NothingRuns t ∧ NoGroupMoves t ∧ (AuthorityLaw s → AllTripped .supplyLow s t) ∧
        t.supply.state = .off ∧
        (s.supply.state ≠ .off →
          t.supply.mains = false ∧ t.supply.closingTimer = none ∧ t.supply.settlingTimer = none) ∧
        PendingBoth .supply t ∧ t.stops.tripout = true ∧
        (∀ i : Channel, KeepsStored (s.chan i) (t.chan i) ∧ (t.chan i).position = (s.chan i).position) ∧
        KeepsPart s { t with supply := s.supply, stops := s.stops })

/-- VCTL_ABOVE_HYSTERESIS ends control low (R159): SUPPLY is raised at both consoles, TRIPOUT is re-evaluated by R161, and
nothing else changes. That the command carries the level in millivolts is the model's choice (log entry 15). -/
def Obligations.ControlLowEnds : Prop :=
  ∀ (mv : Nat) (s : State), s.stops.monitor = .low → 18000 + 500 * s.settings.level + 500 < mv →
    ∃ t, exec (.vctlAboveHysteresis mv) s = .next t ∧ PendingBoth .supply t ∧ TripoutLaw t ∧
      t = { s.raise .supply with stops := { s.stops with
        vctl := mv, monitor := .normal, lowTimer := none, tripout := t.stops.tripout } }

/-! ### The pendant -/

/-- PSEL_CHANGE and PPRES_CHANGE (R95, R96): while the pendant group is IDLE each makes an evaluation, by which a closed switch
takes an unheld channel of the group's kind that is not OFF, an opened one gives its channel back, and the pendant leaving gives
every channel back; the whole record is stated too for the one channel of an evaluation that finds nothing to do on the others.
During a jog the pendant leaving and a member's switch opening make a controlled stop (R99), and another switch
changes its bit alone. The pendant leaving ends the pendant stop (R150, R152); its beginning is stated with the E-stop. The lamps
follow (R94). That a flash begins with its lit half (log entry 13), that a change of PPRES before the first 20 ms have ended
raises no PENDANT (log entry 3), and that a FIXED group in STOPPING shows phase STOPPING (log entry 27) are the model's
readings. -/
def Obligations.PendantSelects : Prop :=
  ∀ (i : Channel) (closed : Bool) (s : State),
    let told := fun u : State => if s.arb.settled = true then u.raise .pendant else u
    let latched := fun u : State =>
      if s.stops.estop = .active ∧ s.stops.estinClosed = true then
        { u.raise .estop with stops := { s.stops with estop := .latched, tripout := true } }
      else u
    let quiet := s.arb.pstopClosed = true ∨ s.stops.estop = .active
    let others := ∀ j : Channel, j ≠ i →
      (inSet s.arb.psel j = true → (s.chan j).holder ≠ .none ∨ (s.chan j).state = .off) ∧
      (inSet s.arb.psel j = false → (s.chan j).holder ≠ .pendant)
    let free := (s.chan i).holder = .none ∧ (s.chan i).state ≠ .off ∧
      ∀ j : Channel, (s.chan j).group = some .pendant → (s.chan j).cfg.kind = (s.chan i).cfg.kind
    ((s.grp .pendant).state = .idle → s.arb.ppres = true → others →
      (inSet s.arb.psel i = false → free →
        ∃ t, exec (.pselChange i true) s = .next t ∧ inSet t.arb.psel i = true ∧
          (∀ j : Channel, j ≠ i → inSet t.arb.psel j = inSet s.arb.psel j) ∧
          t = { s.setChan i { s.chan i with holder := .pendant, group := some .pendant } with
            arb := { s.arb with psel := t.arb.psel } }) ∧
      (inSet s.arb.psel i = true → (s.chan i).holder = .pendant →
        ∃ t, exec (.pselChange i false) s = .next t ∧ inSet t.arb.psel i = false ∧
          (∀ j : Channel, j ≠ i → inSet t.arb.psel j = inSet s.arb.psel j) ∧
          t = { s.setChan i { s.chan i with holder := .none, group := none } with
            arb := { s.arb with psel := t.arb.psel } })) ∧
    ((s.grp .pendant).state = .idle → inSet s.arb.psel i = !closed →
      ∃ t, exec (.pselChange i closed) s = .next t ∧ inSet t.arb.psel i = closed ∧
        (∀ j : Channel, j ≠ i → inSet t.arb.psel j = inSet s.arb.psel j) ∧
        PendantEvaluated { s with arb := { s.arb with psel := t.arb.psel } } t ∧
        (∀ j : Channel, t.chan j = { s.chan j with holder := (t.chan j).holder, group := (t.chan j).group }) ∧
        t = { s with chans := t.chans, arb := { s.arb with psel := t.arb.psel } }) ∧
    (s.arb.ppres = true → (s.grp .pendant).state = .idle →
      exec (.ppresChange false) s = .next
        (latched (told
          { s with
            arb := { s.arb with ppres := false }
            chans := s.chans.mapIdx fun _ c =>
              if c.holder = Holder.pendant then { c with holder := .none, group := none } else c }))) ∧
    (s.arb.ppres = true → (s.grp .pendant).state ≠ .idle → (s.grp .pendant).state.stoppable = false →
      exec (.ppresChange false) s = .next (latched (told { s with arb := { s.arb with ppres := false } }))) ∧
    (s.arb.ppres = false → (s.grp .pendant).state = .idle → quiet → others → inSet s.arb.psel i = true → free →
      exec (.ppresChange true) s = .next
        (told { s.setChan i { s.chan i with holder := .pendant, group := some .pendant } with
          arb := { s.arb with ppres := true } })) ∧
    (s.arb.ppres = false → (s.grp .pendant).state = .idle →
      ∃ t, exec (.ppresChange true) s = .next t ∧ t.arb = { s.arb with ppres := true } ∧
        PendantEvaluated { s with arb := { s.arb with ppres := true } } t ∧
        (quiet →
          (∀ j : Channel, t.chan j = { s.chan j with holder := (t.chan j).holder, group := (t.chan j).group }) ∧
          t = told { s with chans := t.chans, arb := { s.arb with ppres := true } })) ∧
    (s.arb.ppres = false → (s.grp .pendant).state ≠ .idle → quiet →
      exec (.ppresChange true) s = .next (told { s with arb := { s.arb with ppres := true } })) ∧
    ((s.grp .pendant).state.stoppable = true → s.arb.ppres = true →
      ∃ t, exec (.ppresChange false) s = .next t ∧ t.arb = { s.arb with ppres := false } ∧
        StopMade .pendant s t ∧ (s.arb.settled = true → PendingBoth .pendant t) ∧ t.stops = (latched s).stops ∧
        (∀ h : ConsoleGroup, t.grp (.console h) = s.grp (.console h)) ∧
        (∀ j : Channel, KeepsStored (s.chan j) (t.chan j) ∧ (t.chan j).position = (s.chan j).position) ∧
        KeepsPart s { t with arb := s.arb, stops := s.stops }) ∧
    ((s.grp .pendant).state.stoppable = true → inSet s.arb.psel i = !closed →
      ∃ t, exec (.pselChange i closed) s = .next t ∧ inSet t.arb.psel i = closed ∧
        (∀ j : Channel, j ≠ i → inSet t.arb.psel j = inSet s.arb.psel j) ∧
        (closed = false → (s.chan i).group = some .pendant → StopMade .pendant s t) ∧
        (closed = true ∨ (s.chan i).group ≠ some .pendant → t = { s with arb := { s.arb with psel := t.arb.psel } })) ∧
    (s.lamp i =
      if (s.chan i).holder = .pendant then (if (s.chan i).state = .faulted then .fast else .steady)
      else if s.arb.ppres = true ∧ inSet s.arb.psel i = true then .slow else .off) ∧
    s.plamp i =
      (match s.lamp i with
       | .off => false
       | .steady => true
       | .fast => decide (s.flash % 250000 < 125000)
       | .slow => decide (s.flash % 1000000 < 500000))

/-- PENDANT_CONTROL_CHANGE (R97, R98, R99, R100). A jog starts where PUP or PDN becomes active with PENB active and the other
button not, where PENB becomes active with one button active, or where one of two active buttons is let go: under the start
conditions the pendant group is STARTING in the direction of the button, with a start timer of 3000 ms and no hold deadline,
planned at the pendant speed and a ramp of 1.0 s (R143), and without them only the line changes. A release event of R99 makes a
controlled stop of a jog; PENB becoming inactive takes the group out of TRIPPED where every member is PARKED. That a FIXED group
in STOPPING shows phase STOPPING is the model's reading (log entry 27). -/
def Obligations.PendantJogStarts : Prop :=
  ∀ (d : Dir) (line : PendantLine) (active : Bool) (s : State),
    let levels := pendantLevels line active s.arb
    let startable := (s.grp .pendant).state = .idle ∧ s.arb.ppres = true ∧
      (∃ i : Channel, (s.chan i).group = some .pendant) ∧
      s.stops.estop = .clear ∧ s.stops.monitor ≠ .low ∧ s.stops.rstin = false ∧
      (s.supply.state = .closing ∨ s.supply.state = .settling ∨ s.supply.state = .on) ∧
      (∀ i : Channel, (s.chan i).group = some .pendant →
        (s.chan i).state ≠ .faulted ∧ (s.chan i).thermal = false ∧
        (match d with | .up => (s.chan i).upperOpen | .down => (s.chan i).lowerOpen) = false)
    (¬JogHeld .up s.arb → ¬JogHeld .down s.arb → JogHeld d levels → startable →
      ∃ t, exec (.pendantControlChange line active) s = .next t ∧ t.arb = levels ∧
        (t.grp .pendant).state = .starting ∧ (t.grp .pendant).moveKind = .jog ∧ (t.grp .pendant).prof.dir = d ∧
        (t.grp .pendant).startTimer = some (s.timebase + 3000000) ∧
        (t.grp .pendant).deadline = (s.grp .pendant).deadline ∧
        (∀ fixed : Bool, MembersAre .pendant fixed s →
          JogPlanned .pendant d s.settings.pendantSpeed 10 fixed s (t.grp .pendant).prof) ∧
        (∀ i : Channel, (s.chan i).group = some .pendant → (s.chan i).state = .parked →
          (t.chan i).state = .starting ∨ (t.chan i).startPending = some d) ∧
        (∀ i : Channel, (s.chan i).group ≠ some .pendant → t.chan i = s.chan i) ∧
        (∀ g : ConsoleGroup, t.grp (.console g) = s.grp (.console g)) ∧ t.notices = s.notices ∧ KeepsRecords s t ∧
        KeepsPart s { t with arb := s.arb }) ∧
    ((s.grp .pendant).state = .idle →
      JogHeld .up s.arb ∨ JogHeld .down s.arb ∨ (¬JogHeld .up levels ∧ ¬JogHeld .down levels) ∨
        (JogHeld d levels ∧ ¬startable) →
      exec (.pendantControlChange line active) s = .next { s with arb := levels }) ∧
    ((s.grp .pendant).state.stoppable = true → (s.grp .pendant).prof.dir = d → JogHeld d s.arb → ¬JogHeld d levels →
      ∃ t, exec (.pendantControlChange line active) s = .next t ∧ t.arb = levels ∧
        StopMade .pendant s t ∧
        (∀ g : ConsoleGroup, t.grp (.console g) = s.grp (.console g)) ∧
        (∀ i : Channel, KeepsStored (s.chan i) (t.chan i) ∧ (t.chan i).position = (s.chan i).position) ∧
        KeepsPart s { t with arb := s.arb }) ∧
    ((s.grp .pendant).state = .tripped → s.arb.penb = true →
      ((∀ i : Channel, (s.chan i).group = some .pendant → (s.chan i).state = .parked) →
        ∃ t, exec (.pendantControlChange .penb false) s = .next t ∧
          PendantEnds { s.grp .pendant with trip := none } { s with arb := { s.arb with penb := false } } t) ∧
      ((∃ i : Channel, (s.chan i).group = some .pendant ∧ (s.chan i).state ≠ .parked) →
        exec (.pendantControlChange .penb false) s = .next { s with arb := { s.arb with penb := false } })) ∧
    ((s.grp .pendant).state = .stopping → exec (.pendantControlChange line active) s = .next { s with arb := levels })

/-! ### The timers and updates of the groups -/

/-- START_TIMER_EXPIRY, HOLD_TIMER_EXPIRY and FINISH_TIMER_EXPIRY (R119, R120, R136, R140): the group trips with its cause and
the channel the rule names, its members stopped quick and its notice raised; that a finish timer names none where every member
is arrived is the model's choice (log entry 33). An update in MOVING or HOLDING trips the group too (R125, R137, R147): SYNC_LAG
before SYNC_LEAD before LOAD_SHIFT, naming the lowest-numbered member found. The pendant group is taken with PENB active, since
R100 may take it out of TRIPPED at once. -/
def Obligations.GroupTimersTrip : Prop :=
  ∀ (g : GroupId) (s : State), (s.grp g).state.inMove = true → (g = GroupId.pendant → s.arb.penb = true) →
    let unarrived := fun i : Channel => decide ((s.chan i).group = some g) && !((s.grp g).prof.members.get i).arrived
    ((s.grp g).startTimer ≠ none →
      ∃ t, exec (.startTimerExpiry g) s = .next t ∧
        TrippedWith g .startTimeout
          (channels.find? fun i => unarrived i && decide ((s.chan i).state ≠ .running)) s t ∧ UpdateKeeps g s t) ∧
    ((s.grp g).prof.holdTimer ≠ none →
      ∃ t, exec (.holdTimerExpiry g) s = .next t ∧
        TrippedWith g .syncStall
          ((channels.find? fun i => unarrived i &&
            decide (((s.grp g).prof.members.get i).err < -((s.grp g).windows.releaseLag : Int))).or
              (channels.find? unarrived)) s t ∧ UpdateKeeps g s t) ∧
    ((s.grp g).prof.finishTimer ≠ none →
      ∃ t, exec (.finishTimerExpiry g) s = .next t ∧
        TrippedWith g .syncStall (channels.find? unarrived) s t ∧ UpdateKeeps g s t) ∧
    (∀ fixed : Bool, (s.grp g).updateTimer ≠ none → (s.grp g).state = .moving ∨ (s.grp g).state = .holding →
      MembersAre g fixed s →
      ((∃ i : Channel, lagsNow g fixed s i = true) →
        ∃ t, exec (.groupUpdate g) s = .next t ∧ TrippedWith g .syncLag (channels.find? (lagsNow g fixed s)) s t ∧
          UpdateKeeps g s t) ∧
      ((∀ i : Channel, lagsNow g fixed s i = false) → (∃ i : Channel, leadsNow g fixed s i = true) →
        ∃ t, exec (.groupUpdate g) s = .next t ∧ TrippedWith g .syncLead (channels.find? (leadsNow g fixed s)) s t ∧
          UpdateKeeps g s t) ∧
      ((∀ i : Channel, lagsNow g fixed s i = false ∧ leadsNow g fixed s i = false) →
        (∃ i : Channel, shiftsNow g s i = true) →
        ∃ t, exec (.groupUpdate g) s = .next t ∧ TrippedWith g .loadShift (channels.find? (shiftsNow g s)) s t ∧
          UpdateKeeps g s t))

/-- GROUP_UPDATE of a VARIABLE cue that is MOVING in ACCEL and not yet due to slow down (R113, R128): the rate rises by the
step up to the cruise rate, the progress advances by it, and the next update follows one interval later. Every update in
MOVING leaves the advanced profile; a member behind by the hold lag makes it HOLDING (R138), a jog at its bound makes a
controlled stop (R144, R115), the first update decides the load-share check (R146), and a cue whose members are all arrived and
PARKED completes (R116, R117, R135) with the next cue started where the follow asks for it. That the next due reading is the
last one plus one interval (log entry 21), that the next cue starts within the same step (log entry 9) and that a FIXED group
in STOPPING shows phase STOPPING (log entry 27) are the model's readings. -/
def Obligations.UpdateAdvancesProgress : Prop :=
  ∀ (n : ConsoleGroup) (i : Channel) (e : Time) (k : GroupId) (fixed : Bool) (s : State),
    (let g : GroupId := .console n
     (s.grp g).updateTimer = some e → (s.grp g).state = .moving → (s.grp g).moveKind = .cue →
     (s.chan i).group = some g → (∀ j : Channel, (s.chan j).group = some g → (s.chan j).cfg.kind = .variableSpeed) →
     ((s.grp g).prof.members.get i).arrived = false → (s.grp g).prof.phase = .accel →
     (s.grp g).prof.q * (s.grp g).prof.q / (2 * (s.grp g).prof.a) + (s.grp g).prof.q < 65536 - (s.grp g).prof.p →
     (s.grp g).prof.p + min ((s.grp g).prof.q + (s.grp g).prof.a) (s.grp g).prof.qCruise < 65536 →
     ∃ t, exec (.groupUpdate g) s = .next t ∧
       (t.grp g).prof.p = (s.grp g).prof.p + min ((s.grp g).prof.q + (s.grp g).prof.a) (s.grp g).prof.qCruise ∧
       ((t.grp g).state = .moving →
         (t.grp g).prof.q = min ((s.grp g).prof.q + (s.grp g).prof.a) (s.grp g).prof.qCruise ∧
         ((t.grp g).prof.phase = .cruise ↔
           (s.grp g).prof.qCruise ≤ (s.grp g).prof.q + (s.grp g).prof.a)) ∧
       ((t.grp g).state = .moving ∨ (t.grp g).state = .holding →
         (t.grp g).updateTimer = some (e + BitVec.ofNat 32 (1000 * intervalMs (s.grp g).interval))) ∧
       (∀ h : GroupId, h ≠ g → t.grp h = s.grp h) ∧
       (∀ j : Channel, (s.chan j).group ≠ some g → t.chan j = s.chan j) ∧ KeepsRecords s t ∧ KeepsPart s t) ∧
    ((s.grp k).updateTimer = some e → (s.grp k).state = .moving → MembersAre k fixed s → NoTripNow k fixed s →
      let pr := updProfile k fixed s
      let next : Timer := some (e + BitVec.ofNat 32 (1000 * intervalMs (s.grp k).interval))
      (¬AtJogBound k fixed s → SwitchesClosed k s → (∃ j : Channel, holdsNow k fixed s j = true) →
        ∃ t, exec (.groupUpdate k) s = .next t ∧ (t.grp k).state = .holding ∧ (t.grp k).prof.q = 0 ∧
          (t.grp k).prof.p = pr.p ∧ (t.grp k).prof.j = pr.j ∧ (t.grp k).prof.phase = pr.phase ∧
          (t.grp k).prof.holdTimer = startMs s.timebase (s.grp k).windows.holdTimeout ∧ (t.grp k).updateTimer = next ∧
          (t.grp k).queue = (s.grp k).queue ∧ (t.grp k).deadline = (s.grp k).deadline ∧ UpdateKeeps k s t) ∧
      (¬AtJogBound k fixed s → SwitchesClosed k s → (∀ j : Channel, holdsNow k fixed s j = false) →
        (∃ j : Channel, stillAway k fixed s j = true) →
        ∃ t, exec (.groupUpdate k) s = .next t ∧ (t.grp k).state = .moving ∧ (t.grp k).prof.q = pr.q ∧
          (t.grp k).prof.p = pr.p ∧ (t.grp k).prof.j = pr.j ∧ (t.grp k).prof.phase = pr.phase ∧
          (t.grp k).prof.holdTimer = (s.grp k).prof.holdTimer ∧ (t.grp k).updateTimer = next ∧
          (t.grp k).prof.finishTimer =
            (if (s.grp k).moveKind = .cue ∧ pr.p = 65536 ∧ (s.grp k).prof.finishTimer = none then
              startMs s.timebase 2000 else (s.grp k).prof.finishTimer) ∧
          (t.grp k).queue = (s.grp k).queue ∧ (t.grp k).deadline = (s.grp k).deadline ∧ UpdateKeeps k s t) ∧
      (AtJogBound k fixed s →
        ∃ t, exec (.groupUpdate k) s = .next t ∧ StopMade k s t ∧ (t.grp k).prof.j = pr.j ∧
          ((∃ j : Channel, (s.chan j).group = some k ∧ StopTakesTime (s.chan j)) → (t.grp k).state = .stopping) ∧
          (∀ h : GroupId, h ≠ k → t.grp h = s.grp h) ∧
          (∀ j : Channel, KeepsStored (s.chan j) (t.chan j) ∧ (t.chan j).position = (s.chan j).position) ∧
          KeepsPart s t) ∧
      ((s.grp k).prof.loadCheck = .undecided → (∃ j : Channel, stillAway k fixed s j = true) →
        ∃ t, exec (.groupUpdate k) s = .next t ∧
          let taken := loadTaken k s
          ((channels.filter taken).length < 2 ∨ loadTotal taken s < 50 → (t.grp k).prof.loadCheck = .off) ∧
          (2 ≤ (channels.filter taken).length → 50 ≤ loadTotal taken s →
            (t.grp k).prof.loadCheck = .on ∧
            ∀ j : Channel, (s.chan j).group = some k →
              (taken j = true →
                ((t.grp k).prof.members.get j).refShare = some ((s.chan j).load.filtered * 1024 / loadTotal taken s) ∧
                ((t.grp k).prof.members.get j).viol = 0) ∧
              (taken j = false →
                ((t.grp k).prof.members.get j).refShare = ((s.grp k).prof.members.get j).refShare)))) ∧
    (∀ (head : Cue) (rest : List Cue), (s.grp (.console n)).queue = head :: rest →
      (s.grp (.console n)).updateTimer = some e → (s.grp (.console n)).state = .moving →
      (s.grp (.console n)).moveKind = .cue → MembersAre (.console n) fixed s → NoTripNow (.console n) fixed s →
      (∀ j : Channel, (s.chan j).group = some (.console n) →
        ((s.grp (.console n)).prof.members.get j).arrived = true ∧ (s.chan j).state = .parked) →
      let g : GroupId := .console n
      ∃ t, exec (.groupUpdate g) s = .next t ∧ CueCompleted n head rest s t ∧
        (head.follow = .stopAtEnd ∨ rest = [] ∨ (s.grp g).deadline = none ∨ s.stops.estop ≠ .clear →
          (t.grp g).prof.p = (updProfile g fixed s).p))

/-- GROUP_UPDATE in STARTING and STOPPING (R125, R130, R145): every member's error is formed from its commanded position. In
STOPPING a VARIABLE group takes one step down the stop ramp with its duties, a ramp that reaches 0 leaves no member RUNNING, and
the stop ends where every member is then PARKED; a FIXED group only forms its errors. In MOVING and HOLDING, where no trip is
reported: arrival (R133, R134), release from HOLDING (R139), trim pause and restart (R141, R142), the duty of a VARIABLE member
(R131, R132), and the violation counts of a comparison of load shares (R147). That the next due reading is the last one plus one
interval (log entry 21), that duties are still written at a jog end (log entry 18) and that a FIXED member that arrives while it
is not RUNNING gets no stop (log entry 28) are the model's readings. -/
def Obligations.UpdateFormsErrorsAndStops : Prop :=
  ∀ (g : GroupId) (e : Time) (fixed : Bool) (s : State), (s.grp g).updateTimer = some e →
    ((s.grp g).state = .starting →
      ∃ t, exec (.groupUpdate g) s = .next t ∧ (t.grp g).state = .starting ∧
        (t.grp g).updateTimer = some (e + BitVec.ofNat 32 (1000 * intervalMs (s.grp g).interval)) ∧
        (∀ (i : Channel) (m : MemberPlan), (s.chan i).group = some g → ((s.grp g).prof.members.get i).plan = some m →
          ((t.grp g).prof.members.get i).err =
            (((s.chan i).position : Int) - commanded (s.grp g).moveKind (s.grp g).prof m) *
              (match m.dir with | .up => 1 | .down => -1)) ∧
        (t.grp g).prof.p = (s.grp g).prof.p ∧ (t.grp g).prof.j = (s.grp g).prof.j ∧
        (∀ i : Channel, (t.chan i).state = (s.chan i).state) ∧
        (∀ i : Channel, (s.chan i).group ≠ some g → t.chan i = s.chan i) ∧ KeepsRecords s t ∧
        (∀ h : GroupId, h ≠ g → t.grp h = s.grp h) ∧ KeepsPart s t) ∧
    ((s.grp g).state = .stopping → MembersAre g fixed s →
      let r := s.grp g
      let q := if fixed then r.prof.q else r.prof.q - r.prof.a
      let next : Timer := some (e + BitVec.ofNat 32 (1000 * intervalMs r.interval))
      ∃ t, exec (.groupUpdate g) s = .next t ∧ (t.grp g).prof.q = q ∧ (t.grp g).prof.phase = r.prof.phase ∧
        (t.grp g).prof.p = (if fixed = false ∧ r.moveKind = .cue then min 65536 (r.prof.p + q) else r.prof.p) ∧
        (t.grp g).prof.j =
          (if fixed = false ∧ r.moveKind = .jog then
            (match r.prof.jMax with
             | none => r.prof.j + q
             | some x => min x (r.prof.j + q))
          else r.prof.j) ∧
        (∀ (i : Channel) (m : MemberPlan), (s.chan i).group = some g → (r.prof.members.get i).plan = some m →
          ((t.grp g).prof.members.get i).err =
            (((s.chan i).position : Int) - commanded r.moveKind (t.grp g).prof m) * signOf m.dir) ∧
        (fixed = true → (t.grp g).state = .stopping ∧ (t.grp g).updateTimer = next ∧ t.chans = s.chans ∧
          t.notices = s.notices) ∧
        (fixed = false →
          (q ≠ 0 → ∀ i : Channel, (t.chan i).state = (s.chan i).state) ∧
          (q = 0 → ∀ i : Channel, (s.chan i).group = some g →
            (t.chan i).state ≠ .running ∧ (StopTakesTime (s.chan i) → (t.chan i).state = .stopping .controlled) ∧
            ((s.chan i).state ≠ .running → (t.chan i).state = (s.chan i).state)) ∧
          (q ≠ 0 → ∀ (i : Channel) (m : MemberPlan), (s.chan i).group = some g → (s.chan i).state = .running →
            (r.prof.members.get i).arrived = false → (r.prof.members.get i).plan = some m →
            let rate := if r.moveKind = .cue ∧ r.prof.p = 65536 then 0 else q
            let delta := intervalMs r.interval
            let ff := match r.moveKind with
              | .cue => m.dist * rate * 1000 * 255 / (65536 * delta * (s.chan i).cfg.ratedSpeed)
              | .jog => rate * 1000 * 255 / (delta * (s.chan i).cfg.ratedSpeed)
            let err := ((t.grp g).prof.members.get i).err
            let corr := err.natAbs * (s.chan i).cfg.gainK / 16
            (t.chan i).gen.pendingDuty =
              some (max 0 (min 255 (if err < 0 then (ff : Int) + corr
                else if 0 < err then (ff : Int) - corr else ff))).toNat) ∧
          ((∃ i : Channel, (s.chan i).group = some g ∧ (t.chan i).state ≠ .parked) →
            (t.grp g).state = .stopping ∧ (t.grp g).updateTimer = next ∧ t.notices = s.notices) ∧
          ((∀ i : Channel, (s.chan i).group = some g → (t.chan i).state = .parked) →
            (t.grp g).updateTimer = none ∧
            (t.grp g).state = if g ≠ .pendant ∧ r.moveKind = .cue then .paused else .idle) ∧
          (∀ n : ConsoleGroup, g = .console n → (t.grp g).state = .paused → PendingBoth (.group n .paused) t)) ∧
        (t.grp g).queue = r.queue ∧ (t.grp g).trip = r.trip ∧
        (∀ i : Channel, KeepsStored (s.chan i) (t.chan i) ∧ (t.chan i).position = (s.chan i).position) ∧
        (g ≠ .pendant → ∀ i : Channel, (s.chan i).group ≠ some g → t.chan i = s.chan i) ∧
        (∀ h : GroupId, h ≠ g → t.grp h = s.grp h) ∧ KeepsPart s t) ∧
    (MembersAre g fixed s → NoTripNow g fixed s → SwitchesClosed g s →
      (s.grp g).state = .moving ∨ (s.grp g).state = .holding →
      let pr := updProfile g fixed s
      let holds := (s.grp g).state = .moving ∧ ¬AtJogBound g fixed s ∧ ∃ j : Channel, holdsNow g fixed s j = true
      ((∃ j : Channel, stillAway g fixed s j = true) → (s.grp g).state = .holding →
        ∃ t, exec (.groupUpdate g) s = .next t ∧ (t.grp g).prof.p = pr.p ∧ (t.grp g).prof.j = pr.j ∧
          ((∀ j : Channel, waitsNow g fixed s j = false) →
            (t.grp g).state = .moving ∧ (t.grp g).prof.q = 0 ∧ (t.grp g).prof.holdTimer = none ∧
            (t.grp g).prof.phase = if fixed then .cruise else .accel) ∧
          ((∃ j : Channel, waitsNow g fixed s j = true) →
            (t.grp g).state = .holding ∧ (t.grp g).prof.q = pr.q ∧ (t.grp g).prof.phase = pr.phase ∧
            (t.grp g).prof.holdTimer = (s.grp g).prof.holdTimer) ∧ UpdateKeeps g s t) ∧
      (∀ i : Channel, arrivesNow g fixed s i = true →
        (∃ j : Channel, stillAway g fixed s j = true) ∨ StopTakesTime (s.chan i) →
        ∃ t, exec (.groupUpdate g) s = .next t ∧ ((t.grp g).prof.members.get i).arrived = true ∧
          ((t.grp g).prof.members.get i).trimPaused = false ∧
          ((t.grp g).prof.members.get i).err = updError g fixed s i ∧
          (StopTakesTime (s.chan i) → (t.chan i).state = .stopping .controlled ∧ (t.chan i).gen.duty = 0) ∧
          (fixed = true → (s.chan i).state ≠ .running → t.chan i = s.chan i)) ∧
      (∀ i : Channel, stillAway g fixed s i = true →
        ∃ t, exec (.groupUpdate g) s = .next t ∧ ((t.grp g).prof.members.get i).arrived = false ∧
          ((t.grp g).prof.members.get i).err = updError g fixed s i ∧
          (fixed = true → ¬((s.grp g).state = .moving ∧ AtJogBound g fixed s) →
            (((s.grp g).prof.members.get i).trimPaused = false →
              ((s.grp g).windows.trimOn : Int) ≤ updError g fixed s i → StopTakesTime (s.chan i) →
              ((t.grp g).prof.members.get i).trimPaused = true ∧ (t.chan i).state = .stopping .controlled) ∧
            (((s.grp g).prof.members.get i).trimPaused = false →
              (s.chan i).state ≠ .running ∨ updError g fixed s i < ((s.grp g).windows.trimOn : Int) →
              ((t.grp g).prof.members.get i).trimPaused = false ∧ t.chan i = s.chan i) ∧
            (∀ m : MemberPlan, ((s.grp g).prof.members.get i).trimPaused = true → (s.chan i).state = .parked →
              ((s.grp g).prof.members.get i).plan = some m →
              updError g fixed s i ≤ ((s.grp g).windows.trimOff : Int) →
              ((t.grp g).prof.members.get i).trimPaused = false ∧
              (s.stops.estop = .clear → s.stops.monitor ≠ .low → s.supply.state = .on →
                (s.chan i).lastDir = some m.dir → (t.chan i).state = .starting ∧ (t.chan i).lastDir = some m.dir)) ∧
            (((s.grp g).prof.members.get i).trimPaused = true →
              (s.chan i).state ≠ .parked ∨ ((s.grp g).windows.trimOff : Int) < updError g fixed s i →
              ((t.grp g).prof.members.get i).trimPaused = true ∧ t.chan i = s.chan i)) ∧
          (∀ m : MemberPlan, fixed = false → (s.chan i).state = .running →
            ((s.grp g).prof.members.get i).plan = some m →
            let rate := if (s.grp g).state = .holding ∨ holds ∨
              ((s.grp g).moveKind = .cue ∧ (s.grp g).prof.p = 65536) then 0 else pr.q
            let delta := intervalMs (s.grp g).interval
            let ff := match (s.grp g).moveKind with
              | .cue => m.dist * rate * 1000 * 255 / (65536 * delta * (s.chan i).cfg.ratedSpeed)
              | .jog => rate * 1000 * 255 / (delta * (s.chan i).cfg.ratedSpeed)
            let corr := (updError g fixed s i).natAbs * (s.chan i).cfg.gainK / 16
            (t.chan i).gen.pendingDuty =
              some (max 0 (min 255 (if updError g fixed s i < 0 then (ff : Int) + corr
                else if 0 < updError g fixed s i then (ff : Int) - corr else ff))).toNat)) ∧
      (∀ i : Channel, (s.grp g).prof.loadCheck = .on → ((s.grp g).prof.members.get i).refShare.isSome = true →
        (s.chan i).group = some g → (∃ j : Channel, stillAway g fixed s j = true) →
        ∃ t, exec (.groupUpdate g) s = .next t ∧
          (t.grp g).prof.loadCheck = .on ∧
          ((t.grp g).prof.members.get i).refShare = ((s.grp g).prof.members.get i).refShare ∧
          ((t.grp g).prof.members.get i).viol =
            (if shareCompared g s i = false then 0
             else if ¬SharesComparable g s then ((s.grp g).prof.members.get i).viol
             else if ((s.grp g).prof.members.get i).refShare.any (shareViolates g s i) = true then
               min 3 (((s.grp g).prof.members.get i).viol + 1)
             else 0)))

/-- The commanded position of a cue (R130) lies between start and target inclusive, and at the end of the progress it is the
target; the plan of a cue puts the target at its distance from the start in its direction (R126). The progress of a cue stays
within 0..65536 and does not fall at an update in MOVING or STOPPING (R128, R129, R145), and each update in MOVING advances
the record as R128, R129 and R144 say. That a member whose distance is 0 has an effective speed, by the formula of a moving
member, is the model's choice (log entry 34). -/
def Obligations.CommandedStaysInsideTheMove : Prop :=
  ∀ (pr : Profile) (m : MemberPlan), pr.p ≤ 65536 →
    (m.dir = .up → (m.start : Int) ≤ commanded .cue pr m ∧ commanded .cue pr m ≤ (m.start : Int) + m.dist) ∧
    (m.dir = .down → (m.start : Int) - m.dist ≤ commanded .cue pr m ∧ commanded .cue pr m ≤ (m.start : Int)) ∧
    (pr.p = 65536 → (commanded .cue pr m - (m.start : Int)).natAbs = m.dist) ∧
    ((m.target : Int) = m.start + signOf m.dir * m.dist →
      (m.dir = .up → (m.start : Int) ≤ commanded .cue pr m ∧ commanded .cue pr m ≤ m.target) ∧
      (m.dir = .down → (m.target : Int) ≤ commanded .cue pr m ∧ commanded .cue pr m ≤ m.start) ∧
      (pr.p = 65536 → commanded .cue pr m = m.target)) ∧
    commanded .jog pr m = m.start + signOf m.dir * pr.j ∧
    (∀ (fixed : Bool) (cue : Cue) (i : Channel) (c : Chan),
      let plan := cueMemberPlan fixed cue i c
      plan.start = c.position ∧ (plan.target : Int) = plan.start + signOf plan.dir * plan.dist ∧
      plan.target = ((cue.entries.find? fun e => decide (e.1 = i)).map Prod.snd).getD c.position ∧
      (plan.target = c.position → plan.dir = .up) ∧
      plan.veff = if fixed then c.cfg.ratedSpeed else max 1 (c.cfg.ratedSpeed * cue.speed / 100)) ∧
    (∀ fixed : Bool,
      pr.p ≤ (advanceMoving fixed .cue pr).p ∧ (advanceMoving fixed .cue pr).p ≤ 65536 ∧
      (advanceMoving fixed .jog pr).p = pr.p ∧ pr.p ≤ (stopRamp .cue pr).p ∧ (stopRamp .cue pr).p ≤ 65536) ∧
    advanceMoving true .cue pr = { pr with q := pr.qCruise, p := min 65536 (pr.p + pr.qCruise) } ∧
    advanceMoving true .jog pr = { pr with
      q := pr.qCruise
      j := match pr.jMax with
        | none => pr.j + pr.qCruise
        | some x => min x (pr.j + pr.qCruise) } ∧
    (∀ mk : MoveKind,
      let remaining : Option Nat := match mk with
        | .cue => some (65536 - pr.p)
        | .jog => pr.jMax.map fun x => x - pr.j
      let slowing := pr.phase = .decel ∨ ((pr.phase = .accel ∨ pr.phase = .cruise) ∧
        remaining.any (fun r => decide (r ≤ pr.q * pr.q / (2 * pr.a) + pr.q)) = true)
      let after := advanceMoving false mk pr
      (slowing → after.phase = .decel ∧ after.q = max pr.a (pr.q - pr.a)) ∧
      (¬slowing → pr.phase = .accel →
        after.q = min (pr.q + pr.a) pr.qCruise ∧ (after.phase = if after.q = pr.qCruise then .cruise else .accel)) ∧
      (¬slowing → pr.phase = .cruise → after.q = pr.q ∧ after.phase = .cruise) ∧
      (mk = .cue → after.p = min 65536 (pr.p + after.q) ∧ after.j = pr.j) ∧
      (mk = .jog → after.p = pr.p ∧
        after.j = match pr.jMax with
          | none => pr.j + after.q
          | some x => min x (pr.j + after.q)))

/-! ### Links, receivers and frames -/

/-- The refresh that a good frame makes (R84, R85): the link is ACTIVE with its timer restarted, the other console's set takes
LINK where the state changed, that console's line follows (R183), and nothing else changes. -/
def Obligations.GoodFrameRefreshesLink : Prop :=
  ∀ (c : Console) (s : State), ∃ t, t = refreshLink c s ∧
    t.link c = { state := .active, timer := startMs s.timebase s.settings.linkTimeout } ∧
    t.link c.other = s.link c.other ∧ t.box c = s.box c ∧
    ((s.link c).state = .active → t.notices = s.notices) ∧
    ((s.link c).state ≠ .active →
      (t.box c.other).pending = (s.box c.other).pending ||| noticeBit .link ∧
      (t.box c.other).mask = (s.box c.other).mask) ∧
    ((s.link c).state = .active →
      t = s.setLink c { state := .active, timer := startMs s.timebase s.settings.linkTimeout }) ∧
    ((s.link c).state ≠ .active →
      t = (s.setLink c { state := .active, timer := startMs s.timebase s.settings.linkTimeout }).setBox c.other
        { pending := (s.box c.other).pending ||| noticeBit .link, mask := (s.box c.other).mask
          atn := decide (((s.box c.other).pending ||| noticeBit .link) &&& (s.box c.other).mask ≠ 0) }) ∧
    t.chans = s.chans ∧ t.groups = s.groups ∧ t.supply = s.supply ∧ t.scanner = s.scanner ∧ t.stops = s.stops ∧
    t.settings = s.settings ∧ t.ports = s.ports ∧ t.station = s.station ∧ t.timebase = s.timebase ∧ t.pending = s.pending

/-- GAP_TIMER_EXPIRY, FRAME_DISCARDED and RESPONSE_SENT (R163, R164, R165, R173): a receiver inside a frame returns to HUNTING
with nothing else changed, and one that is answering does so at its last byte. A gap timer that a character has started again
is not due, and its expiry changes nothing. That an answering receiver passes over the first two commands (log entry 16) and
how a reading is known to be reached (log entry 6) are the model's choices. -/
def Obligations.ReceiverReturnsToHunting : Prop :=
  ∀ (c : Console) (why : DiscardReason) (s : State),
    (∀ (bytes : List Byte) (gap : Time), s.port c = .receiving bytes gap →
      (Due s.timebase gap → exec (.gapTimerExpiry c) s = .next (s.setPort c .hunting)) ∧
      (¬Due s.timebase gap → exec (.gapTimerExpiry c) s = .next s) ∧
      exec (.frameDiscarded c why) s = .next (s.setPort c .hunting)) ∧
    (∀ r : Response, s.port c = .answering r →
      exec (.responseSent c) s = .next (s.setPort c .hunting) ∧
      exec (.gapTimerExpiry c) s = .next s ∧ exec (.frameDiscarded c why) s = .next s)

/-- The refusals that the link interface makes itself (steps 1 and 2 of R171), with no payload and no change but the refresh: a
payload of the wrong length for every request code, and an unknown code; IGNORED_BROADCAST, and a broadcast of a wrong length,
which has no response (R169). -/
def Obligations.LinkInterfaceRefuses : Prop :=
  ∀ (c : Console) (code : Byte) (p : List Byte) (s : State), Ready c p s →
    (requestCodes.contains code = false →
      exec (.unknownRequest c code p) s = .next (answered c code .unknownRequest [] (refreshLink c s))) ∧
    (broadcastCodes.contains code = false →
      exec (.ignoredBroadcast c code p) s = .next ((refreshLink c s).setPort c .hunting)) ∧
    (∀ e ∈ fixedRequests c p, p.length ≠ e.2.1 →
      exec e.2.2 s = .next (answered c e.1 .badFrame [] (refreshLink c s))) ∧
    (p.length < 7 ∨ p.length ≠ 7 + 3 * byteAt p 6 →
      exec (.loadCue c p) s = .next (answered c 0x32 .badFrame [] (refreshLink c s))) ∧
    (p.length ≠ 1 →
      takeAddressed c 0x40 (requestOf c 0x40 p) s = answered c 0x40 .badFrame [] (refreshLink c s) ∧
      exec (.go c .broadcast p) s = .next ((refreshLink c s).setPort c .hunting) ∧
      exec (.hold c .broadcast p) s = .next ((refreshLink c s).setPort c .hunting) ∧
      exec (.stop c .broadcast p) s = .next ((refreshLink c s).setPort c .hunting))

/-- REQUEST_CHARACTER_RECEIVED (R163, R164, R165): what a character does in each receiver state before the end of a frame. -/
def Obligations.CharactersCollectAFrame : Prop :=
  ∀ (c : Console) (b : Byte) (s : State),
    (s.port c = .hunting → b = 0xA5 →
      exec (.requestCharacterReceived c b) s = .next (s.setPort c (.receiving [] (s.timebase + 2000)))) ∧
    (s.port c = .hunting → b ≠ 0xA5 → exec (.requestCharacterReceived c b) s = .next s) ∧
    (isAnswering (s.port c) = true → exec (.requestCharacterReceived c b) s = .next s) ∧
    (∀ (bytes : List Byte) (gap : Time), s.port c = .receiving bytes gap →
      (bytes.length = 0 → exec (.requestCharacterReceived c b) s = .next
        (s.setPort c (.receiving [b] (s.timebase + 2000)))) ∧
      (bytes.length = 1 → 64 < b.toNat → exec (.requestCharacterReceived c b) s = .next (s.setPort c .hunting)) ∧
      (bytes.length = 1 → b.toNat ≤ 64 → exec (.requestCharacterReceived c b) s = .next
        (s.setPort c (.receiving (bytes ++ [b]) (s.timebase + 2000)))) ∧
      (2 ≤ bytes.length → bytes.length + 1 < (bytes.getD 1 0).toNat + 5 →
        exec (.requestCharacterReceived c b) s = .next
          (s.setPort c (.receiving (bytes ++ [b]) (s.timebase + 2000)))))

/-- The characters of a whole frame, one a step into a HUNTING receiver (R163, R164, R166 to R170): with a good CRC and the rack's
own address the request of the frame's CODE is taken from the payload and answered; at the broadcast address GO, HOLD and STOP
alone are taken, and any other code is ignored after the refresh; with a bad CRC, another address, or straps 0 or 31 the frame
is dropped, with no refresh and nothing else. A receiver that is ANSWERING loses characters and whole frames alike (R173), and
a rack with straps 0 or 31 drops a whole frame too (R167). That a request command is a whole frame that ends at its moment is
the model's choice (log entry 16). -/
def Obligations.FrameBytesMakeTheRequest : Prop :=
  ∀ (c : Console) (addr code crcHigh crcLow : Byte) (payload bytes : List Byte) (s : State), payload.length ≤ 64 →
    let body : List Byte := [addr, BitVec.ofNat 8 payload.length, code] ++ payload
    let frame : List Byte := [0xA5] ++ body ++ [crcHigh, crcLow]
    let arrives := fun l : List Byte => Sys2Proof.core.run l.length { s with pending := l.map (.requestCharacterReceived c) }
    let good := crcHigh = (crc16 body).extractLsb' 8 8 ∧ crcLow = (crc16 body).extractLsb' 0 8
    let stationed := 1 ≤ s.station.toNat ∧ s.station.toNat ≤ 30
    let idle := { s with pending := [] }
    (s.port c = .hunting → good → stationed → addr.toNat = s.station.toNat →
      arrives frame = .next (takeAddressed c code (requestOf c code payload) idle)) ∧
    (s.port c = .hunting → good → stationed → addr = 31 →
      (code = 0x34 ∨ code = 0x35 ∨ code = 0x36 →
        arrives frame = .next (takeBroadcast c (requestOf c code payload) idle)) ∧
      (code ≠ 0x34 → code ≠ 0x35 → code ≠ 0x36 → arrives frame = .next (refreshLink c idle))) ∧
    (s.port c = .hunting → ¬good ∨ ¬stationed ∨ (addr.toNat ≠ s.station.toNat ∧ addr ≠ 31) →
      arrives frame = .next idle) ∧
    (isAnswering (s.port c) = true →
      arrives bytes = .next idle ∧ ∀ i ∈ wholeFrames c code payload, exec i s = .next s) ∧
    (s.port c = .hunting → ¬stationed → ∀ i ∈ wholeFrames c code payload, exec i s = .next s)

/-- The five reads (R23, R123, R175, R182, R184, R185): the response is the snapshot of the state that the refresh left, nothing
else changes, the snapshots have the sizes of the layouts, 41, 48, 39 + 6m and 15 bytes, and each field stands at its offset
under its numeric code (offset k is the layout's byte k + 1). A displacement of 2^32 counts or more is reported modulo 2^32 by
the model's choice (log entry 19): the fields are stated below it. -/
def Obligations.ReadsChangeNothing : Prop :=
  ∀ (c : Console) (b : Byte) (s : State), Ready c [] s →
    let u := refreshLink c s
    exec (.readPart c []) s = .next (answered c 0x01 .ok (partSnapshot u) u) ∧ (partSnapshot u).length = 41 ∧
    exec (.readNotices c []) s = .next (answered c 0x05 .ok (noticesSnapshot (u.box c)) u) ∧
    (noticesSnapshot (u.box c)).length = 15 ∧
    (∀ i : Channel, b.toNat = i.val →
      exec (.readChannel c [b]) s = .next (answered c 0x02 .ok (channelSnapshot (u.chan i)) u) ∧
      (channelSnapshot (u.chan i)).length = 48) ∧
    (∀ g : ConsoleGroup, b.toNat = g.val →
      exec (.readGroup c [b]) s = .next (answered c 0x03 .ok (groupSnapshot (.console g) u) u) ∧
      (groupSnapshot (.console g) u).length = 39 + 6 * (s.members (.console g)).length ∧
      exec (.readQueue c [b]) s = .next (answered c 0x04 .ok (queueSnapshot (u.grp (.console g)).queue) u)) ∧
    (8 ≤ b.toNat → exec (.readChannel c [b]) s = .next (answered c 0x02 .badValue [] u)) ∧
    (4 ≤ b.toNat → exec (.readGroup c [b]) s = .next (answered c 0x03 .badValue [] u) ∧
      exec (.readQueue c [b]) s = .next (answered c 0x04 .badValue [] u)) ∧
    NumericCodes ∧ PartFields (partSnapshot u) u ∧ NoticeFields (noticesSnapshot (u.box c)) (u.box c) ∧
    (∀ i : Channel, ChannelFields (channelSnapshot (u.chan i)) (u.chan i)) ∧
    (∀ g : ConsoleGroup, GroupFields (groupSnapshot (.console g) u) (.console g) u ∧
      queueSnapshot (u.grp (.console g)).queue =
        BitVec.ofNat 8 (u.grp (.console g)).queue.length :: (u.grp (.console g)).queue.flatMap fun q =>
          [BitVec.ofNat 8 (q.tag / 256), BitVec.ofNat 8 q.tag, BitVec.ofNat 8 q.speed, BitVec.ofNat 8 q.ramp,
            (match q.follow with | .stopAtEnd => 0 | .autoNext => 1), BitVec.ofNat 8 q.entries.length] ++
          q.entries.flatMap fun v => [BitVec.ofNat 8 v.1.val, BitVec.ofNat 8 (v.2 / 256), BitVec.ofNat 8 v.2])

/-! ### Holders -/

/-- SELECT (R81): taken whole where every channel of the set is unheld or the requester's own, refused whole with
HELD_ELSEWHERE otherwise. -/
def Obligations.SelectTakesUnheldChannels : Prop :=
  ∀ (c : Console) (b : Byte) (s : State), Ready c [b] s →
    let u := refreshLink c s
    let t := { u with chans := u.chans.mapIdx fun i ch => if inSet b i then { ch with holder := .console c } else ch }
    ((∀ i : Channel, inSet b i = true → (s.chan i).holder = .none ∨ HeldBy c s i) →
      exec (.select c [b]) s = .next (answered c 0x10 .ok (channels.map fun i => BitVec.ofNat 8 (holderCode (t.chan i).holder)) t)) ∧
    (¬(∀ i : Channel, inSet b i = true → (s.chan i).holder = .none ∨ HeldBy c s i) →
      exec (.select c [b]) s =
        .next (answered c 0x10 .heldElsewhere (channels.map fun i => BitVec.ofNat 8 (holderCode (s.chan i).holder)) u))

/-- RELEASE and FORCE_RELEASE (R82, R87): the tests in their order, and the release of every channel of the set. -/
def Obligations.ReleaseAndForceRelease : Prop :=
  ∀ (c : Console) (b : Byte) (s : State), Ready c [b] s →
    let u := refreshLink c s
    let t := { u with chans := u.chans.mapIdx fun i ch => if inSet b i then { ch with holder := .none } else ch }
    let echo := fun v : State => channels.map fun i => BitVec.ofNat 8 (holderCode (v.chan i).holder)
    let held := ∀ i : Channel, inSet b i = true → HeldBy c s i
    let heldByOther := ∀ i : Channel, inSet b i = true → HeldBy c.other s i
    let grouped := ∃ i : Channel, inSet b i = true ∧ (s.chan i).group ≠ none
    (¬held → exec (.release c [b]) s = .next (answered c 0x11 .notHolder (echo u) u)) ∧
    (held → grouped → exec (.release c [b]) s = .next (answered c 0x11 .inGroup (echo u) u)) ∧
    (held → ¬grouped → exec (.release c [b]) s = .next (answered c 0x11 .ok (echo t) t)) ∧
    (¬heldByOther → exec (.forceRelease c [b]) s = .next (answered c 0x12 .notHolder (echo u) u)) ∧
    (heldByOther → (s.link c.other).state ≠ .lost →
      exec (.forceRelease c [b]) s = .next (answered c 0x12 .ownerActive (echo u) u)) ∧
    (heldByOther → (s.link c.other).state = .lost → grouped →
      exec (.forceRelease c [b]) s = .next (answered c 0x12 .inGroup (echo u) u)) ∧
    (heldByOther → (s.link c.other).state = .lost → ¬grouped → b ≠ 0 →
      exec (.forceRelease c [b]) s = .next (answered c 0x12 .ok (echo t) (t.raise .takeover))) ∧
    ((s.link c.other).state = .lost → b = 0 → exec (.forceRelease c [b]) s = .next (answered c 0x12 .ok (echo u) u))

/-- TAKE_GROUP (R88): the tests in their order, and the change of owner and holders with TAKEOVER raised. -/
def Obligations.TakeGroupMovesOwnership : Prop :=
  ∀ (c : Console) (g : ConsoleGroup) (s : State), Ready c [BitVec.ofNat 8 g.val] s →
    let u := refreshLink c s
    let k : GroupId := .console g
    let echo := fun v : State => [BitVec.ofNat 8 (holderCode (v.grp k).owner), v.memberSet k]
    let t := { u with
      chans := u.chans.mapIdx fun _ ch => if ch.group = some k then { ch with holder := .console c } else ch
      groups := u.groups.set k { u.grp k with owner := .console c } }
    (¬OwnedBy c.other s g → exec (.takeGroup c [BitVec.ofNat 8 g.val]) s = .next (answered c 0x13 .notOwner (echo u) u)) ∧
    (OwnedBy c.other s g → (s.link c.other).state ≠ .lost →
      exec (.takeGroup c [BitVec.ofNat 8 g.val]) s = .next (answered c 0x13 .ownerActive (echo u) u)) ∧
    (OwnedBy c.other s g → (s.link c.other).state = .lost → (s.grp k).state.inMove = true →
      exec (.takeGroup c [BitVec.ofNat 8 g.val]) s = .next (answered c 0x13 .busy (echo u) u)) ∧
    (OwnedBy c.other s g → (s.link c.other).state = .lost → (s.grp k).state.inMove = false →
      exec (.takeGroup c [BitVec.ofNat 8 g.val]) s = .next (answered c 0x13 .ok (echo t) (t.raise .takeover))) ∧
    (∀ b : Byte, 4 ≤ b.toNat → exec (.takeGroup c [b]) s = .next (answered c 0x13 .badValue [] u))

/-! ### Channel requests -/

/-- The refusals of CONFIG_CHANNEL (R21): an enumeration out of range, a channel not held, grouped, or in a state other than
PARKED and OFF. -/
def Obligations.ConfigChannelRefusals : Prop :=
  ∀ (c : Console) (i : Channel) (block : List Byte) (s : State), block.length = 18 → Ready c [] s →
    let u := refreshLink c s
    let p := BitVec.ofNat 8 i.val :: block
    let echo := configEcho (u.chan i)
    let inRange := (block.getD 0 0).toNat ≤ 2 ∧ (block.getD 7 0).toNat ≤ 1 ∧ (block.getD 17 0).toNat ≤ 3
    (¬inRange → exec (.configChannel c p) s = .next (answered c 0x20 .badValue [] u)) ∧
    (inRange → ¬HeldBy c s i → exec (.configChannel c p) s = .next (answered c 0x20 .notHolder echo u)) ∧
    (inRange → HeldBy c s i → (s.chan i).group ≠ none →
      exec (.configChannel c p) s = .next (answered c 0x20 .inGroup echo u)) ∧
    (inRange → HeldBy c s i → (s.chan i).group = none → (s.chan i).state ≠ .parked → (s.chan i).state ≠ .off →
      exec (.configChannel c p) s = .next (answered c 0x20 .busy echo u))

/-- CONFIG_CHANNEL is taken on a channel that the requester holds, in no group, PARKED or OFF (R21), and completes (R3, R22, R79):
the values are stored clamped, the envelope is re-clamped against the rated load, the kind takes the channel between OFF and
PARKED by the table, and the load counters become 0 where the channel enters OFF. There the position unit is reset (R49); a
channel that stays or becomes PARKED has its slip check armed under the feedback setting now stored (R55), and one that leaves
OFF has last direction NONE, no dwell and the stuck-contactor watch of R34. -/
def Obligations.ConfigChannelStores : Prop :=
  ∀ (c : Console) (i : Channel) (block : List Byte) (s : State), block.length = 18 → Ready c [] s →
    (block.getD 0 0).toNat ≤ 2 → (block.getD 7 0).toNat ≤ 1 → (block.getD 17 0).toNat ≤ 3 →
    HeldBy c s i → (s.chan i).group = none → (s.chan i).state = .parked ∨ (s.chan i).state = .off →
    ∃ t, exec (.configChannel c (BitVec.ofNat 8 i.val :: block)) s =
        .next (answered c 0x20 .ok (configEcho (t.chan i)) t) ∧
      (t.chan i).cfg =
        { kind := if (block.getD 0 0).toNat = 0 then .absent else if (block.getD 0 0).toNat = 1 then .fixedSpeed else .variableSpeed
          ratedSpeed := max 1 (min 4000 (wordAt block 1)), ratedLoad := max 125 (min 5000 (wordAt block 3))
          gainK := byteAt block 5, coast := min 200 (byteAt block 6)
          bfbFitted := decide ((block.getD 7 0).toNat = 1)
          torqueTime := max 50 (min 500 (wordAt block 8)), brakeTime := max 100 (min 1000 (wordAt block 10))
          stopHold := min 500 (wordAt block 12), dwell := max 200 (min 2000 (wordAt block 14))
          slipCount := max 2 (min 64 (byteAt block 16)), refCode := byteAt block 17 } ∧
      ((block.getD 0 0).toNat = 0 → (t.chan i).state = .off) ∧
      ((block.getD 0 0).toNat ≠ 0 → (t.chan i).state = .parked) ∧
      ((s.chan i).state = .parked → (block.getD 0 0).toNat = 0 →
        (t.chan i).referenced = false ∧ (t.chan i).lastDir = none ∧ (t.chan i).startPending = none ∧
        (t.chan i).out.dwellTimer = none ∧ ((s.chan i).referenced = true → PendingBoth (.chan i .refLost) t)) ∧
      ((s.chan i).state = .parked → (block.getD 0 0).toNat ≠ 0 →
        (t.chan i).referenced = (s.chan i).referenced ∧ (t.chan i).lastDir = (s.chan i).lastDir ∧
        (t.chan i).startPending = (s.chan i).startPending ∧ (t.chan i).out.dwellTimer = (s.chan i).out.dwellTimer) ∧
      (t.chan i).envMax = max 1 (min ((t.chan i).cfg.ratedLoad * 5 / 4) (s.chan i).envMax) ∧
      (t.chan i).envMin = min ((t.chan i).envMax - 1) (s.chan i).envMin ∧
      (t.chan i).pos =
        (if (s.chan i).state = .off ∧ (block.getD 0 0).toNat = 0 then (s.chan i).pos
         else if (block.getD 0 0).toNat = 0 then
          { (s.chan i).pos with
            bound := .none, lastEdge := none, capture := .empty, speed := 0, speedTimeout := none, slip := 0
            slipStopped := false, slipArmed := false, wrongDir := 0, noMotion := none }
         else
          { (s.chan i).pos with
            slipArmed := if (block.getD 7 0).toNat = 1 then !(s.chan i).out.bfb else true }) ∧
      ((s.chan i).state = .off →
        (t.chan i).referenced = (s.chan i).referenced ∧ (t.chan i).startPending = (s.chan i).startPending ∧
        (t.chan i).out.dwellTimer = (s.chan i).out.dwellTimer ∧
        (t.chan i).lastDir = if (block.getD 0 0).toNat = 0 then (s.chan i).lastDir else none) ∧
      (t.chan i).out =
        { (s.chan i).out with
          dwellTimer := (t.chan i).out.dwellTimer
          stuck :=
            if (s.chan i).state = .parked ∧ (block.getD 0 0).toNat = 0 then .idle
            else if (s.chan i).state = .off ∧ (block.getD 0 0).toNat ≠ 0 then
              (if (s.chan i).out.cs = true ∧ (s.chan i).out.raise = false ∧ (s.chan i).out.lower = false then
                (if (s.chan i).out.stuck = .idle then .timing (s.timebase + 100000) else (s.chan i).out.stuck)
              else .idle)
            else (s.chan i).out.stuck } ∧
      (t.chan i).gen = (s.chan i).gen ∧ (t.chan i).thermal = (s.chan i).thermal ∧
      (t.chan i).upperOpen = (s.chan i).upperOpen ∧ (t.chan i).lowerOpen = (s.chan i).lowerOpen ∧
      (t.chan i).position = (s.chan i).position ∧ (t.chan i).window = (s.chan i).window ∧
      (t.chan i).upper = (s.chan i).upper ∧ (t.chan i).lower = (s.chan i).lower ∧
      (t.chan i).pendingLimit = (s.chan i).pendingLimit ∧
      (t.chan i).load =
        (if (s.chan i).state = .parked ∧ (block.getD 0 0).toNat = 0 then
          { (s.chan i).load with overCount := 0, underCount := 0 } else (s.chan i).load) ∧
      KeepsAuthority (s.chan i) (t.chan i) ∧ (t.chan i).faults = (s.chan i).faults ∧
      (∀ j : Channel, j ≠ i → t.chan j = s.chan j) ∧ t.groups = s.groups ∧ KeepsPart (refreshLink c s) t

/-- SET_UPPER and SET_LOWER (R18, R19). -/
def Obligations.LimitWritesByPairs : Prop :=
  ∀ (c : Console) (i : Channel) (hi lo : Byte) (s : State), Ready c [] s →
    let u := refreshLink c s
    let v := 256 * hi.toNat + lo.toNat
    let p : List Byte := [BitVec.ofNat 8 i.val, hi, lo]
    let busy := (s.chan i).state.inMotion = true ∨ ∃ g : GroupId, (s.chan i).group = some g ∧ (s.grp g).state.inMove = true
    (¬HeldBy c s i →
      exec (.setUpper c p) s = .next (answered c 0x21 .notHolder (limitsEcho (s.chan i)) u) ∧
      exec (.setLower c p) s = .next (answered c 0x22 .notHolder (limitsEcho (s.chan i)) u)) ∧
    (HeldBy c s i → busy →
      exec (.setUpper c p) s = .next (answered c 0x21 .busy (limitsEcho (s.chan i)) u) ∧
      exec (.setLower c p) s = .next (answered c 0x22 .busy (limitsEcho (s.chan i)) u)) ∧
    (HeldBy c s i → ¬busy →
      exec (.setUpper c p) s = .next
        (match (s.chan i).pendingLimit with
         | some (.lower, y) =>
           if y + 20 ≤ v then
             let ch := { s.chan i with upper := v, lower := y, window := .valid, pendingLimit := none }
             answered c 0x21 .ok (limitsEcho ch) (u.setChan i ch)
           else answered c 0x21 .badWindow (limitsEcho (s.chan i)) u
         | _ =>
           let ch := { s.chan i with pendingLimit := some (.upper, v), window := .opened }
           answered c 0x21 .ok (limitsEcho ch) (u.setChan i ch)) ∧
      exec (.setLower c p) s = .next
        (match (s.chan i).pendingLimit with
         | some (.upper, x) =>
           if v + 20 ≤ x then
             let ch := { s.chan i with upper := x, lower := v, window := .valid, pendingLimit := none }
             answered c 0x22 .ok (limitsEcho ch) (u.setChan i ch)
           else answered c 0x22 .badWindow (limitsEcho (s.chan i)) u
         | _ =>
           let ch := { s.chan i with pendingLimit := some (.lower, v), window := .opened }
           answered c 0x22 .ok (limitsEcho ch) (u.setChan i ch)))

/-- SET_POSITION and SET_ENVELOPE of a held channel (R17, R51, R76). -/
def Obligations.PositionAndEnvelopeWrites : Prop :=
  ∀ (c : Console) (i : Channel) (a b d e : Byte) (s : State), Ready c [] s →
    let u := refreshLink c s
    let x := 256 * a.toNat + b.toNat
    let y := 256 * d.toNat + e.toNat
    let n := BitVec.ofNat 8 i.val
    let inMove := ∃ g : GroupId, (s.chan i).group = some g ∧ (s.grp g).state.inMove = true
    (¬HeldBy c s i → exec (.setPosition c [n, a, b]) s = .next (answered c 0x23 .notHolder (u16 (s.chan i).position) u)) ∧
    (HeldBy c s i → ((s.chan i).state ≠ .parked ∧ (s.chan i).state ≠ .faulted) ∨ inMove →
      exec (.setPosition c [n, a, b]) s = .next (answered c 0x23 .busy (u16 (s.chan i).position) u)) ∧
    (HeldBy c s i → (s.chan i).state = .parked ∨ (s.chan i).state = .faulted → ¬inMove →
      exec (.setPosition c [n, a, b]) s = .next
        (answered c 0x23 .ok [a, b]
          (u.setChan i { s.chan i with
            position := x, referenced := true, pos := { (s.chan i).pos with bound := .none } }))) ∧
    (¬HeldBy c s i →
      exec (.setEnvelope c [n, a, b, d, e]) s =
        .next (answered c 0x24 .notHolder (u16 (s.chan i).envMin ++ u16 (s.chan i).envMax) u)) ∧
    (HeldBy c s i →
      ∃ t, exec (.setEnvelope c [n, a, b, d, e]) s =
          .next (answered c 0x24 .ok (u16 (t.chan i).envMin ++ u16 (t.chan i).envMax) t) ∧
        t = u.setChan i { s.chan i with
          envMax := max 1 (min ((s.chan i).cfg.ratedLoad * 5 / 4) y)
          envMin := min (max 1 (min ((s.chan i).cfg.ratedLoad * 5 / 4) y) - 1) x })

/-- SET_LOAD_INPUT, with an input or with none, and SET_LOAD_CAL (R64, R65, R68, R72): NOT_HOLDER, BUSY while the channel's group
is in a move, BAD_VALUE for an input of another channel or outside the range, and what each stores where it is taken. The
conversion in progress is marked where it reads the old or the new input, and the scanner is otherwise as it was. -/
def Obligations.LoadInputAndCalibrationWrites : Prop :=
  ∀ (c : Console) (i : Channel) (new : Option LoadInput) (a b d e : Byte) (s : State), Ready c [] s →
    let u := refreshLink c s
    let n := BitVec.ofNat 8 i.val
    let code : Byte := match new with
      | none => 0xFF
      | some k => BitVec.ofNat 8 k.val
    let inMove := ∃ g : GroupId, (s.chan i).group = some g ∧ (s.grp g).state.inMove = true
    let elsewhere := new ≠ none ∧ ∃ j : Channel, j ≠ i ∧ (s.chan j).load.input = new
    let calEcho := u16 (s.chan i).load.zero ++ u16 (s.chan i).load.gain
    (¬HeldBy c s i →
      exec (.setLoadInput c [n, code]) s = .next (answered c 0x25 .notHolder (inputEcho (s.chan i)) u) ∧
      exec (.setLoadCal c [n, a, b, d, e]) s = .next (answered c 0x26 .notHolder calEcho u)) ∧
    (HeldBy c s i → inMove →
      exec (.setLoadInput c [n, code]) s = .next (answered c 0x25 .busy (inputEcho (s.chan i)) u) ∧
      exec (.setLoadCal c [n, a, b, d, e]) s = .next (answered c 0x26 .busy calEcho u)) ∧
    (HeldBy c s i → ¬inMove → elsewhere →
      exec (.setLoadInput c [n, code]) s = .next (answered c 0x25 .badValue (inputEcho (s.chan i)) u)) ∧
    (8 ≤ a.toNat → a ≠ 0xFF → exec (.setLoadInput c [n, a]) s = .next (answered c 0x25 .badValue [] u)) ∧
    (HeldBy c s i → ¬inMove → ¬elsewhere → (s.chan i).load.input = new →
      exec (.setLoadInput c [n, code]) s = .next (answered c 0x25 .ok (inputEcho (s.chan i)) u)) ∧
    (HeldBy c s i → ¬inMove → ¬elsewhere → (s.chan i).load.input ≠ new →
      ∃ t, exec (.setLoadInput c [n, code]) s =
          .next (answered c 0x25 .ok [code, match new with | none => 0 | some _ => 1] t) ∧
        (t.chan i).load =
          { (s.chan i).load with
            input := new, ring := [], filtered := 0, raw := none, overCount := 0, underCount := 0
            status := match new with | none => .none | some _ => .unknown } ∧
        t.scanner = (s.scanner.map fun v =>
          if new = some v.input ∨ (s.chan i).load.input = some v.input then { v with discard := true } else v) ∧
        t.chan i = { s.chan i with load := (t.chan i).load } ∧ (∀ j : Channel, j ≠ i → t.chan j = s.chan j) ∧
        t.groups = s.groups ∧ t.notices = u.notices ∧ KeepsPart u { t with scanner := s.scanner }) ∧
    (HeldBy c s i → ¬inMove →
      ∃ t, exec (.setLoadCal c [n, a, b, d, e]) s =
          .next (answered c 0x26 .ok (u16 (t.chan i).load.zero ++ u16 (t.chan i).load.gain) t) ∧
        (t.chan i).load.zero = max 1 (min 4094 (256 * a.toNat + b.toNat)) ∧
        (t.chan i).load.gain = max 1 (min 1023 (256 * d.toNat + e.toNat)) ∧
        (t.chan i).load.ring = [] ∧ (t.chan i).load.filtered = 0 ∧ (t.chan i).load.overCount = 0 ∧
        (t.chan i).load.underCount = 0 ∧ (t.chan i).load.raw = (s.chan i).load.raw ∧
        (t.chan i).load.input = (s.chan i).load.input ∧
        (t.chan i).load.status =
          (match (s.chan i).load.input with
           | none => .none
           | some k =>
             if inSet s.settings.enable k = true ∧
                 ((s.chan i).load.raw = some 0 ∨ (s.chan i).load.raw = some 4095) then .fault
             else .unknown) ∧
        t.chan i = { s.chan i with load := (t.chan i).load } ∧ (∀ j : Channel, j ≠ i → t.chan j = s.chan j) ∧
        t.groups = s.groups ∧ t.notices = u.notices ∧ KeepsPart u t)

/-- CLEAR_FAULTS (R12, R57): refused whole on a channel of the other console; otherwise a FAULTED channel whose brake-set
confirmation runs is unchanged, and on any other the kinds without a cause present go, the slip accumulator is cleared, and a
FAULTED channel with no kind left is PARKED with its dwell started. No console group changes, and the pendant group leaves
TRIPPED where an entry to PARKED finds PENB inactive and every member PARKED (R100). That a confirmation holds the clear off on
a FAULTED channel alone is the model's reading (log entry 23). Stated where no channel of the set is in a group in a move, in
the states of `TimerLaw`, which every step keeps. -/
def Obligations.ClearFaultsParks : Prop :=
  ∀ (c : Console) (b : Byte) (s : State), Ready c [b] s → EveryChan TimerLaw s →
    (¬(∀ i : Channel, inSet b i = true → (s.chan i).holder ≠ .console c.other) →
      exec (.clearFaults c [b]) s = .next (answered c 0x27 .notHolder [] (refreshLink c s))) ∧
    ((∀ i : Channel, inSet b i = true → (s.chan i).holder ≠ .console c.other) →
      (∀ i : Channel, inSet b i = true → ∀ g : GroupId, (s.chan i).group = some g → (s.grp g).state.inMove = false) →
      ∃ t, exec (.clearFaults c [b]) s = .next
          (answered c 0x27
            (if ∃ i : Channel, inSet b i = true ∧ (t.chan i).state = .faulted then .causePresent else .ok) [] t) ∧
        (∀ i : Channel,
          (inSet b i = true → (s.chan i).out.confirmTimer ≠ none → (s.chan i).state = .faulted →
            (t.chan i).state = (s.chan i).state ∧ (t.chan i).faults = (s.chan i).faults ∧
            (t.chan i).pos.slip = (s.chan i).pos.slip) ∧
          (inSet b i = true → (s.chan i).out.confirmTimer = none ∨ (s.chan i).state ≠ .faulted →
            (∀ k : Fin 11, (t.chan i).faults.getLsbD k.val =
              ((s.chan i).faults.getLsbD k.val &&
                ((k.val == 4 && (s.chan i).out.cs && !(s.chan i).out.raise && !(s.chan i).out.lower) ||
                 (k.val == 7 && decide ((s.chan i).load.status = .valid) &&
                   decide ((s.chan i).envMax < (s.chan i).load.filtered)) ||
                 (k.val == 9 && (s.chan i).load.input.any (inSet s.settings.enable) &&
                   (s.chan i).load.raw.any fun r => r == 0 || r == 4095)))) ∧
            (t.chan i).pos.slip = 0 ∧ (t.chan i).pos.slipStopped = false ∧
            (t.chan i).state =
              (if (s.chan i).state = .faulted ∧ (t.chan i).faults = 0 then .parked else (s.chan i).state) ∧
            ((s.chan i).state = .faulted → (t.chan i).faults = 0 →
              (t.chan i).out.dwellTimer = startMs s.timebase (s.chan i).cfg.dwell ∧
              (t.chan i).lastDir = (s.chan i).lastDir)) ∧
          (inSet b i = false → (t.chan i).state = (s.chan i).state ∧ (t.chan i).faults = (s.chan i).faults) ∧
          (inSet b i = false ∨ ((s.chan i).out.confirmTimer ≠ none ∧ (s.chan i).state = .faulted) →
            t.chan i = { s.chan i with holder := (t.chan i).holder, group := (t.chan i).group }) ∧
          KeepsStored (s.chan i) (t.chan i) ∧ (t.chan i).position = (s.chan i).position) ∧
        (let leaves := (s.grp .pendant).state = .tripped ∧ s.arb.penb = false ∧
          (∃ i : Channel, inSet b i = true ∧ (s.chan i).group = some .pendant ∧ (s.chan i).state = .faulted ∧
            (t.chan i).state = .parked) ∧
          ∀ i : Channel, (s.chan i).group = some .pendant → (t.chan i).state = .parked
         (leaves →
          t.grp .pendant = { s.grp .pendant with state := .idle, trip := none, updateTimer := none } ∧
          PendantEvaluated s t) ∧
         (¬leaves →
          t.grp .pendant = s.grp .pendant ∧ ∀ i : Channel, KeepsAuthority (s.chan i) (t.chan i))) ∧
        (∀ n : ConsoleGroup, t.grp (.console n) = s.grp (.console n)) ∧ t.notices = (refreshLink c s).notices ∧
        t.stops = s.stops ∧ KeepsPart (refreshLink c s) t)

/-! ### Group requests -/

/-- SET_GROUP and DISBAND (R104, R105, R106, R124): SET_GROUP is refused whole by the first test of R104 that fails, and taken
where each passes: the members become exactly the set, the owner the requester and the windows the clamped ones; DISBAND
empties the group. A group number or an interval code outside its range is refused with BAD_VALUE. -/
def Obligations.SetGroupAndDisband : Prop :=
  ∀ (c : Console) (g : ConsoleGroup) (set n : Byte) (w : List Byte) (s : State), w.length = 20 → Ready c [] s →
    let u := refreshLink c s
    let k : GroupId := .console g
    let p := [BitVec.ofNat 8 g.val, set, n] ++ w
    (2 < n.toNat → exec (.setGroup c p) s = .next (answered c 0x30 .badValue [] u)) ∧
    (∀ b : Byte, 4 ≤ b.toNat →
      exec (.setGroup c ([b, set, n] ++ w)) s = .next (answered c 0x30 .badValue [] u) ∧
      exec (.disband c [b]) s = .next (answered c 0x31 .badValue [] u)) ∧
    (n.toNat ≤ 2 → ∀ r : Result, setGroupRefusal c g set s = some r →
      exec (.setGroup c p) s = .next (answered c 0x30 r (groupEcho k u) u)) ∧
    (n.toNat ≤ 2 → setGroupRefusal c g set s = none →
      ∃ t, exec (.setGroup c p) s = .next (answered c 0x30 .ok (groupEcho k t) t) ∧
        (∀ i : Channel, t.chan i = { s.chan i with
          group := if inSet set i = true then some k
            else if (s.chan i).group = some k then none else (s.chan i).group }) ∧
        (t.grp k).owner = .console c ∧ (t.grp k).interval = n.toNat ∧ (t.grp k).queue = (s.grp k).queue ∧
        (t.grp k).state = .idle ∧ (t.grp k).prof = State.resetProfile ∧
        (t.grp k).windows.trimOn = max 10 (min 200 (wordAt w 0)) ∧
        (t.grp k).windows.trimOff = min ((t.grp k).windows.trimOn - 5) (wordAt w 2) ∧
        (t.grp k).windows.holdLag = max 10 (min 500 (wordAt w 4)) ∧
        (t.grp k).windows.releaseLag = min ((t.grp k).windows.holdLag - 5) (wordAt w 6) ∧
        (t.grp k).windows.tripLag = max ((t.grp k).windows.holdLag + 20) (min 1000 (wordAt w 8)) ∧
        (t.grp k).windows.tripLead = max 20 (min 1000 (wordAt w 10)) ∧
        (t.grp k).windows.arriveBand = max 1 (min 20 (wordAt w 12)) ∧
        (t.grp k).windows.settleBand = max (t.grp k).windows.arriveBand (min 100 (wordAt w 14)) ∧
        (t.grp k).windows.holdTimeout = max 500 (min 10000 (wordAt w 16)) ∧
        (t.grp k).windows.shareTolerance = max 5 (min 100 (wordAt w 18)) ∧
        (∀ h : GroupId, h ≠ k → t.grp h = s.grp h) ∧ KeepsPart u t) ∧
    (¬OwnedBy c s g → exec (.disband c [BitVec.ofNat 8 g.val]) s = .next (answered c 0x31 .notOwner (ownerEcho k u) u)) ∧
    (OwnedBy c s g → (s.grp k).state.inMove = true →
      exec (.disband c [BitVec.ofNat 8 g.val]) s = .next (answered c 0x31 .busy (ownerEcho k u) u)) ∧
    (OwnedBy c s g → (s.grp k).state.inMove = false →
      ∃ t, exec (.disband c [BitVec.ofNat 8 g.val]) s = .next (answered c 0x31 .ok [0, 0] t) ∧
        t.grp k = { s.grp k with
          owner := .none, state := .idle, queue := [], trip := none, prof := State.resetProfile } ∧
        (∀ i : Channel, t.chan i = { s.chan i with
          group := if (s.chan i).group = some k then none else (s.chan i).group }) ∧
        (∀ h : GroupId, h ≠ k → t.grp h = s.grp h) ∧ TripoutLaw t ∧ KeepsPart u t)

/-- LOAD_CUE (R107, R184, R185) of a cue of 1..8 entries, taken and refused: BAD_FRAME for a length that is not that of its entry
count, BAD_VALUE for a group number, a follow value, an entry count or an entry channel outside its range and for a channel
named twice, then NOT_OWNER and QUEUE_FULL. The two bytes that these two refusals echo for values they never stored are free
(log entry 5): the statement names neither. -/
def Obligations.LoadCueAppends : Prop :=
  ∀ (c : Console) (g : ConsoleGroup) (entries : List (Channel × Byte × Byte)) (t1 t2 speed ramp : Byte) (follow : Follow)
      (block : List Byte) (s : State), Ready c block s →
    let u := refreshLink c s
    let k : GroupId := .console g
    let p : List Byte := [BitVec.ofNat 8 g.val, t1, t2, speed, ramp,
        match follow with | .stopAtEnd => 0 | .autoNext => 1, BitVec.ofNat 8 entries.length] ++
      entries.flatMap fun x => [BitVec.ofNat 8 x.1.val, x.2.1, x.2.2]
    let q : Cue :=
      { tag := 256 * t1.toNat + t2.toNat, speed := max 1 (min 100 speed.toNat), ramp := max 2 (min 50 ramp.toNat)
        follow := follow, entries := entries.map fun x => (x.1, 256 * x.2.1.toNat + x.2.2.toNat) }
    let wellMade := 1 ≤ entries.length ∧ entries.length ≤ 8 ∧ (entries.map Prod.fst).Nodup
    (wellMade → OwnedBy c s g → (s.grp k).queue.length < 4 →
      exec (.loadCue c p) s = .next
        (answered c 0x32 .ok (u8 ((s.grp k).queue.length + 1) ++ u8 q.speed ++ u8 q.ramp)
          (u.setGrp k { s.grp k with queue := (s.grp k).queue ++ [q] }))) ∧
    (wellMade → OwnedBy c s g → 4 ≤ (s.grp k).queue.length →
      ∃ (y z : Byte) (n : Nat), exec (.loadCue c p) s = .next
        (answered c 0x32 .queueFull (u8 (s.grp k).queue.length ++ [y, z]) { u with freeCount := n })) ∧
    (wellMade → ¬OwnedBy c s g →
      ∃ (y z : Byte) (n : Nat), exec (.loadCue c p) s = .next
        (answered c 0x32 .notOwner (u8 (s.grp k).queue.length ++ [y, z]) { u with freeCount := n })) ∧
    (block.length < 7 ∨ block.length ≠ 7 + 3 * byteAt block 6 →
      exec (.loadCue c block) s = .next (answered c 0x32 .badFrame [] u)) ∧
    (7 ≤ block.length → block.length = 7 + 3 * byteAt block 6 →
      4 ≤ byteAt block 0 ∨ 2 ≤ byteAt block 5 ∨ byteAt block 6 = 0 ∨ 8 < byteAt block 6 ∨
        (∃ m : Nat, m < byteAt block 6 ∧ 8 ≤ byteAt block (7 + 3 * m)) ∨
        (∃ m : Nat, m < byteAt block 6 ∧ ∃ l : Nat, l < m ∧ byteAt block (7 + 3 * l) = byteAt block (7 + 3 * m)) →
      exec (.loadCue c block) s = .next (answered c 0x32 .badValue [] u))

/-- CLEAR_QUEUE by the group's state (R108). -/
def Obligations.ClearQueueByState : Prop :=
  ∀ (c : Console) (g : ConsoleGroup) (s : State), Ready c [] s →
    let u := refreshLink c s
    let k : GroupId := .console g
    let r := s.grp k
    (¬OwnedBy c s g →
      exec (.clearQueue c [BitVec.ofNat 8 g.val]) s = .next (answered c 0x33 .notOwner (u8 r.queue.length) u)) ∧
    (OwnedBy c s g → r.state = .starting ∨ r.state = .moving ∨ r.state = .holding ∨ r.state = .stopping →
      exec (.clearQueue c [BitVec.ofNat 8 g.val]) s = .next
        (answered c 0x33 .ok (u8 (r.queue.take 1).length) (u.setGrp k { r with queue := r.queue.take 1 }))) ∧
    (OwnedBy c s g → r.state = .idle ∨ r.state = .tripped →
      exec (.clearQueue c [BitVec.ofNat 8 g.val]) s = .next
        (answered c 0x33 .ok [0] (u.setGrp k { r with queue := [] }))) ∧
    (OwnedBy c s g → r.state = .paused →
      exec (.clearQueue c [BitVec.ofNat 8 g.val]) s = .next
        (answered c 0x33 .ok [0] (u.setGrp k { r with queue := [], state := .idle })))

/-- GO, addressed and by broadcast, on a set of console groups (R109, R110, R111, R113, R90): refused whole with NOT_OWNER where a
group of the set is not owned, and otherwise with the first failure in the order of groups and of the checks of R110, with the
number of that group; taken where each check passes, every group of the set then starting under its head cue, planned by R126
and R127, with a hold deadline, or completing at once where nothing moves; an empty set is answered OK and changes nothing. A
broadcast GO does the same without a response. That the lowest group not owned is the one named (log entry 17) and that an
auto-follow start at a completion comes in the same step (log entry 9) are the model's readings. -/
def Obligations.GoStartsTheHeadCue : Prop :=
  ∀ (c : Console) (b : Byte) (g : ConsoleGroup) (s : State), Ready c [b] s →
    let u := refreshLink c s
    let named := fun h : ConsoleGroup => b.getLsbD h.val = true
    let refused := fun r : Result =>
      exec (.go c .addressed [b]) s = .next (answered c 0x34 r [BitVec.ofNat 8 g.val] u) ∧
      exec (.go c .broadcast [b]) s = .next (u.setPort c .hunting)
    (16 ≤ b.toNat → exec (.go c .addressed [b]) s = .next (answered c 0x34 .badValue [] u) ∧
      exec (.go c .broadcast [b]) s = .next (u.setPort c .hunting)) ∧
    (b.toNat < 16 → named g → ¬OwnedBy c s g → (∀ h : ConsoleGroup, h < g → named h → OwnedBy c s h) → refused .notOwner) ∧
    (b.toNat < 16 → (∀ h : ConsoleGroup, named h → OwnedBy c s h) → named g →
      (∀ h : ConsoleGroup, h < g → named h → goFinds h s = none) → ∀ r : Result, goFinds g s = some r → refused r) ∧
    (b = 0 → exec (.go c .addressed [b]) s = .next (answered c 0x34 .ok [0xFF] u) ∧
      exec (.go c .broadcast [b]) s = .next (u.setPort c .hunting)) ∧
    (b.toNat < 16 → (∀ h : ConsoleGroup, named h → OwnedBy c s h ∧ goFinds h s = none) →
      ∃ t, exec (.go c .addressed [b]) s = .next (answered c 0x34 .ok [0xFF] t) ∧
        exec (.go c .broadcast [b]) s = .next (t.setPort c .hunting) ∧
        (∀ h : ConsoleGroup, named h → GoLeaves h s t (s.grp (.console h)).queue) ∧
        (∀ h : ConsoleGroup, ¬named h → t.grp (.console h) = s.grp (.console h)) ∧ t.grp .pendant = s.grp .pendant ∧
        (∀ i : Channel, (∀ h : ConsoleGroup, named h → (s.chan i).group ≠ some (.console h)) → t.chan i = s.chan i) ∧
        ((∀ h : ConsoleGroup, named h → (t.grp (.console h)).queue = (s.grp (.console h)).queue) →
          t.notices = u.notices) ∧
        KeepsRecords s t ∧ KeepsPart u t)

/-- HOLD, addressed and by broadcast (R90, R91). -/
def Obligations.HoldRenewsDeadlines : Prop :=
  ∀ (c : Console) (b : Byte) (s : State), Ready c [b] s → b.toNat < 16 →
    let u := refreshLink c s
    let owned := ∀ g : ConsoleGroup, b.getLsbD g.val = true → OwnedBy c s g
    let renewed := fun g : ConsoleGroup => b.getLsbD g.val && (s.grp (.console g)).state.stoppable
    (¬owned → exec (.hold c .addressed [b]) s = .next (answered c 0x35 .notOwner [0] u) ∧
      exec (.hold c .broadcast [b]) s = .next (u.setPort c .hunting)) ∧
    (owned → (∀ g : ConsoleGroup, renewed g = false) →
      exec (.hold c .addressed [b]) s = .next (answered c 0x35 .busy [0] u) ∧
      exec (.hold c .broadcast [b]) s = .next (u.setPort c .hunting)) ∧
    (owned → (∃ g : ConsoleGroup, renewed g = true) →
      ∃ (t : State) (r : Byte), exec (.hold c .addressed [b]) s = .next (answered c 0x35 .ok [r] t) ∧
        exec (.hold c .broadcast [b]) s = .next (t.setPort c .hunting) ∧
        (∀ n : Fin 8, r.getLsbD n.val = (if h : n.val < 4 then renewed ⟨n.val, h⟩ else false)) ∧
        (∀ g : ConsoleGroup, t.grp (.console g) =
          if renewed g = true then
            { s.grp (.console g) with deadline := startMs s.timebase s.settings.holdWindow } else s.grp (.console g)) ∧
        t.grp .pendant = s.grp .pendant ∧ t.chans = s.chans ∧ t.notices = u.notices ∧ KeepsPart u t)

/-- STOP, addressed and by broadcast, from either console (R115, R118): every group of the set that is STARTING, MOVING or
HOLDING leaves those states by a controlled stop and is named in the response; the other groups are as they were. That a FIXED
group in STOPPING shows phase STOPPING is the model's reading (log entry 27). -/
def Obligations.StopStopsTheSet : Prop :=
  ∀ (c : Console) (b : Byte) (s : State), Ready c [b] s → b.toNat < 16 →
    ∃ (t : State) (r : Byte), exec (.stop c .addressed [b]) s = .next (answered c 0x36 .ok [r] t) ∧
      exec (.stop c .broadcast [b]) s = .next (t.setPort c .hunting) ∧
      (∀ n : Fin 8, r.getLsbD n.val =
        (if h : n.val < 4 then b.getLsbD n.val && (s.grp (.console ⟨n.val, h⟩)).state.stoppable else false)) ∧
      (∀ g : ConsoleGroup,
        (b.getLsbD g.val = true → (s.grp (.console g)).state.stoppable = true →
          StopMade (.console g) s t) ∧
        (b.getLsbD g.val = false ∨ (s.grp (.console g)).state.stoppable = false →
          t.grp (.console g) = s.grp (.console g))) ∧
      t.grp .pendant = s.grp .pendant ∧
      (∀ i : Channel, (∀ g : ConsoleGroup, b.getLsbD g.val = true → (s.grp (.console g)).state.stoppable = true →
        (s.chan i).group ≠ some (.console g)) → t.chan i = s.chan i) ∧
      KeepsRecords s t ∧ KeepsPart (refreshLink c s) t

/-- JOG of a console group (R112, R113, R90): the refusals, in the rule's order, and a taken jog, planned by R143 and bounded by
the soft limits of its members (R20). The speed and ramp that a refusal echoes are those of the last jog taken, at reset a
value the model chose (log entry 4). -/
def Obligations.JogStartsTheGroup : Prop :=
  ∀ (c : Console) (g : ConsoleGroup) (d : Dir) (f ramp : Byte) (s : State), Ready c [] s →
    let u := refreshLink c s
    let k : GroupId := .console g
    let p : List Byte := [BitVec.ofNat 8 g.val, match d with | .up => 1 | .down => 2, f, ramp]
    let echo : List Byte := u8 (s.grp k).jogSpeed ++ u8 (s.grp k).jogRamp
    (¬OwnedBy c s g → exec (.jog c p) s = .next (answered c 0x37 .notOwner echo u)) ∧
    (OwnedBy c s g → (s.grp k).state ≠ .idle → exec (.jog c p) s = .next (answered c 0x37 .busy echo u)) ∧
    (OwnedBy c s g → (s.grp k).state = .idle → (∀ i : Channel, (s.chan i).group ≠ some k) →
      exec (.jog c p) s = .next (answered c 0x37 .badValue echo u)) ∧
    (∀ x y : Byte, 4 ≤ x.toNat ∨ (y ≠ 1 ∧ y ≠ 2) →
      exec (.jog c [x, y, f, ramp]) s = .next (answered c 0x37 .badValue [] u)) ∧
    (OwnedBy c s g → (s.grp k).state = .idle → (∃ i : Channel, (s.chan i).group = some k) →
      ∀ r : Result, jogRefusal k d s = some r → exec (.jog c p) s = .next (answered c 0x37 r echo u)) ∧
    (OwnedBy c s g → (s.grp k).state = .idle → (∃ i : Channel, (s.chan i).group = some k) → jogRefusal k d s = none →
      ∃ t, exec (.jog c p) s = .next
          (answered c 0x37 .ok (u8 (max 1 (min 100 f.toNat)) ++ u8 (max 2 (min 50 ramp.toNat))) t) ∧
        (t.grp k).state = .starting ∧ (t.grp k).moveKind = .jog ∧ (t.grp k).prof.dir = d ∧
        (t.grp k).queue = (s.grp k).queue ∧ (t.grp k).deadline = startMs s.timebase s.settings.holdWindow ∧
        (t.grp k).startTimer = some (s.timebase + 3000000) ∧
        (t.grp k).updateTimer = startMs s.timebase (intervalMs (s.grp k).interval) ∧
        (t.grp k).jogSpeed = max 1 (min 100 f.toNat) ∧ (t.grp k).jogRamp = max 2 (min 50 ramp.toNat) ∧
        (∀ fixed : Bool, MembersAre k fixed s →
          JogPlanned k d (max 1 (min 100 f.toNat)) (max 2 (min 50 ramp.toNat)) fixed s (t.grp k).prof) ∧
        t.notices = u.notices ∧
        (∀ i : Channel, (s.chan i).group = some k → (s.chan i).state = .parked →
          (t.chan i).state = .starting ∨ (t.chan i).startPending = some d) ∧
        (∀ i : Channel, (s.chan i).group ≠ some k → t.chan i = s.chan i) ∧ KeepsRecords s t ∧
        (∀ h : GroupId, h ≠ k → t.grp h = s.grp h) ∧ KeepsPart u t)

/-- RESET_GROUP (R121): the tests in their order, and the group's return to PAUSED or IDLE. -/
def Obligations.ResetGroupByItsTests : Prop :=
  ∀ (c : Console) (g : ConsoleGroup) (s : State), Ready c [] s →
    let u := refreshLink c s
    let k : GroupId := .console g
    let p : List Byte := [BitVec.ofNat 8 g.val]
    let cause := s.stops.estop ≠ .clear ∨ ∃ i : Channel, (s.chan i).group = some k ∧ (s.chan i).state = .faulted
    let moving := ∃ i : Channel, (s.chan i).group = some k ∧ (s.chan i).state.inMotion = true
    (¬OwnedBy c s g → exec (.resetGroup c p) s = .next (answered c 0x38 .notOwner [] u)) ∧
    (OwnedBy c s g → (s.grp k).state ≠ .tripped → exec (.resetGroup c p) s = .next (answered c 0x38 .busy [] u)) ∧
    (OwnedBy c s g → (s.grp k).state = .tripped → cause →
      exec (.resetGroup c p) s = .next (answered c 0x38 .causePresent [] u)) ∧
    (OwnedBy c s g → (s.grp k).state = .tripped → ¬cause → moving →
      exec (.resetGroup c p) s = .next (answered c 0x38 .busy [] u)) ∧
    (OwnedBy c s g → (s.grp k).state = .tripped → ¬cause → ¬moving →
      ∃ t, exec (.resetGroup c p) s = .next (answered c 0x38 .ok [] t) ∧
        t.grp k = { s.grp k with trip := none, state := if (s.grp k).queue = [] then .idle else .paused } ∧
        (∀ h : GroupId, h ≠ k → t.grp h = s.grp h) ∧ t.chans = s.chans ∧ t.notices = u.notices ∧ TripoutLaw t ∧
        KeepsPart u t)

/-! ### Part requests -/

/-- POWER_ON and POWER_OFF by the supply state (R42, R43); a frame whose value is neither makes no command and is refused. -/
def Obligations.PowerByTheTable : Prop :=
  ∀ (c : Console) (s : State), Ready c [] s →
    let u := refreshLink c s
    let echo : List Byte := [BitVec.ofNat 8 (supplyCode s.supply.state)]
    let moving := ∃ i : Channel, (s.chan i).state.inMotion = true
    (s.stops.monitor = .low → exec (.powerOn c) s = .next (answered c 0x40 .stopActive echo u)) ∧
    (s.stops.monitor ≠ .low → s.supply.state ≠ .off → s.supply.state ≠ .failed →
      exec (.powerOn c) s = .next (answered c 0x40 .ok echo u)) ∧
    (s.stops.monitor ≠ .low → s.supply.state = .off ∨ s.supply.state = .failed → s.supply.mainsfb = false →
      exec (.powerOn c) s = .next (answered c 0x40 .ok [1]
        ({ u with supply := { s.supply with
            state := .closing, mains := true, closingTimer := some (s.timebase + 500000)
            settlingTimer := none } }.raise .supply))) ∧
    (s.stops.monitor ≠ .low → s.supply.state = .off ∨ s.supply.state = .failed → s.supply.mainsfb = true →
      ∃ t, exec (.powerOn c) s = .next (answered c 0x40 .ok [2] t) ∧
        t.supply = { s.supply with
          state := .settling, mains := true, closingTimer := none, settlingTimer := some (s.timebase + 1500000) } ∧
        PendingBoth .supply t ∧ t.chans = s.chans ∧ t.groups = s.groups ∧
        KeepsPart u { t with supply := s.supply }) ∧
    (moving → exec (.powerOff c) s = .next (answered c 0x40 .busy echo u)) ∧
    (¬moving → s.supply.state = .off → exec (.powerOff c) s = .next (answered c 0x40 .ok [0] u)) ∧
    (¬moving → s.supply.state ≠ .off →
      exec (.powerOff c) s = .next (answered c 0x40 .ok [0]
        ({ u with supply := { s.supply with
            state := .off, mains := false, closingTimer := none, settlingTimer := none } }.raise .supply))) ∧
    (∀ v : Byte, 1 < v.toNat →
      takeAddressed c 0x40 (requestOf c 0x40 [v]) s = answered c 0x40 .badValue [] u)

/-- RESET_ESTOP by the E-stop state (R153). -/
def Obligations.ResetEstopByState : Prop :=
  ∀ (c : Console) (s : State), Ready c [] s →
    let u := refreshLink c s
    let cause : Byte := BitVec.ofNat 8 (estopCauseCode s.stops.cause)
    (s.stops.estop = .active →
      exec (.resetEstop c []) s = .next (answered c 0x41 .causePresent [1, cause] u)) ∧
    (s.stops.estop = .clear → exec (.resetEstop c []) s = .next (answered c 0x41 .ok [0, cause] u)) ∧
    (s.stops.estop = .latched →
      ∃ t, exec (.resetEstop c []) s = .next (answered c 0x41 .ok [0, cause] t) ∧
        t.stops = { s.stops with estop := .clear, tripout := t.stops.tripout } ∧ TripoutLaw t ∧
        PendingBoth .estop t ∧ t.chans = s.chans ∧ t.groups = s.groups ∧ KeepsPart u { t with stops := s.stops }) ∧
    exec (.ignoredBroadcast c 0x41 []) s = .next (u.setPort c .hunting)

/-- SET_MASK and ACK_NOTICES (R180, R181, R183, R184): the mask is replaced or the named kinds leave the pending set, of the
requesting console alone, its line is set again, and a set with a member outside the 53 kinds is refused. -/
def Obligations.MaskAndAcknowledge : Prop :=
  ∀ (c : Console) (m : NoticeSet) (p : List Byte) (s : State), Ready c p s → p.length = 7 →
    let u := refreshLink c s
    let box := fun (pending mask : NoticeSet) =>
      ({ pending := pending, mask := mask, atn := decide (pending &&& mask ≠ 0) } : NoticeBox)
    ((∀ k : Fin 7, p.getD k.val 0 = BitVec.ofNat 8 (m.toNat / 256 ^ k.val)) →
      exec (.setMask c p) s = .next (answered c 0x42 .ok p (u.setBox c (box (u.box c).pending m))) ∧
      ∃ q : List Byte, q.length = 7 ∧
        (∀ k : Fin 7, q.getD k.val 0 = BitVec.ofNat 8 (((s.box c).pending &&& ~~~m).toNat / 256 ^ k.val)) ∧
        exec (.ackNotices c p) s = .next
          (answered c 0x43 .ok q (u.setBox c (box ((s.box c).pending &&& ~~~m) (s.box c).mask)))) ∧
    (32 ≤ (p.getD 6 0).toNat →
      exec (.setMask c p) s = .next (answered c 0x42 .badValue [] u) ∧
      exec (.ackNotices c p) s = .next (answered c 0x43 .badValue [] u)) ∧
    exec (.ignoredBroadcast c 0x42 p) s = .next (u.setPort c .hunting) ∧
    exec (.ignoredBroadcast c 0x43 p) s = .next (u.setPort c .hunting)

/-- SET_PART (R66, R157, R162, R176): the six settings are stored at one moment, clamped; TRIPOUT follows the new mask, the
monitor compares with the new threshold at once, and a changed enable set marks the conversion in progress and empties the
channels whose input it changes. That the monitor compares the level of VCTL it last saw, kept in millivolts, is the model's
choice (log entry 15). -/
def Obligations.SetPartStores : Prop :=
  ∀ (c : Console) (level mask a b d e speed enable : Byte) (s : State), Ready c [] s →
    let u := refreshLink c s
    let p : List Byte := [level, mask, a, b, d, e, speed, enable]
    let threshold := 18000 + 500 * min 15 level.toNat
    (32 ≤ mask.toNat → exec (.setPart c p) s = .next (answered c 0x44 .badValue [] u)) ∧
    (mask.toNat < 32 →
      ∃ t, exec (.setPart c p) s = .next (answered c 0x44 .ok (settingsBytes t.settings) t) ∧
        t.settings =
          { level := min 15 level.toNat, mask := BitVec.ofNat 5 mask.toNat
            linkTimeout := max 100 (min 2000 (256 * a.toNat + b.toNat))
            holdWindow := max 100 (min 1000 (256 * d.toNat + e.toNat))
            pendantSpeed := max 1 (min 100 speed.toNat), enable := enable } ∧
        TripoutLaw t ∧ t.groups = s.groups ∧
        KeepsPart u { t with settings := s.settings, scanner := s.scanner, stops := s.stops } ∧
        t.stops = { s.stops with
          tripout := t.stops.tripout
          monitor := match s.stops.monitor with
            | .normal => if s.stops.vctl < threshold then .dip else .normal
            | .dip => if threshold ≤ s.stops.vctl then .normal else .dip
            | .low => if threshold + 500 < s.stops.vctl then .normal else .low
          lowTimer := match s.stops.monitor with
            | .normal => if s.stops.vctl < threshold then some (s.timebase + 10000) else s.stops.lowTimer
            | .dip => if threshold ≤ s.stops.vctl then none else s.stops.lowTimer
            | .low => if threshold + 500 < s.stops.vctl then none else s.stops.lowTimer } ∧
        (enable = s.settings.enable → t.chans = s.chans ∧ t.scanner = s.scanner) ∧
        (enable ≠ s.settings.enable →
          (∀ v : Conversion, s.scanner = some v → t.scanner = some { v with discard := true }) ∧
          (s.scanner = none → t.scanner = (channels.find? (inSet enable)).map fun k =>
            { input := k, start := s.timebase, discard := false }) ∧
          (∀ i : Channel, (s.chan i).load.input = none → t.chan i = s.chan i) ∧
          (∀ (i : Channel) (k : LoadInput), (s.chan i).load.input = some k →
            (inSet enable k = inSet s.settings.enable k → t.chan i = s.chan i) ∧
            (inSet enable k ≠ inSet s.settings.enable k →
              t.chan i = { s.chan i with
                load := { (s.chan i).load with
                  ring := [], filtered := 0, raw := none, overCount := 0, underCount := 0, status := .unknown } }))))

/-- RESTART (R101, R102, R124, R177, R178): refused with BUSY while a group is in a move or the pendant group is not IDLE;
taken, every holder and owner is NONE, queues and trip records are gone, both notice sets and masks are empty, the rest of the
channel records is kept, and then a present pendant takes the channels whose switches are closed by the evaluation of R95. -/
def Obligations.RestartClearsSelections : Prop :=
  ∀ (c : Console) (s : State), Ready c [] s →
    let u := refreshLink c s
    let busy := (∃ g : ConsoleGroup, (s.grp (.console g)).state.inMove = true) ∨ (s.grp .pendant).state ≠ .idle
    (busy → exec (.restart c []) s = .next (answered c 0x45 .busy [] u)) ∧
    (¬busy →
      ∃ t, exec (.restart c []) s = .next (answered c 0x45 .ok [] t) ∧
        (∀ g : ConsoleGroup, t.grp (.console g) =
          { s.grp (.console g) with
            owner := .none, queue := [], trip := none, state := .idle, prof := State.resetProfile }) ∧
        t.grp .pendant = { s.grp .pendant with prof := State.resetProfile } ∧
        t.notices = ⟨{ pending := 0, mask := 0, atn := false }, { pending := 0, mask := 0, atn := false }⟩ ∧
        TripoutLaw t ∧ t.arb = u.arb ∧ t.settings = s.settings ∧ t.supply = s.supply ∧
        t.stops = { s.stops with tripout := t.stops.tripout } ∧ t.scanner = s.scanner ∧ t.station = s.station ∧
        t.timebase = s.timebase ∧ t.pending = s.pending ∧
        (∀ i : Channel, t.chan i = { s.chan i with holder := (t.chan i).holder, group := (t.chan i).group }) ∧
        PendantEvaluated
          { s with chans := s.chans.mapIdx fun _ c => { c with holder := .none, group := none } } t ∧
        (s.arb.ppres = false → ∀ i : Channel, (t.chan i).holder = .none ∧ (t.chan i).group = none) ∧
        (s.arb.ppres = true → ∀ i : Channel, inSet s.arb.psel i = false ∨ (s.chan i).state = .off →
          (t.chan i).holder = .none ∧ (t.chan i).group = none))

/-! ### The laws that every step keeps -/

/-- The line laws of R25 and the duty law of R39, with the timers of the start and stop sequences that they rest on, hold after
every step from a state in which they hold; so does the law of the stuck-contactor watch (R34) and of the armed slip check
(R55). -/
def Obligations.EveryStepKeepsLineLaws : Prop :=
  ∀ (s t : State),
    (EveryChan LineLaw s → EveryChan TimerLaw s → EveryChan DutyLaw s → step s = .next t →
      EveryChan LineLaw t ∧ EveryChan TimerLaw t ∧ EveryChan DutyLaw t) ∧
    (EveryChan WatchLaw s → step s = .next t → EveryChan WatchLaw t)

/-- A channel is STARTING or RUNNING only while the E-stop is CLEAR, control low does not hold and the drive supply is ON:
every step keeps it (R4, R42, R44, R151, R154, R158), and the supply's line and timers, the low timer and the link timers
stand as their states require (R41 to R45, R84, R157). -/
def Obligations.EveryStepKeepsMotionAndSupplyLaws : Prop :=
  ∀ (s t : State), MotionLaw s → SupplyLaw s → MonitorLinkLaw s → step s = .next t →
    MotionLaw t ∧ SupplyLaw t ∧ MonitorLinkLaw t

/-- Each attention line is asserted exactly while its console's pending set and mask share a kind (R183), and TRIPOUT exactly
under the conditions of R161: every step keeps both. -/
def Obligations.EveryStepKeepsOutputLaws : Prop :=
  ∀ (s t : State), AttentionLaw s → TripoutLaw s → step s = .next t → AttentionLaw t ∧ TripoutLaw t

/-- Every member of a group is held by that group's owner, and the members are of one kind (R80, R103); no load
input is assigned to two channels (R64): every step keeps both. -/
def Obligations.EveryStepKeepsAuthorityLaws : Prop :=
  ∀ (s t : State), AuthorityLaw s → InputLaw s → step s = .next t → AuthorityLaw t ∧ InputLaw t

/-- The timers, the trip record, the deadline and the queue of every group stand as its state requires (R90, R92, R107, R113,
R119, R122, R124): every step keeps it; and every step keeps each group's progress within 0..65536 (R129). -/
def Obligations.EveryStepKeepsGroupLaw : Prop :=
  ∀ (s t : State),
    (GroupLaw s → step s = .next t → GroupLaw t) ∧ (ProgressLaw s → step s = .next t → ProgressLaw t)

/-- The fault set, the limit pair, the position, the envelope and the load items of every channel stay lawful (R2, R10, R12,
R18, R19, R46, R51, R63, R73, R74, R76): every step keeps it. -/
def Obligations.EveryStepKeepsRecordLaws : Prop :=
  ∀ (s t : State), EveryChan FaultLaw s → EveryChan WindowLaw s → EveryChan PositionLaw s → EveryChan EnvelopeLaw s →
    EveryChan (LoadLaw s.settings.enable) s → step s = .next t →
    EveryChan FaultLaw t ∧ EveryChan WindowLaw t ∧ EveryChan PositionLaw t ∧ EveryChan EnvelopeLaw t ∧
    EveryChan (LoadLaw t.settings.enable) t

/-- The state after reset satisfies every law of the invariants above. The levels of the lines in it are the model's choice
(log entry 2); no law reads them. That the pendant group shows move kind JOG in it is the model's reading (log entry 12). -/
def Obligations.ResetSatisfiesTheLaws : Prop :=
  EveryChan LineLaw State.reset ∧ EveryChan TimerLaw State.reset ∧ EveryChan DutyLaw State.reset ∧
  EveryChan WindowLaw State.reset ∧ EveryChan PositionLaw State.reset ∧ EveryChan EnvelopeLaw State.reset ∧
  EveryChan (LoadLaw State.reset.settings.enable) State.reset ∧ MotionLaw State.reset ∧ AttentionLaw State.reset ∧
  TripoutLaw State.reset ∧ AuthorityLaw State.reset ∧ GroupLaw State.reset ∧ EveryChan FaultLaw State.reset ∧
  SupplyLaw State.reset ∧ MonitorLinkLaw State.reset ∧ InputLaw State.reset ∧ EveryChan WatchLaw State.reset ∧
  ProgressLaw State.reset
end

