-- ==== Sys2Proof/Laws/State.lean ====
section
/-! SUPPORT. One lemma per field per update of the state, so that no later proof unfolds a record update. -/

namespace Sys2Proof.Machine

variable (s : State)

/-! ### A change of one record is a replacement by the changed record -/

@[simp] theorem State.modChan_eq (i : Channel) (f : Chan → Chan) : s.modChan i f = s.setChan i (f (s.chan i)) := rfl
@[simp] theorem State.modGrp_eq (g : GroupId) (f : Group → Group) : s.modGrp g f = s.setGrp g (f (s.grp g)) := rfl

/-! ### setChan -/

@[simp] theorem State.setChan_groups (i : Channel) (c : Chan) : (s.setChan i c).groups = s.groups := rfl
@[simp] theorem State.setChan_supply (i : Channel) (c : Chan) : (s.setChan i c).supply = s.supply := rfl
@[simp] theorem State.setChan_scanner (i : Channel) (c : Chan) : (s.setChan i c).scanner = s.scanner := rfl
@[simp] theorem State.setChan_arb (i : Channel) (c : Chan) : (s.setChan i c).arb = s.arb := rfl
@[simp] theorem State.setChan_stops (i : Channel) (c : Chan) : (s.setChan i c).stops = s.stops := rfl
@[simp] theorem State.setChan_settings (i : Channel) (c : Chan) : (s.setChan i c).settings = s.settings := rfl
@[simp] theorem State.setChan_notices (i : Channel) (c : Chan) : (s.setChan i c).notices = s.notices := rfl
@[simp] theorem State.setChan_ports (i : Channel) (c : Chan) : (s.setChan i c).ports = s.ports := rfl
@[simp] theorem State.setChan_station (i : Channel) (c : Chan) : (s.setChan i c).station = s.station := rfl
@[simp] theorem State.setChan_timebase (i : Channel) (c : Chan) : (s.setChan i c).timebase = s.timebase := rfl
@[simp] theorem State.setChan_flash (i : Channel) (c : Chan) : (s.setChan i c).flash = s.flash := rfl
@[simp] theorem State.setChan_freeCount (i : Channel) (c : Chan) : (s.setChan i c).freeCount = s.freeCount := rfl
@[simp] theorem State.setChan_pending (i : Channel) (c : Chan) : (s.setChan i c).pending = s.pending := rfl
@[simp] theorem State.setChan_grp (i : Channel) (c : Chan) (h : GroupId) : (s.setChan i c).grp h = s.grp h := rfl
@[simp] theorem State.setChan_port (i : Channel) (c : Chan) (d : Console) : (s.setChan i c).port d = s.port d := rfl
@[simp] theorem State.setChan_link (i : Channel) (c : Chan) (d : Console) : (s.setChan i c).link d = s.link d := rfl
@[simp] theorem State.setChan_box (i : Channel) (c : Chan) (d : Console) : (s.setChan i c).box d = s.box d := rfl

/-! ### setGrp -/

@[simp] theorem State.setGrp_chans (g : GroupId) (r : Group) : (s.setGrp g r).chans = s.chans := rfl
@[simp] theorem State.setGrp_supply (g : GroupId) (r : Group) : (s.setGrp g r).supply = s.supply := rfl
@[simp] theorem State.setGrp_scanner (g : GroupId) (r : Group) : (s.setGrp g r).scanner = s.scanner := rfl
@[simp] theorem State.setGrp_arb (g : GroupId) (r : Group) : (s.setGrp g r).arb = s.arb := rfl
@[simp] theorem State.setGrp_stops (g : GroupId) (r : Group) : (s.setGrp g r).stops = s.stops := rfl
@[simp] theorem State.setGrp_settings (g : GroupId) (r : Group) : (s.setGrp g r).settings = s.settings := rfl
@[simp] theorem State.setGrp_notices (g : GroupId) (r : Group) : (s.setGrp g r).notices = s.notices := rfl
@[simp] theorem State.setGrp_ports (g : GroupId) (r : Group) : (s.setGrp g r).ports = s.ports := rfl
@[simp] theorem State.setGrp_station (g : GroupId) (r : Group) : (s.setGrp g r).station = s.station := rfl
@[simp] theorem State.setGrp_timebase (g : GroupId) (r : Group) : (s.setGrp g r).timebase = s.timebase := rfl
@[simp] theorem State.setGrp_flash (g : GroupId) (r : Group) : (s.setGrp g r).flash = s.flash := rfl
@[simp] theorem State.setGrp_freeCount (g : GroupId) (r : Group) : (s.setGrp g r).freeCount = s.freeCount := rfl
@[simp] theorem State.setGrp_pending (g : GroupId) (r : Group) : (s.setGrp g r).pending = s.pending := rfl
@[simp] theorem State.setGrp_chan (g : GroupId) (r : Group) (j : Channel) : (s.setGrp g r).chan j = s.chan j := rfl
@[simp] theorem State.setGrp_port (g : GroupId) (r : Group) (d : Console) : (s.setGrp g r).port d = s.port d := rfl
@[simp] theorem State.setGrp_link (g : GroupId) (r : Group) (d : Console) : (s.setGrp g r).link d = s.link d := rfl
@[simp] theorem State.setGrp_box (g : GroupId) (r : Group) (d : Console) : (s.setGrp g r).box d = s.box d := rfl

/-! ### setPort -/

@[simp] theorem State.setPort_chans (c : Console) (r : Receiver) : (s.setPort c r).chans = s.chans := rfl
@[simp] theorem State.setPort_groups (c : Console) (r : Receiver) : (s.setPort c r).groups = s.groups := rfl
@[simp] theorem State.setPort_supply (c : Console) (r : Receiver) : (s.setPort c r).supply = s.supply := rfl
@[simp] theorem State.setPort_scanner (c : Console) (r : Receiver) : (s.setPort c r).scanner = s.scanner := rfl
@[simp] theorem State.setPort_arb (c : Console) (r : Receiver) : (s.setPort c r).arb = s.arb := rfl
@[simp] theorem State.setPort_stops (c : Console) (r : Receiver) : (s.setPort c r).stops = s.stops := rfl
@[simp] theorem State.setPort_settings (c : Console) (r : Receiver) : (s.setPort c r).settings = s.settings := rfl
@[simp] theorem State.setPort_notices (c : Console) (r : Receiver) : (s.setPort c r).notices = s.notices := rfl
@[simp] theorem State.setPort_station (c : Console) (r : Receiver) : (s.setPort c r).station = s.station := rfl
@[simp] theorem State.setPort_timebase (c : Console) (r : Receiver) : (s.setPort c r).timebase = s.timebase := rfl
@[simp] theorem State.setPort_flash (c : Console) (r : Receiver) : (s.setPort c r).flash = s.flash := rfl
@[simp] theorem State.setPort_freeCount (c : Console) (r : Receiver) : (s.setPort c r).freeCount = s.freeCount := rfl
@[simp] theorem State.setPort_pending (c : Console) (r : Receiver) : (s.setPort c r).pending = s.pending := rfl
@[simp] theorem State.setPort_chan (c : Console) (r : Receiver) (j : Channel) : (s.setPort c r).chan j = s.chan j := rfl
@[simp] theorem State.setPort_grp (c : Console) (r : Receiver) (h : GroupId) : (s.setPort c r).grp h = s.grp h := rfl
@[simp] theorem State.setPort_link (c : Console) (r : Receiver) (d : Console) : (s.setPort c r).link d = s.link d := rfl
@[simp] theorem State.setPort_box (c : Console) (r : Receiver) (d : Console) : (s.setPort c r).box d = s.box d := rfl

/-! ### setLink -/

@[simp] theorem State.setLink_chans (c : Console) (l : Link) : (s.setLink c l).chans = s.chans := rfl
@[simp] theorem State.setLink_groups (c : Console) (l : Link) : (s.setLink c l).groups = s.groups := rfl
@[simp] theorem State.setLink_supply (c : Console) (l : Link) : (s.setLink c l).supply = s.supply := rfl
@[simp] theorem State.setLink_scanner (c : Console) (l : Link) : (s.setLink c l).scanner = s.scanner := rfl
@[simp] theorem State.setLink_stops (c : Console) (l : Link) : (s.setLink c l).stops = s.stops := rfl
@[simp] theorem State.setLink_settings (c : Console) (l : Link) : (s.setLink c l).settings = s.settings := rfl
@[simp] theorem State.setLink_notices (c : Console) (l : Link) : (s.setLink c l).notices = s.notices := rfl
@[simp] theorem State.setLink_ports (c : Console) (l : Link) : (s.setLink c l).ports = s.ports := rfl
@[simp] theorem State.setLink_station (c : Console) (l : Link) : (s.setLink c l).station = s.station := rfl
@[simp] theorem State.setLink_timebase (c : Console) (l : Link) : (s.setLink c l).timebase = s.timebase := rfl
@[simp] theorem State.setLink_flash (c : Console) (l : Link) : (s.setLink c l).flash = s.flash := rfl
@[simp] theorem State.setLink_freeCount (c : Console) (l : Link) : (s.setLink c l).freeCount = s.freeCount := rfl
@[simp] theorem State.setLink_pending (c : Console) (l : Link) : (s.setLink c l).pending = s.pending := rfl
@[simp] theorem State.setLink_chan (c : Console) (l : Link) (j : Channel) : (s.setLink c l).chan j = s.chan j := rfl
@[simp] theorem State.setLink_grp (c : Console) (l : Link) (h : GroupId) : (s.setLink c l).grp h = s.grp h := rfl
@[simp] theorem State.setLink_port (c : Console) (l : Link) (d : Console) : (s.setLink c l).port d = s.port d := rfl
@[simp] theorem State.setLink_box (c : Console) (l : Link) (d : Console) : (s.setLink c l).box d = s.box d := rfl
@[simp] theorem State.setLink_arb_settled (c : Console) (l : Link) : (s.setLink c l).arb.settled = s.arb.settled := rfl
@[simp] theorem State.setLink_arb_ppres (c : Console) (l : Link) : (s.setLink c l).arb.ppres = s.arb.ppres := rfl
@[simp] theorem State.setLink_arb_psel (c : Console) (l : Link) : (s.setLink c l).arb.psel = s.arb.psel := rfl
@[simp] theorem State.setLink_arb_penb (c : Console) (l : Link) : (s.setLink c l).arb.penb = s.arb.penb := rfl
@[simp] theorem State.setLink_arb_pup (c : Console) (l : Link) : (s.setLink c l).arb.pup = s.arb.pup := rfl
@[simp] theorem State.setLink_arb_pdn (c : Console) (l : Link) : (s.setLink c l).arb.pdn = s.arb.pdn := rfl
@[simp] theorem State.setLink_arb_pstopClosed (c : Console) (l : Link) : (s.setLink c l).arb.pstopClosed = s.arb.pstopClosed := rfl

/-! ### setBox -/

@[simp] theorem State.setBox_chans (c : Console) (b : NoticeBox) : (s.setBox c b).chans = s.chans := rfl
@[simp] theorem State.setBox_groups (c : Console) (b : NoticeBox) : (s.setBox c b).groups = s.groups := rfl
@[simp] theorem State.setBox_supply (c : Console) (b : NoticeBox) : (s.setBox c b).supply = s.supply := rfl
@[simp] theorem State.setBox_scanner (c : Console) (b : NoticeBox) : (s.setBox c b).scanner = s.scanner := rfl
@[simp] theorem State.setBox_arb (c : Console) (b : NoticeBox) : (s.setBox c b).arb = s.arb := rfl
@[simp] theorem State.setBox_stops (c : Console) (b : NoticeBox) : (s.setBox c b).stops = s.stops := rfl
@[simp] theorem State.setBox_settings (c : Console) (b : NoticeBox) : (s.setBox c b).settings = s.settings := rfl
@[simp] theorem State.setBox_ports (c : Console) (b : NoticeBox) : (s.setBox c b).ports = s.ports := rfl
@[simp] theorem State.setBox_station (c : Console) (b : NoticeBox) : (s.setBox c b).station = s.station := rfl
@[simp] theorem State.setBox_timebase (c : Console) (b : NoticeBox) : (s.setBox c b).timebase = s.timebase := rfl
@[simp] theorem State.setBox_flash (c : Console) (b : NoticeBox) : (s.setBox c b).flash = s.flash := rfl
@[simp] theorem State.setBox_freeCount (c : Console) (b : NoticeBox) : (s.setBox c b).freeCount = s.freeCount := rfl
@[simp] theorem State.setBox_pending (c : Console) (b : NoticeBox) : (s.setBox c b).pending = s.pending := rfl
@[simp] theorem State.setBox_chan (c : Console) (b : NoticeBox) (j : Channel) : (s.setBox c b).chan j = s.chan j := rfl
@[simp] theorem State.setBox_grp (c : Console) (b : NoticeBox) (h : GroupId) : (s.setBox c b).grp h = s.grp h := rfl
@[simp] theorem State.setBox_port (c : Console) (b : NoticeBox) (d : Console) : (s.setBox c b).port d = s.port d := rfl
@[simp] theorem State.setBox_link (c : Console) (b : NoticeBox) (d : Console) : (s.setBox c b).link d = s.link d := rfl

/-! ### raise -/

@[simp] theorem State.raise_chans (n : Notice) : (s.raise n).chans = s.chans := rfl
@[simp] theorem State.raise_groups (n : Notice) : (s.raise n).groups = s.groups := rfl
@[simp] theorem State.raise_supply (n : Notice) : (s.raise n).supply = s.supply := rfl
@[simp] theorem State.raise_scanner (n : Notice) : (s.raise n).scanner = s.scanner := rfl
@[simp] theorem State.raise_arb (n : Notice) : (s.raise n).arb = s.arb := rfl
@[simp] theorem State.raise_stops (n : Notice) : (s.raise n).stops = s.stops := rfl
@[simp] theorem State.raise_settings (n : Notice) : (s.raise n).settings = s.settings := rfl
@[simp] theorem State.raise_ports (n : Notice) : (s.raise n).ports = s.ports := rfl
@[simp] theorem State.raise_station (n : Notice) : (s.raise n).station = s.station := rfl
@[simp] theorem State.raise_timebase (n : Notice) : (s.raise n).timebase = s.timebase := rfl
@[simp] theorem State.raise_flash (n : Notice) : (s.raise n).flash = s.flash := rfl
@[simp] theorem State.raise_freeCount (n : Notice) : (s.raise n).freeCount = s.freeCount := rfl
@[simp] theorem State.raise_pending (n : Notice) : (s.raise n).pending = s.pending := rfl
@[simp] theorem State.raise_chan (n : Notice) (j : Channel) : (s.raise n).chan j = s.chan j := rfl
@[simp] theorem State.raise_grp (n : Notice) (h : GroupId) : (s.raise n).grp h = s.grp h := rfl
@[simp] theorem State.raise_port (n : Notice) (d : Console) : (s.raise n).port d = s.port d := rfl
@[simp] theorem State.raise_link (n : Notice) (d : Console) : (s.raise n).link d = s.link d := rfl

/-! ### raiseLink -/

@[simp] theorem State.raiseLink_chans (c : Console) : (s.raiseLink c).chans = s.chans := rfl
@[simp] theorem State.raiseLink_groups (c : Console) : (s.raiseLink c).groups = s.groups := rfl
@[simp] theorem State.raiseLink_supply (c : Console) : (s.raiseLink c).supply = s.supply := rfl
@[simp] theorem State.raiseLink_scanner (c : Console) : (s.raiseLink c).scanner = s.scanner := rfl
@[simp] theorem State.raiseLink_arb (c : Console) : (s.raiseLink c).arb = s.arb := rfl
@[simp] theorem State.raiseLink_stops (c : Console) : (s.raiseLink c).stops = s.stops := rfl
@[simp] theorem State.raiseLink_settings (c : Console) : (s.raiseLink c).settings = s.settings := rfl
@[simp] theorem State.raiseLink_ports (c : Console) : (s.raiseLink c).ports = s.ports := rfl
@[simp] theorem State.raiseLink_station (c : Console) : (s.raiseLink c).station = s.station := rfl
@[simp] theorem State.raiseLink_timebase (c : Console) : (s.raiseLink c).timebase = s.timebase := rfl
@[simp] theorem State.raiseLink_flash (c : Console) : (s.raiseLink c).flash = s.flash := rfl
@[simp] theorem State.raiseLink_freeCount (c : Console) : (s.raiseLink c).freeCount = s.freeCount := rfl
@[simp] theorem State.raiseLink_pending (c : Console) : (s.raiseLink c).pending = s.pending := rfl
@[simp] theorem State.raiseLink_chan (c : Console) (j : Channel) : (s.raiseLink c).chan j = s.chan j := rfl
@[simp] theorem State.raiseLink_grp (c : Console) (h : GroupId) : (s.raiseLink c).grp h = s.grp h := rfl
@[simp] theorem State.raiseLink_port (c : Console) (d : Console) : (s.raiseLink c).port d = s.port d := rfl
@[simp] theorem State.raiseLink_link (c : Console) (d : Console) : (s.raiseLink c).link d = s.link d := rfl

/-! ### retrip -/

@[simp] theorem State.retrip_chans : (s.retrip).chans = s.chans := rfl
@[simp] theorem State.retrip_groups : (s.retrip).groups = s.groups := rfl
@[simp] theorem State.retrip_supply : (s.retrip).supply = s.supply := rfl
@[simp] theorem State.retrip_scanner : (s.retrip).scanner = s.scanner := rfl
@[simp] theorem State.retrip_arb : (s.retrip).arb = s.arb := rfl
@[simp] theorem State.retrip_settings : (s.retrip).settings = s.settings := rfl
@[simp] theorem State.retrip_notices : (s.retrip).notices = s.notices := rfl
@[simp] theorem State.retrip_ports : (s.retrip).ports = s.ports := rfl
@[simp] theorem State.retrip_station : (s.retrip).station = s.station := rfl
@[simp] theorem State.retrip_timebase : (s.retrip).timebase = s.timebase := rfl
@[simp] theorem State.retrip_flash : (s.retrip).flash = s.flash := rfl
@[simp] theorem State.retrip_freeCount : (s.retrip).freeCount = s.freeCount := rfl
@[simp] theorem State.retrip_pending : (s.retrip).pending = s.pending := rfl
@[simp] theorem State.retrip_chan (j : Channel) : (s.retrip).chan j = s.chan j := rfl
@[simp] theorem State.retrip_grp (h : GroupId) : (s.retrip).grp h = s.grp h := rfl
@[simp] theorem State.retrip_port (d : Console) : (s.retrip).port d = s.port d := rfl
@[simp] theorem State.retrip_link (d : Console) : (s.retrip).link d = s.link d := rfl
@[simp] theorem State.retrip_box (d : Console) : (s.retrip).box d = s.box d := rfl
@[simp] theorem State.retrip_stops_estop : s.retrip.stops.estop = s.stops.estop := rfl
@[simp] theorem State.retrip_stops_cause : s.retrip.stops.cause = s.stops.cause := rfl
@[simp] theorem State.retrip_stops_monitor : s.retrip.stops.monitor = s.stops.monitor := rfl
@[simp] theorem State.retrip_stops_rstin : s.retrip.stops.rstin = s.stops.rstin := rfl
@[simp] theorem State.retrip_stops_vctl : s.retrip.stops.vctl = s.stops.vctl := rfl
@[simp] theorem State.retrip_stops_lowTimer : s.retrip.stops.lowTimer = s.stops.lowTimer := rfl
@[simp] theorem State.retrip_stops_estinClosed : s.retrip.stops.estinClosed = s.stops.estinClosed := rfl
@[simp] theorem State.retrip_stops_estinSettled : s.retrip.stops.estinSettled = s.stops.estinSettled := rfl
@[simp] theorem State.retrip_stops_tripout : s.retrip.stops.tripout = s.tripoutHolds := rfl

/-! ### tick -/

@[simp] theorem State.tick_chans : (s.tick).chans = s.chans := rfl
@[simp] theorem State.tick_groups : (s.tick).groups = s.groups := rfl
@[simp] theorem State.tick_supply : (s.tick).supply = s.supply := rfl
@[simp] theorem State.tick_scanner : (s.tick).scanner = s.scanner := rfl
@[simp] theorem State.tick_arb : (s.tick).arb = s.arb := rfl
@[simp] theorem State.tick_stops : (s.tick).stops = s.stops := rfl
@[simp] theorem State.tick_settings : (s.tick).settings = s.settings := rfl
@[simp] theorem State.tick_notices : (s.tick).notices = s.notices := rfl
@[simp] theorem State.tick_ports : (s.tick).ports = s.ports := rfl
@[simp] theorem State.tick_station : (s.tick).station = s.station := rfl
@[simp] theorem State.tick_freeCount : (s.tick).freeCount = s.freeCount := rfl
@[simp] theorem State.tick_pending : (s.tick).pending = s.pending := rfl
@[simp] theorem State.tick_chan (j : Channel) : (s.tick).chan j = s.chan j := rfl
@[simp] theorem State.tick_grp (h : GroupId) : (s.tick).grp h = s.grp h := rfl
@[simp] theorem State.tick_port (d : Console) : (s.tick).port d = s.port d := rfl
@[simp] theorem State.tick_link (d : Console) : (s.tick).link d = s.link d := rfl
@[simp] theorem State.tick_box (d : Console) : (s.tick).box d = s.box d := rfl

end Sys2Proof.Machine
end

