-- ==== Sys2Proof/Laws/Ops.lean ====
section
/-! SUPPORT. What the named reads and writes answer: reading back what was written, the member lists, the sets and the
clamp. -/

namespace Sys2Proof

/-! ### The entries of the eight channels, the five groups and the two consoles -/

@[simp] theorem Chans.get_set {α : Type} (v : Chans α) (i j : Channel) (x : α) :
    (v.set i x).get j = if j = i then x else v.get j := by
  fin_cases i <;> fin_cases j <;> rfl

@[simp] theorem Chans.get_mapIdx {α β : Type} (v : Chans α) (f : Channel → α → β) (i : Channel) :
    (v.mapIdx f).get i = f i (v.get i) := by
  fin_cases i <;> rfl

@[simp] theorem Chans.get_all {α : Type} (x : α) (i : Channel) : (Chans.all x).get i = x := by
  fin_cases i <;> rfl

/-- Two tables of eight entries are equal when every entry is. -/
theorem Chans.ext_get {α : Type} {v w : Chans α} (h : ∀ i, v.get i = w.get i) : v = w := by
  cases v; cases w
  simp only [Chans.mk.injEq]
  exact ⟨h 0, h 1, h 2, h 3, h 4, h 5, h 6, h 7⟩

/-- Every channel number stands in the list of channel numbers. -/
@[simp] theorem mem_channels (i : Channel) : i ∈ channels := by fin_cases i <;> decide

/-- Every console group number stands in the list of console group numbers. -/
@[simp] theorem mem_consoleGroups (g : ConsoleGroup) : g ∈ consoleGroups := by fin_cases g <;> decide

end Sys2Proof

namespace Sys2Proof.Machine

@[simp] theorem Groups.get_set (v : Groups) (g h : GroupId) (r : Group) :
    (v.set g r).get h = if h = g then r else v.get h := by
  cases g with
  | pendant =>
    cases h with
    | pendant => rfl
    | console n => fin_cases n <;> rfl
  | console m =>
    cases h with
    | pendant => fin_cases m <;> rfl
    | console n => fin_cases m <;> fin_cases n <;> rfl

/-- Two tables of five groups are equal when every entry is. -/
theorem Groups.ext_get {v w : Groups} (h : ∀ g, v.get g = w.get g) : v = w := by
  cases v; cases w
  simp only [Groups.mk.injEq]
  exact ⟨h (.console 0), h (.console 1), h (.console 2), h (.console 3), h .pendant⟩

@[simp] theorem ByConsole.get_set {α : Type} (v : ByConsole α) (c d : Console) (x : α) :
    (v.set c x).get d = if d = c then x else v.get d := by
  cases c <;> cases d <;> rfl

/-- Every group stands in the list of groups. -/
@[simp] theorem mem_allGroups (g : GroupId) : g ∈ allGroups := by
  cases g with
  | pendant => decide
  | console n => fin_cases n <;> decide

variable (s : State)

@[simp] theorem State.chan_setChan (i j : Channel) (c : Chan) :
    (s.setChan i c).chan j = if j = i then c else s.chan j := Chans.get_set _ _ _ _

@[simp] theorem State.chan_mapIdx (f : Channel → Chan → Chan) (i : Channel) :
    State.chan { s with chans := s.chans.mapIdx f } i = f i (s.chan i) := Chans.get_mapIdx _ _ _

@[simp] theorem State.grp_setGrp (g h : GroupId) (r : Group) :
    (s.setGrp g r).grp h = if h = g then r else s.grp h := Groups.get_set _ _ _ _

@[simp] theorem State.port_setPort (c d : Console) (r : Receiver) :
    (s.setPort c r).port d = if d = c then r else s.port d := ByConsole.get_set _ _ _ _

@[simp] theorem State.link_setLink (c d : Console) (l : Link) :
    (s.setLink c l).link d = if d = c then l else s.link d := ByConsole.get_set _ _ _ _

@[simp] theorem State.box_setBox (c d : Console) (b : NoticeBox) :
    (s.setBox c b).box d = if d = c then b else s.box d := ByConsole.get_set _ _ _ _

@[simp] theorem Console.other_ne (c : Console) : c.other ≠ c := by cases c <;> decide

@[simp] theorem Console.other_other (c : Console) : c.other.other = c := by cases c <;> rfl

/-! ### Members (R103) -/

@[simp] theorem State.isMember_iff (g : GroupId) (i : Channel) :
    s.isMember g i = true ↔ (s.chan i).group = some g := by simp [State.isMember]

@[simp] theorem State.mem_members (g : GroupId) (i : Channel) : i ∈ s.members g ↔ (s.chan i).group = some g := by
  simp [State.members]

/-- The members of a group follow the group fields alone. -/
theorem State.members_congr {s t : State} (g : GroupId) (h : ∀ i, (t.chan i).group = (s.chan i).group) :
    t.members g = s.members g := by
  unfold State.members
  congr 1
  funext i
  simp [State.isMember, h i]

/-- Writing a channel record that keeps its group field keeps every member list. -/
theorem State.members_setChan (g : GroupId) (i : Channel) (c : Chan) (h : c.group = (s.chan i).group) :
    (s.setChan i c).members g = s.members g := by
  refine State.members_congr g fun j => ?_
  by_cases hj : j = i
  · subst hj; simp [h]
  · simp [hj]

/-- The members of a group stand in ascending order, each once. -/
theorem State.members_sorted (g : GroupId) : (s.members g).Pairwise (· < ·) := by
  unfold State.members
  refine List.Pairwise.filter _ ?_
  decide

/-- A group is all PARKED exactly when each of its members is. -/
theorem State.allParked_iff (g : GroupId) :
    s.allParked g = true ↔ ∀ i, (s.chan i).group = some g → (s.chan i).state = .parked := by
  simp [State.allParked]

/-- A channel is in a moving group exactly when it is a member of a group in a move. -/
theorem State.inMovingGroup_iff (i : Channel) :
    s.inMovingGroup i = true ↔ ∃ g, (s.chan i).group = some g ∧ (s.grp g).state.inMove = true := by
  unfold State.inMovingGroup
  cases (s.chan i).group <;> simp

/-! ### Sets (R184) -/

/-- Bit `k` of a set built channel by channel. -/
theorem getLsbD_foldl_setOf (p : Channel → Bool) (k : Nat) (hk : k < 8) (l : List Channel) (m : EightSet) :
    (l.foldl (fun m i => if p i then m ||| BitVec.twoPow 8 i.val else m) m).getLsbD k =
      (m.getLsbD k || l.any fun i => p i && decide (i.val = k)) := by
  induction l generalizing m with
  | nil => simp
  | cons i l ih =>
    rw [List.foldl_cons, ih]
    cases hp : p i <;> simp [hp, hk, Bool.or_assoc, eq_comm]

/-- The set of a test holds exactly the channels that pass it. -/
@[simp] theorem inSet_setOf (p : Channel → Bool) (i : Channel) : inSet (setOf p) i = p i := by
  unfold inSet setOf
  rw [getLsbD_foldl_setOf p i.val i.isLt]
  fin_cases i <;> simp [channels]

@[simp] theorem mem_listOf (m : EightSet) (i : Fin 8) : i ∈ listOf m ↔ inSet m i = true := by simp [listOf]

@[simp] theorem mem_groupsOf (m : GroupSet) (g : ConsoleGroup) : g ∈ groupsOf m ↔ m.getLsbD g.val = true := by
  simp [groupsOf]

/-! ### Timers (log entry 6) -/

@[simp] theorem reached_iff (now e : Time) : reached now e = true ↔ (now - e).toNat < 2147483648 := by simp [reached]

/-- A timer's own due reading has been reached. -/
theorem reached_self (e : Time) : reached e e = true := by simp

@[simp] theorem timerDue_none (now : Time) : timerDue now none = false := rfl

@[simp] theorem timerDue_some (now e : Time) : timerDue now (some e) = reached now e := rfl

/-! ### The clamp (R172) -/

theorem clamp_le {lo hi : Nat} (x : Nat) (h : lo ≤ hi) : clamp lo hi x ≤ hi := by unfold clamp; omega

theorem le_clamp (lo hi x : Nat) : lo ≤ clamp lo hi x := by unfold clamp; omega

/-- A value already in range is unchanged. -/
theorem clamp_of_mem {lo hi x : Nat} (h₁ : lo ≤ x) (h₂ : x ≤ hi) : clamp lo hi x = x := by unfold clamp; omega

end Sys2Proof.Machine
end

