-- ==== Sys2Proof/Laws/Channel.lean ====
section
/-! SUPPORT. What each transition of one channel record leaves alone, the state it ends in, and that the transitions keep the
line, timer and duty laws. -/

namespace Sys2Proof.Machine

open Sys2Proof.Safety

/-- The items of a channel record that no sequence, stop, fault or start touches: `b` has those of `a`. -/
structure ChanKept (a b : Chan) : Prop where
  cfg          : b.cfg = a.cfg
  position     : b.position = a.position
  referenced   : b.referenced = a.referenced
  window       : b.window = a.window
  upper        : b.upper = a.upper
  lower        : b.lower = a.lower
  pendingLimit : b.pendingLimit = a.pendingLimit
  holder       : b.holder = a.holder
  group        : b.group = a.group
  envMin       : b.envMin = a.envMin
  envMax       : b.envMax = a.envMax
  load         : b.load = a.load
  thermal      : b.thermal = a.thermal
  upperOpen    : b.upperOpen = a.upperOpen
  lowerOpen    : b.lowerOpen = a.lowerOpen

theorem ChanKept.rfl' (a : Chan) : ChanKept a a := ⟨rfl, rfl, rfl, rfl, rfl, rfl, rfl, rfl, rfl, rfl, rfl, rfl, rfl, rfl, rfl⟩

theorem ChanKept.trans {a b c : Chan} (h : ChanKept a b) (k : ChanKept b c) : ChanKept a c :=
  ⟨k.cfg.trans h.cfg, k.position.trans h.position, k.referenced.trans h.referenced, k.window.trans h.window,
   k.upper.trans h.upper, k.lower.trans h.lower, k.pendingLimit.trans h.pendingLimit, k.holder.trans h.holder,
   k.group.trans h.group, k.envMin.trans h.envMin, k.envMax.trans h.envMax, k.load.trans h.load,
   k.thermal.trans h.thermal, k.upperOpen.trans h.upperOpen, k.lowerOpen.trans h.lowerOpen⟩

/-- What a transition that keeps these items keeps of the statements' terms. -/
theorem ChanKept.stored {a b : Chan} (h : ChanKept a b) :
    KeepsStored a b ∧ KeepsAuthority a b ∧ b.position = a.position :=
  ⟨⟨h.cfg, h.window, h.upper, h.lower, h.pendingLimit, h.envMin, h.envMax, h.load, h.thermal⟩, ⟨h.holder, h.group⟩,
    h.position⟩

variable (now : Time) (c : Chan)

/-! ### What each transition leaves alone -/

theorem watchStuck_kept : ChanKept c (watchStuck now c) := by
  unfold watchStuck; split <;> [split; skip] <;> exact ⟨rfl, rfl, rfl, rfl, rfl, rfl, rfl, rfl, rfl, rfl, rfl, rfl, rfl, rfl, rfl⟩

theorem leaveRunning_kept : ChanKept c (leaveRunning now c) := by
  unfold leaveRunning; split <;> exact ⟨rfl, rfl, rfl, rfl, rfl, rfl, rfl, rfl, rfl, rfl, rfl, rfl, rfl, rfl, rfl⟩

theorem chanPark_kept : ChanKept c (chanPark now c) :=
  ⟨rfl, rfl, rfl, rfl, rfl, rfl, rfl, rfl, rfl, rfl, rfl, rfl, rfl, rfl, rfl⟩

theorem chanEnterRunning_kept : ChanKept c (chanEnterRunning now c) :=
  ⟨rfl, rfl, rfl, rfl, rfl, rfl, rfl, rfl, rfl, rfl, rfl, rfl, rfl, rfl, rfl⟩

theorem chanReleaseBrake_kept : ChanKept c (chanReleaseBrake now c) :=
  ⟨rfl, rfl, rfl, rfl, rfl, rfl, rfl, rfl, rfl, rfl, rfl, rfl, rfl, rfl, rfl⟩

theorem chanEnterStarting_kept (d : Dir) : ChanKept c (chanEnterStarting now d c) := by
  unfold chanEnterStarting
  refine ChanKept.trans ?_ (watchStuck_kept now _)
  exact ⟨rfl, rfl, rfl, rfl, rfl, rfl, rfl, rfl, rfl, rfl, rfl, rfl, rfl, rfl, rfl⟩

theorem chanFinishStop_kept : ChanKept c (chanFinishStop now c) := by
  refine ChanKept.trans ?_ (watchStuck_kept now _)
  split <;> [split; skip; skip; skip; skip; skip] <;> first | exact chanPark_kept now c | exact ChanKept.rfl' c

theorem stopReleased_kept (form : StopForm) : ChanKept c (stopReleased now form c) := by
  unfold stopReleased
  refine (leaveRunning_kept now c).trans (ChanKept.trans ?_ (chanFinishStop_kept now _))
  exact ⟨rfl, rfl, rfl, rfl, rfl, rfl, rfl, rfl, rfl, rfl, rfl, rfl, rfl, rfl, rfl⟩

theorem stopUnproven_kept (form : StopForm) : ChanKept c (stopUnproven now form c) := by
  unfold stopUnproven
  refine ChanKept.trans ?_ (chanFinishStop_kept now _)
  exact ⟨rfl, rfl, rfl, rfl, rfl, rfl, rfl, rfl, rfl, rfl, rfl, rfl, rfl, rfl, rfl⟩

theorem stopMadeQuick_kept : ChanKept c (stopMadeQuick now c) := by
  unfold stopMadeQuick
  refine ChanKept.trans ?_ (chanFinishStop_kept now _)
  exact ⟨rfl, rfl, rfl, rfl, rfl, rfl, rfl, rfl, rfl, rfl, rfl, rfl, rfl, rfl, rfl⟩

/-- A stop request touches the run of the channel alone. -/
theorem chanStop_kept (form : StopForm) : ChanKept c (chanStop now form c) := by
  have h : ChanKept c { c with startPending := none } := ⟨rfl, rfl, rfl, rfl, rfl, rfl, rfl, rfl, rfl, rfl, rfl, rfl, rfl, rfl, rfl⟩
  unfold chanStop
  split
  · exact ChanKept.rfl' c
  · exact ChanKept.rfl' c
  · exact h
  · split
    · exact stopReleased_kept now c form
    · exact stopUnproven_kept now c form
  · exact stopReleased_kept now c form
  · exact h
  · cases form
    · exact h
    · exact stopMadeQuick_kept now c

theorem chanEnterFaulted_kept : ChanKept c (chanEnterFaulted now c) := by
  unfold chanEnterFaulted
  refine (leaveRunning_kept now c).trans (ChanKept.trans ?_ (watchStuck_kept now _))
  exact ⟨rfl, rfl, rfl, rfl, rfl, rfl, rfl, rfl, rfl, rfl, rfl, rfl, rfl, rfl, rfl⟩

/-- A fault report touches the run and the fault set of the channel alone. -/
theorem chanFault_kept (k : FaultKind) : ChanKept c (chanFault now k c) := by
  have h : ChanKept c { c with faults := c.faults ||| faultBit k } :=
    ⟨rfl, rfl, rfl, rfl, rfl, rfl, rfl, rfl, rfl, rfl, rfl, rfl, rfl, rfl, rfl⟩
  unfold chanFault
  split <;> first | exact ChanKept.rfl' c | exact h | exact h.trans (chanEnterFaulted_kept now _)

theorem chanClearFaults_kept (enable : EightSet) : ChanKept c (chanClearFaults now enable c) := by
  unfold chanClearFaults clearSlip
  split <;> [skip; simp only []] <;> (try split) <;>
    exact ⟨rfl, rfl, rfl, rfl, rfl, rfl, rfl, rfl, rfl, rfl, rfl, rfl, rfl, rfl, rfl⟩

/-! ### The watch of R34 changes one timer -/

theorem watchStuck_eq : ∃ w, watchStuck now c = { c with out := { c.out with stuck := w } } := by
  unfold watchStuck
  split
  · split
    · exact ⟨_, rfl⟩
    · exact ⟨c.out.stuck, rfl⟩
    · exact ⟨c.out.stuck, rfl⟩
  · exact ⟨_, rfl⟩

@[simp] theorem watchStuck_state : (watchStuck now c).state = c.state := by
  obtain ⟨w, h⟩ := watchStuck_eq now c; rw [h]

@[simp] theorem watchStuck_faults : (watchStuck now c).faults = c.faults := by
  obtain ⟨w, h⟩ := watchStuck_eq now c; rw [h]

@[simp] theorem watchStuck_startPending : (watchStuck now c).startPending = c.startPending := by
  obtain ⟨w, h⟩ := watchStuck_eq now c; rw [h]

@[simp] theorem watchStuck_lastDir : (watchStuck now c).lastDir = c.lastDir := by
  obtain ⟨w, h⟩ := watchStuck_eq now c; rw [h]

@[simp] theorem watchStuck_gen : (watchStuck now c).gen = c.gen := by obtain ⟨w, h⟩ := watchStuck_eq now c; rw [h]

@[simp] theorem watchStuck_pos : (watchStuck now c).pos = c.pos := by obtain ⟨w, h⟩ := watchStuck_eq now c; rw [h]

/-- The watch keeps the line law. -/
theorem watchStuck_lineLaw (h : LineLaw c) : LineLaw (watchStuck now c) := by
  obtain ⟨w, e⟩ := watchStuck_eq now c; rw [e]; exact h

/-- The watch keeps the timer law. -/
theorem watchStuck_timerLaw (h : TimerLaw c) : TimerLaw (watchStuck now c) := by
  obtain ⟨w, e⟩ := watchStuck_eq now c; rw [e]; exact h

/-- The watch keeps the duty law. -/
theorem watchStuck_dutyLaw (h : DutyLaw c) : DutyLaw (watchStuck now c) := by
  obtain ⟨w, e⟩ := watchStuck_eq now c; rw [e]; exact h

/-! ### The states in which the transitions end -/

@[simp] theorem chanEnterStarting_state (d : Dir) : (chanEnterStarting now d c).state = .starting := by
  simp [chanEnterStarting]

@[simp] theorem chanEnterRunning_state : (chanEnterRunning now c).state = .running := rfl

@[simp] theorem chanEnterFaulted_state : (chanEnterFaulted now c).state = .faulted := by simp [chanEnterFaulted]

/-- A fault report ends in FAULTED, except that an OFF channel discards it (R3, R10). -/
theorem chanFault_state (k : FaultKind) (h : c.state ≠ .off) : (chanFault now k c).state = .faulted := by
  unfold chanFault; split <;> simp_all

/-- The kind reported joins the fault set (R10). -/
theorem chanFault_faults (k : FaultKind) (h : c.state ≠ .off) :
    (chanFault now k c).faults = c.faults ||| faultBit k := by
  unfold chanFault chanEnterFaulted leaveRunning
  split <;> simp_all

/-- The end of a stop leaves the state or turns STOPPING into PARKED (R8, R32). -/
theorem chanFinishStop_state :
    (chanFinishStop now c).state = c.state ∨
      (∃ f, c.state = .stopping f) ∧ (chanFinishStop now c).state = .parked := by
  unfold chanFinishStop
  rw [watchStuck_state]
  split
  · next f h =>
    split
    · exact .inr ⟨⟨f, h⟩, rfl⟩
    · exact .inl rfl
  all_goals exact .inl rfl

/-- A finished stop is neither STARTING nor RUNNING. -/
theorem chanFinishStop_of_stopping (f : StopForm) (h : c.state = .stopping f) :
    (chanFinishStop now c).state ≠ .starting ∧ (chanFinishStop now c).state ≠ .running := by
  rcases chanFinishStop_state now c with e | ⟨_, e⟩ <;> rw [e] <;> simp [h]

/-- After a stop the channel is neither STARTING nor RUNNING (R7). -/
theorem chanStop_stops (form : StopForm) :
    (chanStop now form c).state ≠ .starting ∧ (chanStop now form c).state ≠ .running := by
  unfold chanStop
  split
  next h => simp [h]
  next h => simp [h]
  next h => simp [h]
  next =>
    split
    · exact chanFinishStop_of_stopping now _ form rfl
    · exact chanFinishStop_of_stopping now _ form rfl
  next => exact chanFinishStop_of_stopping now _ form rfl
  next h => simp [h]
  next h =>
    cases form
    · simp [h]
    · exact chanFinishStop_of_stopping now _ .quick rfl

/-- A stop of a channel that is OFF or FAULTED does nothing, and of one that is PARKED only drops its start pending (R7). -/
theorem chanStop_at_rest (form : StopForm) :
    (c.state = .off ∨ c.state = .faulted → chanStop now form c = c) ∧
    (c.state = .parked → chanStop now form c = { c with startPending := none }) := by
  constructor
  · rintro (h | h) <;> simp [chanStop, h]
  · intro h; simp [chanStop, h]

/-! ### The line, timer and duty laws -/

/-- Entry to STARTING from PARKED keeps the three laws (R25, R26, R39). -/
theorem chanEnterStarting_laws (d : Dir) (hd : DutyLaw c) (hp : c.state = .parked) :
    LineLaw (chanEnterStarting now d c) ∧ TimerLaw (chanEnterStarting now d c) ∧ DutyLaw (chanEnterStarting now d c) := by
  refine ⟨watchStuck_lineLaw now _ ?_, watchStuck_timerLaw now _ ?_, watchStuck_dutyLaw now _ ?_⟩
  · cases d <;> simp [LineLaw]
  · simp [TimerLaw, startMs]
  · obtain ⟨h1, h2, h3⟩ := hd
    refine ⟨h1, fun x hx => absurd (h2 x hx).2.2 (by simp [hp]), fun hx => absurd (h3 hx).2 (by simp [hp])⟩

/-- Entry to FAULTED keeps the three laws (R10, R25, R33, R39). -/
theorem chanEnterFaulted_laws (hd : DutyLaw c) :
    LineLaw (chanEnterFaulted now c) ∧ TimerLaw (chanEnterFaulted now c) ∧ DutyLaw (chanEnterFaulted now c) := by
  refine ⟨watchStuck_lineLaw now _ ?_, watchStuck_timerLaw now _ ?_, watchStuck_dutyLaw now _ ?_⟩
  · simp [LineLaw]
  · simp [TimerLaw]
  · unfold leaveRunning
    split
    · simp [DutyLaw]
    · next hr =>
      obtain ⟨h1, _, h3⟩ := hd
      exact ⟨h1, by simp, fun hx => absurd (h3 hx).2 hr⟩

end Sys2Proof.Machine
end

