-- ==== Sys2Proof/Laws/Flags.lean ====
section
/-! SUPPORT. What raising a notice, setting an attention line, re-evaluating TRIPOUT and marking a fault do. -/

namespace Sys2Proof.Machine

open Sys2Proof.Safety

/-! ### Notices (R178, R179, R183) -/

/-- The notice numbers are 0..52 (R178). -/
theorem noticeNumber_lt (n : Notice) : noticeNumber n < 53 := by
  cases n with
  | group g k => cases k <;> simp [noticeNumber, groupNoticeOffset] <;> omega
  | chan i k => cases k <;> simp [noticeNumber, chanNoticeOffset] <;> omega
  | link => decide
  | takeover => decide
  | estop => decide
  | supply => decide
  | pendant => decide

@[simp] theorem noticeBit_getLsbD_self (n : Notice) : (noticeBit n).getLsbD (noticeNumber n) = true := by
  simp [noticeBit, noticeNumber_lt]

@[simp] theorem boxRaise_pending (n : Notice) (b : NoticeBox) : (boxRaise n b).pending = b.pending ||| noticeBit n := rfl

@[simp] theorem boxRaise_mask (n : Notice) (b : NoticeBox) : (boxRaise n b).mask = b.mask := rfl

/-- A box built anew has its line as R183 says. -/
theorem noticeBox_atn_iff (pending mask : NoticeSet) : (noticeBox pending mask).atn = true ↔ pending &&& mask ≠ 0 := by
  simp [noticeBox, attentionLevel]

theorem boxRaise_atn_iff (n : Notice) (b : NoticeBox) :
    (boxRaise n b).atn = true ↔ (boxRaise n b).pending &&& (boxRaise n b).mask ≠ 0 := noticeBox_atn_iff _ _

variable (s : State)

@[simp] theorem State.box_raise (n : Notice) (c : Console) : (s.raise n).box c = boxRaise n (s.box c) := by
  cases c <;> rfl

@[simp] theorem State.box_raiseLink (c d : Console) :
    (s.raiseLink c).box d = if d = c.other then boxRaise .link (s.box d) else s.box d := by
  cases c <;> cases d <;> rfl

/-- A raised notice is pending at both consoles (R179). -/
theorem State.pendingBoth_raise (n : Notice) : PendingBoth n (s.raise n) := by
  constructor <;> simp [State.raise]

/-- A raise takes nothing out of a pending set and leaves the masks. -/
theorem State.keepsNotices_raise (n : Notice) : KeepsNotices s (s.raise n) := by
  refine ⟨rfl, rfl, ?_, ?_⟩ <;> (simp only [State.raise, boxRaise_pending]; ext k hk; simp; intro h; simp [h])

/-- Raising keeps the attention law, whatever stood before. -/
theorem State.attentionLaw_raise (n : Notice) : AttentionLaw (s.raise n) :=
  ⟨boxRaise_atn_iff _ _, boxRaise_atn_iff _ _⟩

/-! ### TRIPOUT (R161, R162) -/

/-- The evaluated condition is that of R161. -/
theorem State.tripoutHolds_iff :
    s.tripoutHolds = true ↔
      s.stops.estop ≠ .clear ∨ s.stops.monitor = .low ∨
      ∃ g : ConsoleGroup, groupDrivesTripout s.settings.mask (s.grp (.console g)) = true := by
  simp [State.tripoutHolds, or_assoc]

/-- A re-evaluation makes the TRIPOUT law true (R162). -/
theorem State.tripoutLaw_retrip : TripoutLaw s.retrip := s.tripoutHolds_iff

/-- The TRIPOUT law reads the E-stop, the monitor, the mask, TRIPOUT and the console groups' states and records alone. -/
theorem tripoutLaw_congr {s t : State} (h : TripoutLaw s) (hs : t.stops.estop = s.stops.estop)
    (hm : t.stops.monitor = s.stops.monitor) (ho : t.stops.tripout = s.stops.tripout)
    (hk : t.settings.mask = s.settings.mask)
    (hg : ∀ g : ConsoleGroup, (t.grp (.console g)).state = (s.grp (.console g)).state ∧
      (t.grp (.console g)).trip = (s.grp (.console g)).trip) : TripoutLaw t := by
  have e : ∀ g : ConsoleGroup, groupDrivesTripout t.settings.mask (t.grp (.console g)) =
      groupDrivesTripout s.settings.mask (s.grp (.console g)) := by
    intro g; unfold groupDrivesTripout; rw [hk, (hg g).1, (hg g).2]
  unfold TripoutLaw at *
  rw [hs, hm, ho]
  simpa [e] using h

/-! ### Fault sets (R9) -/

theorem faultCode_lt (k : FaultKind) : faultCode k < 11 := by cases k <;> decide

/-- A kind marked is in the set. -/
@[simp] theorem hasFault_or_self (m : FaultSet) (k : FaultKind) : hasFault (m ||| faultBit k) k = true := by
  simp [hasFault, faultBit, faultCode_lt]

/-- A marked set is not empty. -/
theorem or_faultBit_ne_zero (m : FaultSet) (k : FaultKind) : m ||| faultBit k ≠ 0 := by
  intro h
  have := hasFault_or_self m k
  rw [h] at this
  simp [hasFault] at this

end Sys2Proof.Machine
end

