-- ==== Sys2Proof/Laws/Groups.lean ====
section
/-! SUPPORT. What the shared operations of trips, starts and the group sequencer can do, said once each: the cases they
answer with, and the states on which they do nothing. -/

namespace Sys2Proof.Machine

open Sys2Proof.Safety

variable (s : State)

/-! ### A stop request to every member of a list -/

@[simp] theorem stopMember_grp (form : StopForm) (i : Channel) (g : GroupId) : (stopMember form s i).grp g = s.grp g := rfl

@[simp] theorem stopMember_timebase (form : StopForm) (i : Channel) : (stopMember form s i).timebase = s.timebase := rfl

/-- The stop requests of a list change the channel records alone. -/
theorem foldl_stopMember_eq (form : StopForm) (l : List Channel) :
    l.foldl (stopMember form) s = { s with chans := (l.foldl (stopMember form) s).chans } := by
  induction l generalizing s with
  | nil => rfl
  | cons i l ih => rw [List.foldl_cons, ih]; rfl

/-- After the stop requests of a list without repeats, a channel of the list has taken one and any other is the same. -/
theorem foldl_stopMember_chan (form : StopForm) (l : List Channel) (h : l.Nodup) (i : Channel) :
    (l.foldl (stopMember form) s).chan i = if i ∈ l then chanStop s.timebase form (s.chan i) else s.chan i := by
  induction l generalizing s with
  | nil => rfl
  | cons j l ih =>
    have hj := List.nodup_cons.mp h
    rw [List.foldl_cons, ih _ hj.2]
    by_cases hij : i = j
    · subst hij; simp [hj.1, stopMember]
    · by_cases hl : i ∈ l <;> simp [hij, hl, stopMember]

theorem State.members_nodup (g : GroupId) : (s.members g).Nodup :=
  (s.members_sorted g).imp fun h => ne_of_lt h

/-! ### The pendant group's evaluation and exit (R95, R100, R122) -/

/-- The exit from TRIPPED is made or nothing is (R100). -/
theorem pendantExit_cases :
    pendantExit s = s ∨
      ((s.grp .pendant).state = .tripped ∧ s.arb.penb = false ∧ s.allParked .pendant = true ∧
        pendantExit s = pendantIdle (s.setGrp .pendant { s.grp .pendant with trip := none })) := by
  unfold pendantExit
  split
  · next h => exact .inr ⟨h.1, h.2.1, h.2.2, rfl⟩
  · exact .inl rfl

/-- An evaluation of one channel takes it, gives it back or leaves it (R95). -/
theorem evalChannel_cases (i : Channel) :
    evalChannel s i = s ∨
      (inSet s.arb.psel i = true ∧ (s.chan i).holder = .none ∧ (s.chan i).state ≠ .off ∧
        evalChannel s i = s.setChan i { s.chan i with holder := .pendant, group := some .pendant }) ∨
      (inSet s.arb.psel i = false ∧ (s.chan i).holder = .pendant ∧
        evalChannel s i = s.setChan i { s.chan i with holder := .none, group := none }) := by
  unfold evalChannel
  simp only []
  split_ifs with h h2 h2
  · exact .inr (.inl ⟨h, h2.1, h2.2.1, rfl⟩)
  · exact .inl rfl
  · exact .inr (.inr ⟨by simpa using h, h2, rfl⟩)
  · exact .inl rfl

/-- An evaluation of one channel writes holders and group fields alone (R95). -/
theorem evalChannel_eq (i : Channel) :
    evalChannel s i = { s with chans := (evalChannel s i).chans } ∧
      ∀ j, (evalChannel s i).chan j =
        { s.chan j with holder := ((evalChannel s i).chan j).holder, group := ((evalChannel s i).chan j).group } := by
  rcases evalChannel_cases s i with h | ⟨_, _, _, h⟩ | ⟨_, _, h⟩ <;> rw [h] <;> refine ⟨rfl, fun j => ?_⟩
  · rfl
  · by_cases hj : j = i
    · subst hj; simp
    · simp [hj]
  · by_cases hj : j = i
    · subst hj; simp
    · simp [hj]

/-- A release of one channel writes holders and group fields alone (R96). -/
theorem releasePendant_eq (i : Channel) :
    releasePendant s i = { s with chans := (releasePendant s i).chans } ∧
      ∀ j, (releasePendant s i).chan j =
        { s.chan j with
          holder := ((releasePendant s i).chan j).holder, group := ((releasePendant s i).chan j).group } := by
  unfold releasePendant
  simp only []
  split
  · refine ⟨rfl, fun j => ?_⟩
    by_cases hj : j = i
    · subst hj; simp
    · simp [hj]
  · exact ⟨rfl, fun _ => rfl⟩

/-- An operation on one channel that writes holders and group fields alone does so over a list. -/
theorem foldl_authority_eq (f : State → Channel → State)
    (hf : ∀ s i, f s i = { s with chans := (f s i).chans } ∧
      ∀ j, (f s i).chan j = { s.chan j with holder := ((f s i).chan j).holder, group := ((f s i).chan j).group })
    (l : List Channel) :
    l.foldl f s = { s with chans := (l.foldl f s).chans } ∧
      ∀ j, (l.foldl f s).chan j =
        { s.chan j with holder := ((l.foldl f s).chan j).holder, group := ((l.foldl f s).chan j).group } := by
  induction l generalizing s with
  | nil => exact ⟨rfl, fun _ => rfl⟩
  | cons i l ih =>
    have h1 := hf s i
    have h2 := ih (f s i)
    rw [List.foldl_cons]
    refine ⟨?_, fun j => ?_⟩
    · rw [h2.1, h1.1]
    · rw [h2.2 j, h1.2 j]

/-- A pendant evaluation writes holders and group fields alone (R95). -/
theorem pendantEval_eq :
    pendantEval s = { s with chans := (pendantEval s).chans } ∧
      ∀ j, (pendantEval s).chan j =
        { s.chan j with holder := ((pendantEval s).chan j).holder, group := ((pendantEval s).chan j).group } := by
  unfold pendantEval
  split
  · exact foldl_authority_eq s evalChannel evalChannel_eq channels
  · exact foldl_authority_eq s releasePendant releasePendant_eq channels

/-! ### Trips (R119) -/

/-- A trip does nothing in IDLE and PAUSED, counts a further cause in TRIPPED, and enters TRIPPED from a move (R119). -/
theorem tripGroup_cases (cause : TripCause) (ch : Option Channel) (g : GroupId) :
    ((s.grp g).state = .idle ∨ (s.grp g).state = .paused → tripGroup cause ch g s = s) ∧
    ((s.grp g).state = .tripped → tripGroup cause ch g s = s.setGrp g (countFurther (s.grp g))) ∧
    ((s.grp g).state.inMove = true → tripGroup cause ch g s = enterTripped g cause ch s) := by
  refine ⟨?_, fun h => by simp [tripGroup, h], ?_⟩
  · rintro (h | h) <;> simp [tripGroup, h]
  · intro h
    unfold tripGroup
    split <;> simp_all [GroupState.inMove]

/-- The entry of a console group to TRIPPED (R119): its record, its members' quick stops, TRIPPED raised, TRIPOUT
re-evaluated, and nothing else. -/
theorem enterTripped_console (n : ConsoleGroup) (cause : TripCause) (ch : Option Channel) :
    ∃ t : State, enterTripped (.console n) cause ch s = (t.raise (.group n .tripped)).retrip ∧
      t = { s with chans := t.chans, groups := t.groups } ∧
      t.grp (.console n) =
        { endMoveTimers (s.grp (.console n)) with
          state := .tripped, updateTimer := none, trip := some { cause := cause, channel := ch, further := 0 } } ∧
      (∀ h, h ≠ .console n → t.grp h = s.grp h) ∧
      ∀ i, t.chan i =
        if (s.chan i).group = some (.console n) then chanStop s.timebase .quick (s.chan i) else s.chan i := by
  refine ⟨_, rfl, ?_, ?_, ?_, ?_⟩
  · simp only [State.modGrp_eq]
    rw [foldl_stopMember_eq]
    rfl
  · simp only [State.modGrp_eq, State.grp_setGrp, if_pos]
    rw [foldl_stopMember_eq]
    simp [State.grp, State.setGrp]
  · intro h hne
    simp only [State.modGrp_eq, State.grp_setGrp, if_neg hne]
    rw [foldl_stopMember_eq]
    simp [State.grp, State.setGrp, hne]
  · intro i
    simp only [State.modGrp_eq, State.setGrp_chan]
    rw [foldl_stopMember_chan _ _ _ (State.members_nodup _ _)]
    simp

/-! ### Fault reports and start requests (R4, R5, R10, R11) -/

/-- A report that reaches an OFF channel is discarded (R3). -/
theorem faultReport_off (i : Channel) (k : FaultKind) (h : (s.chan i).state = .off) : faultReport i k s = s := by
  simp [faultReport, h]

/-- A report on an ungrouped channel changes its record, raises FAULT and re-evaluates TRIPOUT (R10, R11). -/
theorem faultReport_ungrouped (i : Channel) (k : FaultKind) (h : (s.chan i).state ≠ .off)
    (hg : (s.chan i).group = none) :
    faultReport i k s = ((s.setChan i (chanFault s.timebase k (s.chan i))).raise (.chan i .fault)).retrip := by
  have e : (chanFault s.timebase k (s.chan i)).group = none := by rw [(chanFault_kept _ _ _).group, hg]
  simp [faultReport, h, tripGroupOf, e]

/-- What the steps of R4 can do with a start on a PARKED channel. -/
theorem startTry_cases (i : Channel) (d : Dir) :
    ((s.stops.estop ≠ .clear ∨ s.stops.monitor = .low) ∧
      startTry i d s = s.setChan i { s.chan i with startPending := none }) ∨
    (limitOpen (s.chan i) d = true ∧ startTry i d s = limitRefused i s) ∨
    ((s.supply.state ≠ .on ∨ (s.chan i).lastDir = some d.opposite ∧ (s.chan i).out.dwellTimer.isSome = true) ∧
      startTry i d s = s.setChan i { s.chan i with startPending := some d }) ∨
    (s.stops.estop = .clear ∧ s.stops.monitor ≠ .low ∧ limitOpen (s.chan i) d = false ∧ s.supply.state = .on ∧
      startTry i d s = s.setChan i (chanEnterStarting s.timebase d (s.chan i))) := by
  unfold startTry
  simp only []
  split
  · next h => exact .inl ⟨h, rfl⟩
  · next h1 =>
    split
    · next h => exact .inr (.inl ⟨h, rfl⟩)
    · next h2 =>
      split
      · next h => exact .inr (.inr (.inl ⟨.inl h, rfl⟩))
      · next h3 =>
        split
        · next h => exact .inr (.inr (.inl ⟨.inr h, rfl⟩))
        · simp only [not_or, not_not] at h1 h3
          exact .inr (.inr (.inr ⟨h1.1, h1.2, by simpa using h2, h3, rfl⟩))

/-- A start request does nothing on a channel that is STARTING, RUNNING, FAULTED or OFF, and is held on a STOPPING one (R4,
R5). -/
theorem startRequest_cases (i : Channel) (d : Dir) :
    ((s.chan i).state = .parked → startRequest i d s = startTry i d s) ∧
    ((∃ f, (s.chan i).state = .stopping f) → startRequest i d s = s.setChan i { s.chan i with startPending := some d }) ∧
    ((s.chan i).state = .starting ∨ (s.chan i).state = .running ∨ (s.chan i).state = .faulted ∨
      (s.chan i).state = .off → startRequest i d s = s) := by
  refine ⟨fun h => by simp [startRequest, h], ?_, ?_⟩
  · rintro ⟨f, h⟩; simp [startRequest, h]
  · rintro (h | h | h | h) <;> simp [startRequest, h]

/-! ### The group sequencer -/

/-- A controlled stop acts on a group that is STARTING, MOVING or HOLDING (R115). -/
theorem controlledStop_of_not_stoppable (g : GroupId) (h : (s.grp g).state.stoppable = false) :
    controlledStop g s = s := by
  simp [controlledStop, h]

/-- The end of a group stop is made or nothing is (R115). -/
theorem stopTest_cases (g : GroupId) :
    stopTest g s = s ∨
      ((s.grp g).state = .stopping ∧ s.allParked g = true ∧
        ((g = .pendant ∧ stopTest g s = pendantIdle s) ∨
         (∃ n, g = .console n ∧ (s.grp g).moveKind = .cue ∧
            stopTest g s = (s.setGrp g { s.grp g with state := .paused, updateTimer := none }).raise (.group n .paused)) ∨
         (∃ n, g = .console n ∧ (s.grp g).moveKind = .jog ∧
            stopTest g s = s.setGrp g { s.grp g with state := .idle, updateTimer := none }))) := by
  unfold stopTest
  simp only []
  split
  · next h =>
    refine .inr ⟨h.1, h.2, ?_⟩
    cases g with
    | pendant => exact .inl ⟨rfl, rfl⟩
    | console n =>
      simp only []
      split
      · next hm => exact .inr (.inl ⟨n, rfl, hm, rfl⟩)
      · next hm => exact .inr (.inr ⟨n, rfl, hm, rfl⟩)
  · exact .inl rfl

/-- A completion is made of a MOVING cue group alone (R135). -/
theorem completionTest_cases (g : GroupId) :
    completionTest g s = s ∨
      ((s.grp g).state = .moving ∧ (s.grp g).moveKind = .cue ∧ s.allParked g = true ∧
        completionTest g s = completeFrom g (s.grp g).queue s) := by
  unfold completionTest
  simp only []
  split
  · next h => exact .inr ⟨h.1, h.2.1, h.2.2.2, rfl⟩
  · exact .inl rfl

/-- A group is told of an entry to RUNNING and may go from STARTING to MOVING (R113). -/
theorem tellRunning_cases (i : Channel) :
    tellRunning i s = s ∨
      ∃ g, (s.chan i).group = some g ∧ (s.grp g).state = .starting ∧
        tellRunning i s = s.setGrp g { s.grp g with state := .moving, startTimer := none } := by
  unfold tellRunning
  split
  · exact .inl rfl
  · next g hg =>
    split
    · next h => exact .inr ⟨g, hg, h.1, rfl⟩
    · exact .inl rfl

/-- A trim restart is made of a member in a trim pause that is not arrived and is PARKED within the trim-off window, and
nothing is done otherwise (R134, R142). -/
theorem trimRestart_cases (g : GroupId) (i : Channel) (err : Int) :
    trimRestart g i err s = s ∨
      ∃ m, (s.member g i).plan = some m ∧ (s.member g i).trimPaused = true ∧ (s.member g i).arrived = false ∧
        (s.chan i).state = .parked ∧ err ≤ (s.grp g).windows.trimOff ∧
        trimRestart g i err s = startRequest i m.dir (s.modMember g i fun x => { x with trimPaused := false }) := by
  unfold trimRestart
  simp only []
  split
  · exact .inl rfl
  · next m hm =>
    split
    · next h => exact .inr ⟨m, hm, h.1, h.2.1, h.2.2.1, h.2.2.2, rfl⟩
    · exact .inl rfl

/-- A hold deadline that is due is dropped after a controlled stop, and its expiry does nothing otherwise (R92). -/
theorem deadlineExpired_cases (g : ConsoleGroup) :
    deadlineExpired g s = s ∨
      ∃ e, (s.grp (.console g)).deadline = some e ∧ reached s.timebase e = true ∧
        deadlineExpired g s = dropDeadline (.console g) (controlledStop (.console g) s) := by
  unfold deadlineExpired
  cases h : (s.grp (.console g)).deadline with
  | none => exact .inl rfl
  | some e =>
    cases hr : reached s.timebase e with
    | false => exact .inl (by simp [hr])
    | true => exact .inr ⟨e, rfl, hr, by simp [hr]⟩

/-! ### The errors of an update (R130) -/

/-- Step 2 of an update writes member items alone. -/
@[simp] theorem formErrors_chan (g : GroupId) (i : Channel) : (formErrors g s).chan i = s.chan i := rfl

/-- Step 2 forms the error of each member that has a plan, and leaves every other item of the member. -/
theorem formErrors_member (g : GroupId) (i : Channel) :
    (formErrors g s).member g i =
      if s.isMember g i then
        match (s.member g i).plan with
        | none => s.member g i
        | some m =>
          { s.member g i with err := memberError (s.grp g).moveKind (s.grp g).prof m (s.chan i).position }
      else s.member g i := by
  cases h : ((s.grp g).prof.members.get i).plan <;> simp [formErrors, State.member, h]

/-- Step 4 reports no trip exactly where every member that is not arrived is within both trip windows (R137). -/
theorem syncTrip_none_iff (g : GroupId) :
    syncTrip g s = none ↔
      ∀ i ∈ s.live g, -((s.grp g).windows.tripLag : Int) < (s.member g i).err ∧
        (s.member g i).err < ((s.grp g).windows.tripLead : Int) := by
  unfold syncTrip
  simp only []
  split
  · next i h =>
    simp only [reduceCtorEq, false_iff, not_forall]
    exact ⟨i, List.mem_of_find?_eq_some h, fun hi => by
      have := List.find?_some h
      simp only [decide_eq_true_eq] at this
      omega⟩
  · next h =>
    rw [List.find?_eq_none] at h
    split
    · next i h2 =>
      simp only [reduceCtorEq, false_iff, not_forall]
      exact ⟨i, List.mem_of_find?_eq_some h2, fun hi => by
        have := List.find?_some h2
        simp only [decide_eq_true_eq] at this
        omega⟩
    · next h2 =>
      rw [List.find?_eq_none] at h2
      simp only [true_iff]
      intro i hi
      have a := h i hi
      have b := h2 i hi
      simp only [decide_eq_true_eq, not_le] at a b
      exact ⟨a, b⟩

/-- Nothing follows a change that is no entry to PARKED (R8). -/
theorem afterPark_of_not_parked (before : ChanState) (i : Channel) (h : (s.chan i).state ≠ .parked) :
    afterPark before i s = s := by
  simp [afterPark, h]

/-- Nothing follows the park of an ungrouped channel with no start pending (R8). -/
theorem afterPark_ungrouped (before : ChanState) (i : Channel) (hg : (s.chan i).group = none)
    (hp : (s.chan i).startPending = none) : afterPark before i s = s := by
  simp [afterPark, tellParked, retestPending, hg, hp]

end Sys2Proof.Machine
end

