-- ==== Sys2Proof/Laws/Link.lean ====
section
/-! SUPPORT. What a frame, a receiver and the queue of commands do. -/

namespace Sys2Proof.Machine

open Sys2Proof.Safety

variable (s : State)

/-! ### The link refresh (R84, R85) -/

/-- A refresh leaves the link ACTIVE with its timer restarted (R84). -/
@[simp] theorem refreshLink_link (c : Console) :
    (refreshLink c s).link c = { state := .active, timer := startMs s.timebase s.settings.linkTimeout } := by
  unfold refreshLink; simp only []; split <;> simp

/-- A refresh leaves the other console's link (R84). -/
@[simp] theorem refreshLink_link_other (c : Console) : (refreshLink c s).link c.other = s.link c.other := by
  unfold refreshLink; simp only []; split <;> simp

/-- A refresh changes the console's own link and, where that was not ACTIVE, the other console's pending set, and nothing
else (R84, R85). -/
theorem refreshLink_eq (c : Console) :
    refreshLink c s =
      { s with
        arb := (refreshLink c s).arb
        notices := if (s.link c).state = .active then s.notices
          else s.notices.set c.other (boxRaise .link (s.box c.other)) } := by
  unfold refreshLink; simp only []; split <;> cases c <;> rfl

@[simp] theorem refreshLink_chan (c : Console) (i : Channel) : (refreshLink c s).chan i = s.chan i := by
  unfold refreshLink; simp only []; split <;> rfl

@[simp] theorem refreshLink_grp (c : Console) (g : GroupId) : (refreshLink c s).grp g = s.grp g := by
  unfold refreshLink; simp only []; split <;> rfl

@[simp] theorem refreshLink_supply (c : Console) : (refreshLink c s).supply = s.supply := by
  unfold refreshLink; simp only []; split <;> rfl

@[simp] theorem refreshLink_stops (c : Console) : (refreshLink c s).stops = s.stops := by
  unfold refreshLink; simp only []; split <;> rfl

@[simp] theorem refreshLink_settings (c : Console) : (refreshLink c s).settings = s.settings := by
  unfold refreshLink; simp only []; split <;> rfl

@[simp] theorem refreshLink_scanner (c : Console) : (refreshLink c s).scanner = s.scanner := by
  unfold refreshLink; simp only []; split <;> rfl

@[simp] theorem refreshLink_timebase (c : Console) : (refreshLink c s).timebase = s.timebase := by
  unfold refreshLink; simp only []; split <;> rfl

@[simp] theorem refreshLink_station (c : Console) : (refreshLink c s).station = s.station := by
  unfold refreshLink; simp only []; split <;> rfl

@[simp] theorem refreshLink_port (c d : Console) : (refreshLink c s).port d = s.port d := by
  unfold refreshLink; simp only []; split <;> rfl

@[simp] theorem refreshLink_freeCount (c : Console) : (refreshLink c s).freeCount = s.freeCount := by
  unfold refreshLink; simp only []; split <;> rfl

@[simp] theorem refreshLink_pending (c : Console) : (refreshLink c s).pending = s.pending := by
  unfold refreshLink; simp only []; split <;> rfl

/-! ### Frames (R163, R164, R167, R168, R169) -/

/-- A frame that is ready to be read is taken. -/
theorem frameOn_ready (c : Console) (p : List Byte) (take : State → State) (h : Ready c p s) :
    frameOn c p take s = take s := by
  obtain ⟨h1, h2, h3, h4⟩ := h
  simp [frameOn, takesFrame, hasStation, h1, h2, h3, h4]

theorem addressedFrame_ready (c : Console) (code : Byte) (p : List Byte) (request : State → Taken) (h : Ready c p s) :
    addressedFrame c code p request s = takeAddressed c code request s := frameOn_ready s c p _ h

theorem broadcastFrame_ready (c : Console) (p : List Byte) (request : State → Taken) (h : Ready c p s) :
    broadcastFrame c p request s = takeBroadcast c request s := frameOn_ready s c p _ h

/-- The state that an addressed request leaves, with the receiver answering its reply (R173). -/
theorem takeAddressed_eq (c : Console) (code : Byte) (request : State → Taken) :
    takeAddressed c code request s =
      answered c code (request (refreshLink c s)).2.result (request (refreshLink c s)).2.payload
        (request (refreshLink c s)).1 := rfl

/-- A frame whose receiver is answering is not read (R163, R173). -/
theorem frameOn_answering (c : Console) (p : List Byte) (take : State → State) (h : isAnswering (s.port c) = true) :
    frameOn c p take s = s := by
  simp [frameOn, h]

/-! ### Steps 1 and 3 of R171 -/

theorem withLength_of_eq {n : Nat} {p : List Byte} (f : State → Taken) (h : p.length = n) : withLength n p f s = f s := by
  simp [withLength, h]

theorem withLength_of_ne {n : Nat} {p : List Byte} (f : State → Taken) (h : p.length ≠ n) :
    withLength n p f s = refuse .badFrame s := by
  simp [withLength, h]

@[simp] theorem withField_some {α : Type} (x : α) (f : α → State → Taken) : withField (some x) f s = f x s := rfl

@[simp] theorem withField_none {α : Type} (f : α → State → Taken) : withField none f s = refuse .badValue s := rfl

@[simp] theorem holds_iff (c : Console) (i : Channel) : holds c s i = true ↔ (s.chan i).holder = .console c := by
  unfold holds asHolder; exact decide_eq_true_iff

@[simp] theorem owns_iff (c : Console) (g : ConsoleGroup) :
    owns c s g = true ↔ (s.grp (.console g)).owner = .console c := by
  unfold owns asHolder; exact decide_eq_true_iff

/-! ### Bytes (R184) -/

/-- A channel byte 0..7 reads as its channel. -/
theorem toNat_ofNat_fin8 (i : Fin 8) : (BitVec.ofNat 8 i.val).toNat = i.val := by
  simp; omega

/-- A 16-bit value written in two bytes, most significant first, reads back. -/
theorem wordAt_u16 (n : Nat) (h : n ≤ 65535) : wordAt (u16 n) 0 = n := by
  simp [wordAt, byteAt, u16]; omega

/-! ### The receiver (R163, R165) -/

/-- A frame abandoned leaves a receiver that was not answering in HUNTING (R165). -/
theorem abandon_cases (c : Console) :
    (isAnswering (s.port c) = true ∧ abandon c s = s) ∨
      (isAnswering (s.port c) = false ∧ abandon c s = s.setPort c .hunting) := by
  unfold abandon; split <;> simp_all

/-- A gap timer that is due leaves its receiver in HUNTING, and its expiry does nothing otherwise (R165). -/
theorem gapExpired_cases (c : Console) :
    gapExpired c s = s ∨
      ∃ bytes gap, s.port c = .receiving bytes gap ∧ reached s.timebase gap = true ∧
        gapExpired c s = s.setPort c .hunting := by
  unfold gapExpired
  split
  · next bytes gap h =>
    split
    · next hr => exact .inr ⟨bytes, gap, h, hr, rfl⟩
    · exact .inl rfl
  · exact .inl rfl
  · exact .inl rfl

/-! ### The queue of commands -/

/-- A step on an empty queue lets one microsecond pass (log entry 1). -/
theorem step_nil (h : s.pending = []) : step s = .next s.tick := by
  unfold step; rw [h]

end Sys2Proof.Machine
end

