-- ==== Sys2Proof/Laws/Units.lean ====
section
/-! SUPPORT. What the shared operations of the position unit, the load unit and the profile unit compute. -/

namespace Sys2Proof.Machine

open Sys2Proof.Safety

/-! ### Position (R47, R51, R54) -/

/-- The reading of a change of the pair is UP exactly on the four edges of R47 (R47). -/
theorem readPair_up_iff (held seen : EncPair) : readPair held seen = .edge .up ↔ (held, seen) ∈ upPairs := by
  rcases held with ⟨a, b⟩; rcases seen with ⟨x, y⟩
  cases a <;> cases b <;> cases x <;> cases y <;> decide

/-- It is DOWN exactly on their reverses (R47). -/
theorem readPair_down_iff (held seen : EncPair) : readPair held seen = .edge .down ↔ (seen, held) ∈ upPairs := by
  rcases held with ⟨a, b⟩; rcases seen with ⟨x, y⟩
  cases a <;> cases b <;> cases x <;> cases y <;> decide

/-- It is no edge exactly where the pair has not changed, and illegal exactly where both lines have (R47). -/
theorem readPair_other_iff (held seen : EncPair) :
    (readPair held seen = .unchanged ↔ seen = held) ∧
    (readPair held seen = .illegal ↔ seen.a ≠ held.a ∧ seen.b ≠ held.b) := by
  rcases held with ⟨a, b⟩; rcases seen with ⟨x, y⟩
  cases a <;> cases b <;> cases x <;> cases y <;> decide

/-- The measured speed fits its field (R54). -/
theorem speedOf_le (t u : Time) : speedOf t u ≤ 65535 := by
  unfold speedOf
  simp only []
  split
  · exact le_rfl
  · next h =>
    have : 1000000 / (u - t).toNat ≤ 1000000 / 16 := Nat.div_le_div_left (by omega) (by omega)
    omega

/-! ### Load (R71, R73, R74) -/

/-- The calibrated load is that of R71, with the product formed over the integers. -/
theorem calibrate_eq (zeroPoint gain raw : Nat) :
    (calibrate zeroPoint gain raw : Int) =
      max 0 (min 9999 ((((raw : Int) - (zeroPoint : Int)) * (gain : Int)) / 256)) := by
  unfold calibrate
  rcases Nat.le_total zeroPoint raw with h | h
  · obtain ⟨d, rfl⟩ := Nat.exists_eq_add_of_le h
    have e : (((zeroPoint + d : Nat) : Int) - (zeroPoint : Int)) * (gain : Int) = ((d * gain : Nat) : Int) := by
      push_cast; ring
    rw [e, Nat.add_sub_cancel_left]
    omega
  · have e : (((raw : Nat) : Int) - (zeroPoint : Int)) * (gain : Int) ≤ 0 :=
      mul_nonpos_of_nonpos_of_nonneg (by omega) (by omega)
    rw [Nat.sub_eq_zero_of_le h, Nat.zero_mul]
    omega

/-- The ring holds at most 4 loads if it did (R73). -/
theorem ringJoin_length (ring : List Nat) (load : Nat) (h : ring.length ≤ 4) : (ringJoin ring load).length ≤ 4 := by
  unfold ringJoin
  simp only []
  split <;> simp_all

/-- A load joins after the newest, and of five the oldest leaves (R73). -/
theorem ringJoin_eq (ring : List Nat) (load : Nat) (h : ring.length ≤ 4) :
    ringJoin ring load = (if ring.length < 4 then ring else ring.drop 1) ++ [load] := by
  unfold ringJoin
  simp only [List.length_append, List.length_cons, List.length_nil, Nat.zero_add]
  by_cases h4 : ring.length < 4
  · rw [if_neg (by omega), if_pos h4]
  · rw [if_pos (by omega), if_neg h4]
    cases ring with
    | nil => simp at h4
    | cons a r => rfl

/-- A check leaves its counter at most 3 (R74, R75). -/
theorem checkCount_le (v : Bool) (n : Nat) : checkCount v n ≤ 3 := by
  unfold checkCount; split <;> omega

/-- A reading taken leaves the load state derived (R63, R69). -/
theorem takeReading_status (enable : EightSet) (raw : Nat) (u : LoadUnit) :
    (takeReading enable raw u).status = deriveLoad enable (takeReading enable raw u) := by
  unfold takeReading deriveLoad
  rfl

/-- What a reading keeps of the load items (R69). -/
theorem takeReading_kept (enable : EightSet) (raw : Nat) (u : LoadUnit) :
    (takeReading enable raw u).input = u.input ∧ (takeReading enable raw u).zero = u.zero ∧
      (takeReading enable raw u).gain = u.gain ∧ (takeReading enable raw u).raw = some raw := by
  unfold takeReading
  simp only []
  split <;> exact ⟨rfl, rfl, rfl, rfl⟩

/-- The channel that takes a result is the only one assigned the input (R69). -/
theorem assignedTo_eq (s : State) (k : LoadInput) (i : Channel) (h : (s.chan i).load.input = some k)
    (hu : ∀ j, (s.chan j).load.input = some k → j = i) : assignedTo s k = some i := by
  unfold assignedTo
  cases hf : channels.find? fun i => decide ((s.chan i).load.input = some k) with
  | none => simpa [h] using List.find?_eq_none.mp hf i (mem_channels i)
  | some j =>
    have := List.find?_some hf
    rw [hu j (by simpa using this)]

/-- A good reading that is enabled makes the load state VALID; a sensor reading makes it FAULT (R63). -/
theorem deriveLoad_none (enable : EightSet) (u : LoadUnit) (h : u.input = none) : deriveLoad enable u = .none := by
  simp [deriveLoad, h]

/-! ### Progress (R128, R130) -/

/-- The share of a distance at a progress within the full progress is within the distance (R130). -/
theorem share_le (dist p : Nat) (h : p ≤ fullProgress) : dist * p / fullProgress ≤ dist := by
  unfold fullProgress at *
  have : dist * p ≤ dist * 65536 := Nat.mul_le_mul_left dist h
  omega

/-- The ramp changes the phase and the rate alone (R128). -/
theorem rampPhase_kept (r : Option Nat) (pr : Profile) :
    rampPhase r pr = { pr with phase := (rampPhase r pr).phase, q := (rampPhase r pr).q } := by
  unfold rampPhase; split <;> rfl

/-- At the full progress the share is the distance (R130). -/
theorem share_full (dist : Nat) : dist * fullProgress / fullProgress = dist := by
  unfold fullProgress; omega

end Sys2Proof.Machine
end

