-- ==== Sys2Proof/Tests/Slice0.lean ====
section
/-! SUPPORT. Tests: the well-formedness smoke, the numbers that the manual prints, small steps with the values of its worked
sequences, and one witness theorem for the hypotheses of each statement, clause by clause. -/

namespace Sys2Proof.Tests

open Sys2Proof Sys2Proof.Machine Sys2Proof.Safety

/-! ### Small states -/

/-- A VARIABLE channel of console A: PARKED, referenced at 1000, limits 0..60000. -/
def parked : Chan :=
  { State.resetChan ⟨false, false⟩ with
    cfg := { State.resetConfig with kind := .variableSpeed }, state := .parked, position := 1000, referenced := true
    window := .valid, upper := 60000, lower := 0, holder := .console .a }

/-- The same channel with this state and these outputs. -/
def chanIn (st : ChanState) (o : Output) : Chan := { parked with state := st, out := o, lastDir := some .up }

/-- The same channel RUNNING UP with its brake shown released. -/
def running : Chan := chanIn .running { State.resetOutput with raise := true, brk := true, cs := true, bfb := true }

/-- The reset state with channel 0 replaced. -/
def withChan (c : Chan) : State := State.reset.setChan 0 c

/-- The reset state made ready to move: E-stop CLEAR, no remote stop, drive supply ON. -/
def ready : State :=
  { State.reset with
    stops := { State.reset.stops with estop := .clear, rstin := false, tripout := false, estinClosed := true }
    supply := { state := .on, mains := true, mainsfb := true, closingTimer := none, settlingTimer := none } }

/-- A cue that sends channel 0 to 1010. -/
def cue : Cue := { tag := 7, speed := 50, ramp := 10, follow := .stopAtEnd, entries := [(0, 1010)] }

/-- Group 0 owned by console A, in this state. -/
def groupIn (st : GroupState) : Group := { State.resetGroup with owner := .console .a, state := st }

/-- `s` with channel 0 alone in group 0, owned by console A and in this state, with the cue in its queue. -/
def grouped (st : GroupState) (s : State) : State :=
  (s.setChan 0 { parked with group := some (.console 0) }).setGrp (.console 0) { groupIn st with queue := [cue] }

/-- Console B's link LOST. -/
def lostB (s : State) : State := s.setLink .b { state := .lost, timer := none }

/-- The state after a command, tested. -/
def after (c : Instr) (s : State) (p : State → Bool) : Bool :=
  match exec c s with
  | .next t => p t
  | .fault _ => false
  | .refused _ => false

/-- The response that the receiver of console `c` is sending. -/
def responseOf (c : Console) (s : State) : Option Response :=
  match s.port c with
  | .answering r => some r
  | .hunting => none
  | .receiving _ _ => none

/-- The state after a list of commands. -/
def run : List Instr → State → Option State
  | [], s => some s
  | c :: cs, s =>
    match exec c s with
    | .next t => run cs t
    | .fault _ => none
    | .refused _ => none

/-! ### Well-formedness: an ill-formed term for each check -/

theorem test_wf_unknown_request_is_unknown :
    Instr.wf (.unknownRequest .a 0x01 []) = false ∧ Instr.wf (.unknownRequest .a 0x99 []) = true := by decide

theorem test_wf_ignored_broadcast_is_not_taken :
    Instr.wf (.ignoredBroadcast .a 0x34 []) = false ∧ Instr.wf (.ignoredBroadcast .a 0x35 []) = false ∧
    Instr.wf (.ignoredBroadcast .a 0x36 []) = false ∧ Instr.wf (.ignoredBroadcast .a 0x01 []) = true := by decide

/-- A payload one byte longer than a frame can carry, and one just as long. -/
def tooLong : List Byte := List.replicate 65 0

theorem test_wf_payload_of_reads_fits :
    Instr.wf (.readPart .a tooLong) = false ∧ Instr.wf (.readChannel .a tooLong) = false ∧
    Instr.wf (.readGroup .a tooLong) = false ∧ Instr.wf (.readQueue .a tooLong) = false ∧
    Instr.wf (.readNotices .a tooLong) = false ∧ Instr.wf (.unknownRequest .a 0x99 tooLong) = false ∧
    Instr.wf (.ignoredBroadcast .a 0x01 tooLong) = false ∧ Instr.wf (.readPart .a (tooLong.drop 1)) = true := by decide

theorem test_wf_payload_of_channel_requests_fits :
    Instr.wf (.select .a tooLong) = false ∧ Instr.wf (.release .a tooLong) = false ∧
    Instr.wf (.forceRelease .a tooLong) = false ∧ Instr.wf (.takeGroup .a tooLong) = false ∧
    Instr.wf (.configChannel .a tooLong) = false ∧ Instr.wf (.setUpper .a tooLong) = false ∧
    Instr.wf (.setLower .a tooLong) = false ∧ Instr.wf (.setPosition .a tooLong) = false ∧
    Instr.wf (.setEnvelope .a tooLong) = false ∧ Instr.wf (.setLoadInput .a tooLong) = false ∧
    Instr.wf (.setLoadCal .a tooLong) = false ∧ Instr.wf (.clearFaults .a tooLong) = false := by decide

theorem test_wf_payload_of_group_requests_fits :
    Instr.wf (.setGroup .a tooLong) = false ∧ Instr.wf (.disband .a tooLong) = false ∧
    Instr.wf (.loadCue .a tooLong) = false ∧ Instr.wf (.clearQueue .a tooLong) = false ∧
    Instr.wf (.go .a .addressed tooLong) = false ∧ Instr.wf (.hold .a .addressed tooLong) = false ∧
    Instr.wf (.stop .a .broadcast tooLong) = false ∧ Instr.wf (.jog .a tooLong) = false ∧
    Instr.wf (.resetGroup .a tooLong) = false := by decide

theorem test_wf_payload_of_part_requests_fits :
    Instr.wf (.resetEstop .a tooLong) = false ∧ Instr.wf (.setMask .a tooLong) = false ∧
    Instr.wf (.ackNotices .a tooLong) = false ∧ Instr.wf (.setPart .a tooLong) = false ∧
    Instr.wf (.restart .a tooLong) = false := by decide

/-! ### The table, and the numbers that the manual prints -/

/-- No row of spec/opcode_table.json has bits. -/
theorem test_no_word_spells_a_command : decodeTableWord 0 0 = none ∧ decodeTableWord 16 0xA501 = none := ⟨rfl, rfl⟩

/-- R166 prints the CRC of the nine characters "123456789" as 0x29B1. -/
theorem test_crc_of_the_digits :
    crc16 [0x31, 0x32, 0x33, 0x34, 0x35, 0x36, 0x37, 0x38, 0x39] = 0x29B1 := by decide +kernel

/-- 11_frame_and_record_layouts.md, Notice numbering: the ends of the ranges. -/
theorem test_notice_numbers :
    noticeNumber (.group 0 .tripped) = 2 ∧ noticeNumber (.group 3 .miss) = 15 ∧ noticeNumber (.chan 0 .fault) = 16 ∧
    noticeNumber (.chan 5 .fault) = 36 ∧ noticeNumber (.chan 7 .limit) = 47 ∧ noticeNumber .takeover = 52 := by decide

/-- R157: level 6 is 21.0 V. -/
theorem test_threshold_of_level_six : thresholdMv 6 = 21000 ∧ thresholdMv 0 = 18000 ∧ thresholdMv 15 = 25500 := by decide

/-! ### The worked cases of the manual -/

/-- 03_chain_position_and_speed.md, Worked sequence: measured speed across a reversal. -/
theorem test_measured_speeds :
    speedOf 100000 102000 = 500 ∧ speedOf 102000 104500 = 400 ∧ speedOf 104500 107800 = 303 ∧
    speedOf 1900000 1903000 = 333 ∧ speedOf 1904400 1907400 = 333 ∧ speedOf 0 15 = 65535 := by decide

/-- R54: the interval is taken across a wrap of the timebase. -/
theorem test_speed_across_the_wrap : speedOf 0xFFFFFF00 (0xFFFFFF00 + 2000) = 500 := by decide

/-- 04_load_measurement_and_envelopes.md, Worked case: calibrating a cell. -/
theorem test_calibration :
    calibrate 410 300 1850 = 1687 ∧ calibrate 410 300 410 = 0 ∧ calibrate 410 300 300 = 0 ∧
    calibrate 410 300 4094 = 4317 := by decide

/-- Worked case A of 07_profile_and_synchronisation.md: channel 0's plan. -/
def planA0 : MemberPlan := { start := 10000, target := 12000, dist := 2000, dir := .up, veff := 500 }

/-- Worked case A: channel 1's plan. -/
def planA1 : MemberPlan := { start := 10200, target := 12400, dist := 2200, dir := .up, veff := 500 }

/-- Worked case A: channel 2's plan. -/
def planA2 : MemberPlan := { start := 9800, target := 11600, dist := 1800, dir := .up, veff := 500 }

theorem test_case_a_rates :
    cueRate 20 planA0 = 327 ∧ cueRate 20 planA1 = 297 ∧ cueRate 20 planA2 = 364 ∧
    cueCruise 20 [planA0, planA1, planA2] = 297 ∧ rampStep 10 20 297 = 5 := by decide

/-- Worked case A: a profile in this phase, with this progress and rate. -/
def profA (phase : Phase) (p q : Nat) : Profile :=
  { State.resetProfile with phase := phase, p := p, q := q, qCruise := 297, a := 5 }

/-- Worked case A: updates 60, 219, 221 and 318 of its table. -/
theorem test_case_a_updates :
    advanceMoving false .cue (profA .accel 8850 295) = profA .cruise 9147 297 ∧
    advanceMoving false .cue (profA .cruise 56073 297) = profA .cruise 56370 297 ∧
    advanceMoving false .cue (profA .cruise 56667 297) = profA .decel (56667 + 292) 292 ∧
    advanceMoving false .cue (profA .decel 65533 5) = profA .decel 65536 5 := by decide

/-- Worked case A: the commanded positions and the feedforward duties at update 60. -/
theorem test_case_a_at_update_60 :
    commanded .cue (profA .cruise 9147 297) planA0 = 10279 ∧ commanded .cue (profA .cruise 9147 297) planA1 = 10507 ∧
    commanded .cue (profA .cruise 9147 297) planA2 = 10051 ∧ feedforward .cue 297 20 2000 1000 = 115 ∧
    feedforward .cue 297 20 2200 1000 = 127 ∧ feedforward .cue 297 20 1800 1000 = 104 := by decide

/-- Worked case: a pendant jog to a soft limit: the ramp step, the cruise duty and updates 5, 60 and 68. -/
theorem test_jog_to_a_limit :
    rampStep 10 20 5 = 1 ∧ feedforward .jog 5 20 0 1000 = 63 ∧
    (let pr : Profile := { State.resetProfile with qCruise := 5, a := 1, jMax := some 300 }
     advanceMoving false .jog { pr with phase := .accel, q := 4, j := 10 } = { pr with phase := .cruise, q := 5, j := 15 } ∧
     advanceMoving false .jog { pr with phase := .cruise, q := 5, j := 285 } =
       { pr with phase := .decel, q := 4, j := 289 } ∧
     advanceMoving false .jog { pr with phase := .decel, q := 1, j := 299 } =
       { pr with phase := .decel, q := 1, j := 300 }) := by decide

/-- Worked case B: the reference shares, and member 0's count at updates 2, 3 and 6. -/
theorem test_load_shift :
    shareOf 420 1400 = 307 ∧ shareOf 380 1400 = 277 ∧ shareOf 600 1400 = 438 ∧ shareMargin 307 25 = 84 ∧
    shareMargin 277 25 = 77 ∧ shareMargin 438 25 = 117 ∧ violNext 25 300 1410 307 0 = 1 ∧
    violNext 25 310 1410 307 1 = 0 ∧ violNext 25 298 1412 307 2 = 3 := by decide

/-- SET_UPPER 40000 and SET_LOWER 39990 from desk A on channel 0, the first response sent. -/
def limitSteps : List Instr :=
  [.setUpper .a [0, 0x9C, 0x40], .responseSent .a, .setLower .a [0, 0x9C, 0x36]]

/-- 01_hoist_channels.md, Worked sequence: a limit pair with one inconsistent write: steps 1 and 2. -/
theorem test_limit_pair_steps_1_2 :
    (run limitSteps (withChan { parked with window := .none, upper := 0, lower := 0 })).any (fun t =>
      decide ((t.chan 0).pendingLimit = some (.upper, 40000)) && decide ((t.chan 0).window = .opened) &&
      decide ((t.chan 0).upper = 0) && decide ((responseOf .a t).map Response.result = some .badWindow)) = true := by
  decide

/-- The same sequence: steps 4 and 5. -/
theorem test_limit_pair_steps_4_5 :
    after (.setLower .a [0, 0x30, 0xD4])
      (withChan { parked with window := .opened, upper := 0, lower := 0, pendingLimit := some (.upper, 41000) }) (fun t =>
        decide ((t.chan 0).pendingLimit = none) && decide ((t.chan 0).window = .valid) &&
        decide ((t.chan 0).upper = 41000) && decide ((t.chan 0).lower = 12500)) = true ∧
    after (.setLower .a [0, 0x32, 0xC8]) (withChan { parked with upper := 41000, lower := 12500 }) (fun t =>
        decide ((t.chan 0).pendingLimit = some (.lower, 13000)) && decide ((t.chan 0).window = .opened) &&
        decide ((t.chan 0).lower = 12500)) = true := by decide

/-- 03_chain_position_and_speed.md, Worked sequence: a brake that lets go: the sixth DOWN edge at 4000 ms. -/
theorem test_brake_slip_at_eight :
    after (.encoderChange 0 ⟨false, true⟩)
      (withChan { parked with position := 20471, pos := { State.resetPos ⟨false, false⟩ with slip := -7, slipArmed := true } })
      (fun t => decide ((t.chan 0).state = .faulted) && decide ((t.chan 0).position = 20470) &&
        decide ((t.chan 0).pos.slip = -8) && (t.chan 0).pos.slipStopped &&
        decide ((t.chan 0).faults = faultBit .brakeSlip)) = true := by decide

/-- 01_hoist_channels.md, Worked sequence: clearing a mixed fault set: the first CLEAR_FAULTS. -/
theorem test_clear_keeps_the_overload :
    after (.clearFaults .a [1])
      (withChan { parked with
        state := .faulted, faults := faultBit .overload ||| faultBit .brakeSlip
        load := { State.resetLoad with input := some 0, status := .valid, ring := [1290], filtered := 1290 } })
      (fun t => decide ((t.chan 0).state = .faulted) && decide ((t.chan 0).faults = faultBit .overload) &&
        decide ((responseOf .a t).map Response.result = some .causePresent)) = true := by decide

/-- 02_drive_outputs_and_brake_sequencing.md, Worked sequence: a reversal under a pending start: the dwell expiry at
650 ms. -/
theorem test_reversal_starts_down :
    after (.reversalDwellExpiry 0)
      (ready.setChan 0
        { parked with lastDir := some .up, startPending := some .down, out := { State.resetOutput with dwellTimer := some 0 } })
      (fun t => decide ((t.chan 0).state = .starting) && (t.chan 0).out.lower && !(t.chan 0).out.raise &&
        !(t.chan 0).out.brk && decide ((t.chan 0).out.torqueTimer = some 100000) &&
        decide ((t.chan 0).lastDir = some .down)) = true := by decide

/-- 09_console_link_protocol.md, one desk's traffic: the hold window 50 of SET_PART is clamped to 100. -/
theorem test_set_part_clamps :
    after (.setPart .a [6, 6, 1, 0xF4, 0, 50, 25, 0]) State.reset (fun t => decide (t.settings.holdWindow = 100) &&
      decide (responseOf .a t = some { code := 0x44, result := .ok, payload := [6, 6, 1, 0xF4, 0, 100, 25, 0] })) = true := by
  decide

/-- A whole READ_NOTICES frame, character by character, is taken, and a frame with a changed CRC is not. -/
theorem test_frame_taken_and_dropped :
    (run ([0xA5, 1, 0, 5, (crc16 [1, 0, 5]).extractLsb' 8 8, (crc16 [1, 0, 5]).extractLsb' 0 8].map
        (Instr.requestCharacterReceived .a)) State.reset).any (fun t =>
          decide ((responseOf .a t).map Response.code = some 5) && decide ((t.link .a).state = .active)) = true ∧
    (run ([0xA5, 1, 0, 5, (crc16 [1, 0, 5]).extractLsb' 8 8, (crc16 [1, 0, 5]).extractLsb' 0 8 + 1].map
        (Instr.requestCharacterReceived .a)) State.reset).any (fun t =>
          decide (t.port .a = .hunting) && decide ((t.link .a).state = .silent)) = true := by decide +kernel

/-! ### Witnesses: concrete states that meet the hypotheses of each statement, clause by clause -/

theorem witness_CommandsKeepTheQueue :
    ∃ t, exec (.thermalChange 0 true) { State.reset with pending := [.closingTimerExpiry] } = .next t := ⟨_, rfl⟩

/-- Pins whose control supply stands at, and just below, 21.0 V. -/
def pinsAt (mv : Nat) : ResetPins := { Config.pinsAtReset with vctl := mv }

theorem witness_PowerOnResetLeaves :
    21000 ≤ (pinsAt 21000).vctl ∧ (pinsAt 20999).vctl < 21000 ∧
    after (.powerOnReset (pinsAt 21000)) ready (fun t => decide (t.stops.monitor = .normal)) = true ∧
    after (.powerOnReset (pinsAt 20999)) ready (fun t => decide (t.stops.monitor = .dip)) = true := by decide

theorem witness_FirstSettlingsTakeTheLines :
    State.reset.arb.settled = false ∧ State.reset.stops.estinSettled = false ∧ State.reset.stops.estop = .active := by decide

/-- A PARKED channel whose stuck-contactor timer runs. -/
def stuckChan : Chan := { parked with out := { State.resetOutput with cs := true, stuck := .timing 100000 } }

theorem witness_ThermalAndCurrentInputs :
    (∃ e, ((withChan stuckChan).chan 0).out.stuck = .timing e) ∧ ((withChan stuckChan).chan 0).state ≠ .off :=
  ⟨⟨_, rfl⟩, by decide⟩

/-- The channel of `running` on a run DOWN, without brake feedback. -/
def runningDown : Chan :=
  { running with
    lastDir := some .down, cfg := { running.cfg with bfbFitted := false }
    out := { running.out with raise := false, lower := true, bfb := false } }

theorem witness_LimitSwitchStopsTheRun :
    (((withChan running).chan 0).state = .running ∧ ((withChan running).chan 0).lastDir = some .up ∧
      ((withChan running).chan 0).upperOpen = false ∧ ((withChan running).chan 0).out.bfb = true) ∧
    (((withChan runningDown).chan 0).state = .running ∧ ((withChan runningDown).chan 0).lastDir = some .down ∧
      ((withChan runningDown).chan 0).lowerOpen = false ∧ ((withChan runningDown).chan 0).cfg.bfbFitted = false) ∧
    (((withChan runningDown).chan 0).lastDir ≠ some Dir.up ∧ ((withChan parked).chan 0).state = .parked) := by decide

/-- A channel STARTING UP whose brake timer runs. -/
def releasing : Chan :=
  chanIn .starting { State.resetOutput with raise := true, brk := true, cs := true, brakeTimer := some 250000 }

/-- A channel under a controlled stop with its lines down and its brake-set confirmation running. -/
def confirming : Chan := chanIn (.stopping .controlled) { State.resetOutput with bfb := true, confirmTimer := some 250000 }

/-- The same channel without brake feedback fitted. -/
def unfitted (c : Chan) : Chan := { c with cfg := { c.cfg with bfbFitted := false } }

/-- Channel 0 FAULTED by NO_CURRENT, with this brake-set confirmation. -/
def faultedWith (confirm : Timer) : State :=
  withChan { parked with
    state := .faulted, faults := faultBit .noCurrent, out := { State.resetOutput with confirmTimer := confirm } }

theorem witness_BrakeFeedbackActs :
    (((withChan releasing).chan 0).cfg.bfbFitted = true ∧ ((withChan releasing).chan 0).state = .starting ∧
      ((withChan releasing).chan 0).out.brakeTimer ≠ none) ∧
    (((withChan confirming).chan 0).cfg.bfbFitted = true ∧
      ((withChan confirming).chan 0).state = .stopping .controlled ∧ ((withChan confirming).chan 0).out.raise = false ∧
      ((withChan confirming).chan 0).out.lower = false ∧ ((withChan confirming).chan 0).group = none ∧
      ((withChan confirming).chan 0).startPending = none) ∧
    (((withChan parked).chan 0).cfg.bfbFitted = true ∧ ((withChan parked).chan 0).state = .parked) ∧
    (((faultedWith (some 250000)).chan 0).cfg.bfbFitted = true ∧ ((faultedWith (some 250000)).chan 0).state = .faulted) ∧
    ((withChan (unfitted parked)).chan 0).cfg.bfbFitted = false := by decide

/-- The end of the brake time of channel 0, and its brake shown released only then (R28). -/
def lateRelease : List Instr := [.brakeTimerExpiry 0, .brakeFeedbackChange 0 true]

/-- R28: feedback that arrives after BRAKE_NO_RELEASE is read by the brake-set confirmation: BRAKE_NO_SET at its end while it
shows released, and no report once it shows set. -/
theorem test_late_feedback_is_confirmed :
    (run (lateRelease ++ [.brakeSetTimeExpiry 0]) (withChan releasing)).any (fun t =>
      decide ((t.chan 0).faults = faultBit .brakeNoRelease ||| faultBit .brakeNoSet)) = true ∧
    (run (lateRelease ++ [.brakeFeedbackChange 0 false, .brakeSetTimeExpiry 0]) (withChan releasing)).any (fun t =>
      decide ((t.chan 0).faults = faultBit .brakeNoRelease) && decide ((t.chan 0).out.confirmTimer = none)) = true := by
  decide

/-- A channel STARTING UP whose torque timer runs, with this current and brake feedback. -/
def proving (cs bfb : Bool) : Chan :=
  chanIn .starting { State.resetOutput with raise := true, cs := cs, bfb := bfb, torqueTimer := some 100000 }

theorem witness_StartTimersExpire :
    (∀ cs bfb : Bool, ((withChan (proving cs bfb)).chan 0).state = .starting ∧
      ((withChan (proving cs bfb)).chan 0).out.torqueTimer ≠ none ∧ ((withChan (proving cs bfb)).chan 0).out.brk = false ∧
      ((withChan (proving cs bfb)).chan 0).out.cs = cs ∧ ((withChan (proving cs bfb)).chan 0).out.bfb = bfb ∧
      ((withChan (proving cs bfb)).chan 0).cfg.bfbFitted = true) ∧
    (((withChan releasing).chan 0).state = .starting ∧ ((withChan releasing).chan 0).out.brakeTimer ≠ none ∧
      ((withChan releasing).chan 0).out.brk = true ∧ ((withChan releasing).chan 0).cfg.bfbFitted = true) ∧
    (((withChan (unfitted releasing)).chan 0).state = .starting ∧
      ((withChan (unfitted releasing)).chan 0).out.brakeTimer ≠ none ∧
      ((withChan (unfitted releasing)).chan 0).out.brk = true ∧
      ((withChan (unfitted releasing)).chan 0).cfg.bfbFitted = false) := by decide

/-- A channel under a controlled stop whose stop hold time runs, with this brake-set confirmation. -/
def holdingOn (confirm : Timer) : Chan :=
  chanIn (.stopping .controlled) { State.resetOutput with raise := true, stopHoldTimer := some 150000, confirmTimer := confirm }

theorem witness_StopSequenceEnds :
    (((withChan confirming).chan 0).out.confirmTimer ≠ none ∧ ((withChan confirming).chan 0).cfg.bfbFitted = true ∧
      ((withChan confirming).chan 0).out.bfb = true ∧ ((withChan confirming).chan 0).state ≠ .off ∧
      ((withChan confirming).chan 0).state ≠ .starting ∧ ((withChan confirming).chan 0).state ≠ .running) ∧
    (((faultedWith (some 250000)).chan 0).out.confirmTimer ≠ none ∧ ((faultedWith (some 250000)).chan 0).out.bfb = false ∧
      ((faultedWith (some 250000)).chan 0).state = .faulted) ∧
    (((withChan (unfitted confirming)).chan 0).out.confirmTimer ≠ none ∧
      ((withChan (unfitted confirming)).chan 0).cfg.bfbFitted = false ∧
      ((withChan (unfitted confirming)).chan 0).state = .stopping .controlled ∧
      ((withChan (unfitted confirming)).chan 0).out.raise = false ∧
      ((withChan (unfitted confirming)).chan 0).out.lower = false ∧
      ((withChan (unfitted confirming)).chan 0).group = none ∧
      ((withChan (unfitted confirming)).chan 0).startPending = none) ∧
    (((withChan (holdingOn (some 250000))).chan 0).out.stopHoldTimer ≠ none ∧
      ((withChan (holdingOn (some 250000))).chan 0).state = .stopping .controlled ∧
      ((withChan (holdingOn (some 250000))).chan 0).out.confirmTimer ≠ none) ∧
    (((withChan (holdingOn none)).chan 0).out.stopHoldTimer ≠ none ∧
      ((withChan (holdingOn none)).chan 0).state = .stopping .controlled ∧
      ((withChan (holdingOn none)).chan 0).out.confirmTimer = none ∧ ((withChan (holdingOn none)).chan 0).group = none ∧
      ((withChan (holdingOn none)).chan 0).startPending = none) := by decide

/-- A PARKED channel whose dwell runs, with this start pending. -/
def dwelling (d : Option Dir) : Chan :=
  { parked with lastDir := some .up, startPending := d, out := { State.resetOutput with dwellTimer := some 500000 } }

/-- The state made ready to move with channel 0 replaced. -/
def readyWith (c : Chan) : State := ready.setChan 0 c

theorem witness_DwellExpiryRetestsTheStart :
    (((withChan (dwelling none)).chan 0).out.dwellTimer ≠ none ∧ ((withChan (dwelling none)).chan 0).startPending = none) ∧
    (((readyWith (dwelling (some .down))).chan 0).out.dwellTimer ≠ none ∧
      ((readyWith (dwelling (some .down))).chan 0).startPending = some .down ∧
      ((readyWith (dwelling (some .down))).chan 0).state = .parked ∧
      (readyWith (dwelling (some .down))).stops.estop = .clear ∧
      (readyWith (dwelling (some .down))).stops.monitor ≠ .low ∧
      ((readyWith (dwelling (some .down))).chan 0).lowerOpen = false ∧
      (readyWith (dwelling (some .down))).supply.state = .on) := by decide

/-- A RUNNING channel with its speed timeout and its no-motion timer running. -/
def timed : Chan := { running with pos := { running.pos with speedTimeout := some 250000, noMotion := some 1000000 } }

/-- `s` at this reading of the timebase. -/
def atTime (now : Time) (s : State) : State := { s with timebase := now }

/-- The last reading before each timer's due one, and the due one. -/
theorem witness_PeriodSpeedAndMotionTimers :
    (((withChan timed).chan 0).pos.speedTimeout = some 250000 ∧ Due (atTime 250000 (withChan timed)).timebase 250000 ∧
      ¬Due (atTime 249999 (withChan timed)).timebase 250000) ∧
    (((withChan timed).chan 0).pos.noMotion = some 1000000 ∧ ((withChan timed).chan 0).state = .running ∧
      Due (atTime 1000000 (withChan timed)).timebase 1000000 ∧ ¬Due (atTime 999999 (withChan timed)).timebase 1000000) := by
  decide

/-- A PARKED channel at this position with this bound flag, its held pair at (0,0). -/
def atPos (n : Nat) (b : BoundFlag) : Chan :=
  { parked with position := n, pos := { State.resetPos ⟨false, false⟩ with bound := b } }

/-- The channel of `atPos 0 .low` FAULTED by the first saturated edge. -/
def saturated : Chan := { atPos 0 .low with state := .faulted, faults := faultBit .encoder }

theorem witness_EncoderEdgesCount :
    (((withChan (atPos 65534 .none)).chan 0).state ≠ .off ∧
      (((withChan (atPos 65534 .none)).chan 0).pos.held, (⟨true, false⟩ : EncPair)) ∈ upPairs ∧
      ((withChan (atPos 65534 .none)).chan 0).position < 65535) ∧
    (((withChan (atPos 1 .none)).chan 0).state ≠ .off ∧
      ((⟨false, true⟩ : EncPair), ((withChan (atPos 1 .none)).chan 0).pos.held) ∈ upPairs ∧
      0 < ((withChan (atPos 1 .none)).chan 0).position) ∧
    ((State.reset.chan 0).state = .off ∧ ((withChan parked).chan 0).pos.held = ⟨false, false⟩) ∧
    (((withChan (atPos 0 .none)).chan 0).position = 0 ∧ ((withChan (atPos 0 .none)).chan 0).pos.bound ≠ .low ∧
      ((withChan (atPos 0 .none)).chan 0).state ≠ .off ∧
      ((⟨false, true⟩ : EncPair), ((withChan (atPos 0 .none)).chan 0).pos.held) ∈ upPairs) ∧
    (((withChan saturated).chan 0).position = 0 ∧ ((withChan saturated).chan 0).pos.bound = .low ∧
      ((withChan saturated).chan 0).state = .faulted ∧ ((withChan saturated).chan 0).pos.slipArmed = false) ∧
    (((withChan (atPos 65535 .none)).chan 0).position = 65535 ∧
      ((withChan (atPos 65535 .none)).chan 0).pos.bound ≠ .high ∧ ((withChan (atPos 65535 .none)).chan 0).state ≠ .off ∧
      (((withChan (atPos 65535 .none)).chan 0).pos.held, (⟨true, false⟩ : EncPair)) ∈ upPairs) ∧
    (((withChan { saturated with position := 65535, pos := (atPos 0 .high).pos }).chan 0).position = 65535 ∧
      ((withChan { saturated with position := 65535, pos := (atPos 0 .high).pos }).chan 0).pos.bound = .high ∧
      ((withChan { saturated with position := 65535, pos := (atPos 0 .high).pos }).chan 0).state = .faulted) := by decide

/-- The channel of `running` after an UP edge at 100 ms, with this wrong-direction count. -/
def edging (wrongDir : Int) : Chan :=
  { running with
    lastDir := some .down
    pos := { State.resetPos ⟨false, false⟩ with
      lastEdge := some .up, capture := .one 100000, wrongDir := wrongDir, noMotion := some 1000000 } }

/-- A PARKED channel with an armed slip accumulator at 7 counts, one below its slip count. -/
def slipping : Chan :=
  { parked with pos := { State.resetPos ⟨false, false⟩ with slip := 7, slipArmed := true } }

/-- The capture, slip and wrong-direction clauses: an UP edge from the pair (0,0), the slip one below its count, and the
wrong-direction count one below its limit. -/
theorem witness_EncoderEdgesCount_checks :
    EdgeOf .up ⟨false, false⟩ ⟨true, false⟩ ∧ EdgeOf .down ⟨false, false⟩ ⟨false, true⟩ ∧
    HasRoom .up ((withChan slipping).chan 0).position ∧ HasRoom .down ((withChan slipping).chan 0).position ∧
    (((withChan (edging 15)).chan 0).pos.held = ⟨false, false⟩ ∧ ((withChan (edging 15)).chan 0).pos.lastEdge = some .up ∧
      latestEdge ((withChan (edging 15)).chan 0).pos.capture = some 100000 ∧
      ((withChan (edging 15)).chan 0).pos.lastEdge ≠ some .down) ∧
    (((withChan slipping).chan 0).pos.slipArmed = true ∧ ((withChan slipping).chan 0).pos.slipStopped = false) ∧
    (((withChan (edging 15)).chan 0).pos.slipArmed = false ∧ ((withChan (edging 15)).chan 0).state = .running ∧
      ((withChan (edging 15)).chan 0).lastDir = some Dir.up.opposite ∧
      ((withChan (edging 15)).chan 0).pos.noMotion ≠ none) ∧
    after (.encoderChange 0 ⟨true, false⟩) (withChan slipping) (fun t => decide ((t.chan 0).state = .faulted)) = true ∧
    after (.encoderChange 0 ⟨true, false⟩) (withChan (edging 15)) (fun t =>
      hasFault (t.chan 0).faults .wrongDirection) = true ∧
    after (.encoderChange 0 ⟨true, false⟩) (atTime 102000 (withChan (edging 14))) (fun t =>
      decide ((t.chan 0).state = .running) && decide ((t.chan 0).pos.speed = 500)) = true := by decide

theorem witness_IllegalTransitionLosesReference :
    ((withChan parked).chan 0).state ≠ .off ∧ (⟨true, true⟩ : EncPair).a ≠ ((withChan parked).chan 0).pos.held.a ∧
    (⟨true, true⟩ : EncPair).b ≠ ((withChan parked).chan 0).pos.held.b := by decide

/-- The reset state with the supply in this state, its contact and its timers. -/
def supplied (st : SupplyState) (fb : Bool) (closing settling : Timer) : State :=
  { State.reset with
    supply := { state := st, mains := true, mainsfb := fb, closingTimer := closing, settlingTimer := settling } }

theorem witness_SupplyFollowsItsTable :
    ((supplied .closing false (some 500000) none).supply.state = .closing ∧
      (supplied .closing false (some 500000) none).supply.mainsfb = false ∧
      (supplied .closing false (some 500000) none).supply.closingTimer ≠ none) ∧
    ((supplied .settling true none (some 1500000)).supply.state = .settling ∧
      (supplied .settling true none (some 1500000)).supply.mainsfb = true ∧
      (supplied .settling true none (some 1500000)).supply.settlingTimer ≠ none ∧
      ∀ i : Channel, ((supplied .settling true none (some 1500000)).chan i).startPending = none) ∧
    (State.reset.supply.state = .off ∧ (supplied .failed false none none).supply.state = .failed) ∧
    (ready.supply.state = .on ∧ ready.supply.mainsfb = true) := by decide

/-- Channel 0 on input 3, in conversion, with this ring and this mark. -/
def converted (ring : List Nat) (discard : Bool) : State :=
  { withChan { parked with load := { State.resetLoad with input := some 3, ring := ring } } with
    settings := { State.resetSettings with enable := 0b00001000 }
    scanner := some { input := 3, start := 0, discard := discard } }

theorem witness_ConversionReachesItsChannel :
    ((converted [1, 2, 3, 4] false).scanner = some { input := 3, start := 0, discard := false } ∧
      ((converted [1, 2, 3, 4] false).chan 0).load.input = some 3 ∧
      (∀ j : Channel, ((converted [1, 2, 3, 4] false).chan j).load.input = some 3 → j = 0) ∧
      ((converted [1, 2, 3, 4] false).chan 0).load.ring.length ≤ 4 ∧ (4094 : BitVec 12) ≠ 0 ∧ (4094 : BitVec 12) ≠ 4095) ∧
    (converted [] true).scanner = some { input := 3, start := 0, discard := true } ∧
    after (.conversionComplete 4094) (converted [1, 2, 3, 4] false) (fun t =>
      decide ((t.chan 0).load.ring = [2, 3, 4, 3694])) = true := by decide

/-- Channel 0 on a run DOWN on input 3, in conversion, with its envelope 100..200 and both violation counts at 2. -/
def violating : State :=
  (converted [] false).setChan 0
    { runningDown with
      envMin := 100, envMax := 200, load := { State.resetLoad with input := some 3, overCount := 2, underCount := 2 } }

/-- Zero 400 and gain 256 make raw 601 a load of 201, and raw 499 one of 99: each the first past its bound. -/
theorem witness_ConversionReachesItsChannel_reports :
    (∀ j : Channel, (violating.chan j).load.input = some 3 → j = 0) ∧ (violating.chan 0).state ≠ .off ∧
    (violating.chan 0).state = .running ∧ (violating.chan 0).lastDir = some .down ∧
    2 ≤ (violating.chan 0).load.overCount ∧ hasFault (violating.chan 0).faults .overload = false ∧
    2 ≤ (violating.chan 0).load.underCount ∧ hasFault (violating.chan 0).faults .underload = false ∧
    hasFault (violating.chan 0).faults .loadcell = false ∧
    after (.conversionComplete 601) violating (fun t => decide ((t.chan 0).faults = faultBit .overload)) = true ∧
    after (.conversionComplete 600) violating (fun t => decide ((t.chan 0).state = .running)) = true ∧
    after (.conversionComplete 500) violating (fun t => decide ((t.chan 0).state = .running)) = true ∧
    after (.conversionComplete 499) violating (fun t => decide ((t.chan 0).faults = faultBit .underload)) = true ∧
    after (.conversionComplete 4095) violating (fun t => decide ((t.chan 0).faults = faultBit .loadcell)) = true ∧
    after (.conversionComplete 4094) violating (fun t => decide ((t.chan 0).load.status = .valid)) = true := by decide

/-- The state made ready with the pendant present and its stop closed. -/
def withPendant : State := { ready with arb := { ready.arb with ppres := true, pstopClosed := true, settled := true } }

/-- The pendant present with its stop open, the E-stop ACTIVE and the loop in this position. -/
def pendantOpen (loop : Bool) : State :=
  { withPendant with
    arb := { withPendant.arb with pstopClosed := false }
    stops := { withPendant.stops with estop := .active, estinClosed := loop, tripout := true } }

theorem witness_EstopOpensAndCloses :
    (ready.stops.estinClosed = true ∧ ready.stops.estop ≠ .active) ∧
    (withPendant.arb.pstopClosed = true ∧ withPendant.arb.ppres = true ∧ withPendant.stops.estop ≠ .active) ∧
    (State.reset.stops.estinClosed = false ∧ State.reset.stops.estop = .active ∧ State.reset.arb.ppres = false) ∧
    ((pendantOpen false).stops.estinClosed = false ∧ (pendantOpen false).stops.estop = .active ∧
      (pendantOpen false).arb.ppres = true ∧ (pendantOpen false).arb.pstopClosed = false) ∧
    ((pendantOpen true).stops.estop = .active ∧ (pendantOpen true).stops.estinClosed = true ∧
      (pendantOpen true).arb.ppres = true ∧ (pendantOpen true).arb.pstopClosed = false) := by decide

/-- Group 0 MOVING with its deadline running, its owner A and link A ACTIVE. -/
def deadlined : State :=
  ((grouped .moving ready).modGrp (.console 0) fun r => { r with deadline := some 250000, updateTimer := some 20000 }).setLink .a
    { state := .active, timer := some 500000 }

theorem witness_ControlledStopsAreMade :
    ready.stops.rstin = false ∧ State.reset.stops.rstin = true ∧
    ((deadlined.grp (.console 0)).deadline = some 250000 ∧ Due (atTime 250000 deadlined).timebase 250000 ∧
      ¬Due (atTime 249999 deadlined).timebase 250000) ∧
    ((deadlined.link .a).timer = some 500000 ∧ Due (atTime 500000 deadlined).timebase 500000 ∧
      ¬Due (atTime 499999 deadlined).timebase 500000) ∧
    OwnedBy .a deadlined 0 ∧ ¬OwnedBy .a deadlined 1 ∧ (deadlined.grp (.console 0)).state.stoppable = true := by decide

/-- R84: a good frame and an expiry of the link timer at one moment, the frame first: no loss occurs. -/
theorem test_frame_before_link_expiry :
    (run [.readPart .a [], .linkTimerExpiry .a] (atTime 500000 deadlined)).any (fun t =>
      decide ((t.link .a).state = .active)) = true ∧
    (run [.linkTimerExpiry .a] (atTime 500000 deadlined)).any (fun t => decide ((t.link .a).state = .lost)) = true := by
  decide +kernel

/-- R92: a HOLD and an expiry of the hold deadline at one moment, the HOLD first: the expiry does not happen. -/
theorem test_hold_before_deadline :
    (run [.hold .a .addressed [1], .holdDeadlineExpiry 0] (atTime 250000 deadlined)).any (fun t =>
      decide ((t.grp (.console 0)).state = .moving) && decide ((t.grp (.console 0)).deadline = some 500000)) = true ∧
    (run [.holdDeadlineExpiry 0] (atTime 250000 deadlined)).any (fun t =>
      decide ((t.grp (.console 0)).state.stoppable = false)) = true := by
  decide +kernel

/-- The reset state with the monitor in this state, its low timer and the level 21.0 V. -/
def monitored (m : MonitorState) (low : Timer) : State :=
  { State.reset with stops := { State.reset.stops with monitor := m, lowTimer := low, vctl := 21000 } }

theorem witness_MonitorFollowsTheSupply :
    ((monitored .normal none).stops.monitor = .normal ∧ 20999 < 18000 + 500 * (monitored .normal none).settings.level) ∧
    ((monitored .dip (some 10000)).stops.monitor = .dip ∧
      18000 + 500 * (monitored .dip (some 10000)).settings.level ≤ 21000 ∧
      (monitored .dip (some 10000)).stops.lowTimer ≠ none) ∧
    ((monitored .low none).stops.monitor = .low ∧ 21500 ≤ 18000 + 500 * (monitored .low none).settings.level + 500) := by
  decide

theorem witness_ControlLowEnds :
    (monitored .low none).stops.monitor = .low ∧ 18000 + 500 * (monitored .low none).settings.level + 500 < 21501 := by decide

/-- The pendant present, the switch of channel 0 in this position, and channel 0 held by and grouped with it or free. -/
def selecting (closed held : Bool) : State :=
  { withPendant.setChan 0
      { parked with
        holder := if held then .pendant else .none, group := if held then some .pendant else none } with
    arb := { withPendant.arb with psel := if closed then 1 else 0 } }

theorem witness_PendantSelects :
    (((selecting false false).grp .pendant).state = .idle ∧ (selecting false false).arb.ppres = true ∧
      (∀ j : Channel, j ≠ 0 →
        (inSet (selecting false false).arb.psel j = true →
          ((selecting false false).chan j).holder ≠ .none ∨ ((selecting false false).chan j).state = .off) ∧
        (inSet (selecting false false).arb.psel j = false → ((selecting false false).chan j).holder ≠ .pendant)) ∧
      inSet (selecting false false).arb.psel 0 = false ∧ ((selecting false false).chan 0).holder = .none ∧
      ((selecting false false).chan 0).state ≠ .off ∧
      ∀ j : Channel, ((selecting false false).chan j).group = some .pendant →
        ((selecting false false).chan j).cfg.kind = ((selecting false false).chan 0).cfg.kind) ∧
    (((selecting true true).grp .pendant).state = .idle ∧ (selecting true true).arb.ppres = true ∧
      (∀ j : Channel, j ≠ 0 →
        (inSet (selecting true true).arb.psel j = true →
          ((selecting true true).chan j).holder ≠ .none ∨ ((selecting true true).chan j).state = .off) ∧
        (inSet (selecting true true).arb.psel j = false → ((selecting true true).chan j).holder ≠ .pendant)) ∧
      inSet (selecting true true).arb.psel 0 = true ∧ ((selecting true true).chan 0).holder = .pendant ∧
      (selecting true true).arb.settled = true ∧ (selecting true true).stops.estop ≠ .active) := by decide

/-- `s` with the pendant absent. -/
def unplugged (s : State) : State := { s with arb := { s.arb with ppres := false } }

/-- The pendant holding channel 0 with a jog UP in this state of its group and these levels. -/
def jogging (st : GroupState) (penb pup : Bool) : State :=
  { (selecting true true).modGrp .pendant fun r =>
      { r with state := st, updateTimer := some 20000, prof := { r.prof with dir := .up } } with
    arb := { (selecting true true).arb with penb := penb, pup := pup } }

theorem witness_PendantSelects_moves :
    (((unplugged (selecting true false)).grp .pendant).state = .idle ∧ (unplugged (selecting true false)).arb.ppres = false ∧
      (unplugged (selecting true false)).arb.settled = true ∧ (unplugged (selecting true false)).arb.pstopClosed = true ∧
      (∀ j : Channel, j ≠ 0 →
        (inSet (unplugged (selecting true false)).arb.psel j = true →
          ((unplugged (selecting true false)).chan j).holder ≠ .none ∨
            ((unplugged (selecting true false)).chan j).state = .off) ∧
        (inSet (unplugged (selecting true false)).arb.psel j = false →
          ((unplugged (selecting true false)).chan j).holder ≠ .pendant)) ∧
      inSet (unplugged (selecting true false)).arb.psel 0 = true ∧
      ((unplugged (selecting true false)).chan 0).holder = .none ∧
      ((unplugged (selecting true false)).chan 0).state ≠ .off ∧
      ∀ j : Channel, ((unplugged (selecting true false)).chan j).group = some .pendant →
        ((unplugged (selecting true false)).chan j).cfg.kind = ((unplugged (selecting true false)).chan 0).cfg.kind) ∧
    (((jogging .moving true true).grp .pendant).state.stoppable = true ∧ (jogging .moving true true).arb.ppres = true ∧
      (jogging .moving true true).arb.settled = true ∧ (jogging .moving true true).stops.estop ≠ .active ∧
      inSet (jogging .moving true true).arb.psel 0 = !false ∧ inSet (jogging .moving true true).arb.psel 1 = !true ∧
      ((jogging .moving true true).chan 0).group = some .pendant) := by decide

/-- The pendant holding channel 0 with PENB active. -/
def enabled : State := { selecting true true with arb := { (selecting true true).arb with penb := true } }

theorem witness_PendantJogStarts :
    MembersAre .pendant false enabled ∧ enabled.arb.ppres = true ∧ enabled.arb.penb = true ∧ enabled.arb.pup = false ∧ enabled.arb.pdn = false ∧
    (enabled.grp .pendant).state = .idle ∧ (∃ i : Channel, (enabled.chan i).group = some .pendant) ∧
    enabled.stops.estop = .clear ∧ enabled.stops.monitor ≠ .low ∧ enabled.stops.rstin = false ∧
    enabled.supply.state = .on ∧
    (∀ i : Channel, (enabled.chan i).group = some .pendant →
      (enabled.chan i).state ≠ .faulted ∧ (enabled.chan i).thermal = false ∧ (enabled.chan i).upperOpen = false ∧
      (enabled.chan i).lowerOpen = false) := by decide

/-- The events of a jog: PUP, PDN or PENB becoming active, one of two active buttons let go, and the release of PUP and of
PENB; the exit from TRIPPED with every member PARKED and with one RUNNING. -/
theorem witness_PendantJogStarts_events :
    (¬JogHeld .up enabled.arb ∧ ¬JogHeld .down enabled.arb ∧ JogHeld .up (pendantLevels .pup true enabled.arb) ∧
      JogHeld .down (pendantLevels .pdn true enabled.arb)) ∧
    (¬JogHeld .up (jogging .idle false true).arb ∧ ¬JogHeld .down (jogging .idle false true).arb ∧
      JogHeld .up (pendantLevels .penb true (jogging .idle false true).arb)) ∧
    (¬JogHeld .up { (jogging .idle true true).arb with pdn := true } ∧
      ¬JogHeld .down { (jogging .idle true true).arb with pdn := true } ∧
      JogHeld .up (pendantLevels .pdn false { (jogging .idle true true).arb with pdn := true })) ∧
    (((jogging .idle true true).grp .pendant).state = .idle ∧ JogHeld .up (jogging .idle true true).arb) ∧
    (((jogging .moving true true).grp .pendant).state.stoppable = true ∧
      ((jogging .moving true true).grp .pendant).prof.dir = .up ∧ JogHeld .up (jogging .moving true true).arb ∧
      ¬JogHeld .up (pendantLevels .pup false (jogging .moving true true).arb) ∧
      ¬JogHeld .up (pendantLevels .penb false (jogging .moving true true).arb)) ∧
    (((jogging .tripped true false).grp .pendant).state = .tripped ∧ (jogging .tripped true false).arb.penb = true ∧
      (∀ i : Channel, ((jogging .tripped true false).chan i).group = some .pendant →
        ((jogging .tripped true false).chan i).state = .parked)) ∧
    (let s := (jogging .tripped true false).modChan 0 fun c => { c with state := .running }
     (s.chan 0).group = some .pendant ∧ (s.chan 0).state ≠ .parked) ∧
    ((jogging .stopping true true).grp .pendant).state = .stopping := by decide

/-- Group 0 in this state of a move, its start, hold and finish timers running. -/
def timedGroup (st : GroupState) : State :=
  (grouped st ready).modGrp (.console 0) fun r =>
    { r with
      updateTimer := some 20000, startTimer := some 3000000
      prof := { r.prof with holdTimer := some 3000000, finishTimer := some 3000000 } }

/-- Group 0 in this state of a cue move in this phase, with this progress and rate, its one member channel 0. -/
def moved (st : GroupState) (phase : Phase) (p q : Nat) : State :=
  (grouped st ready).modGrp (.console 0) fun r =>
    { r with
      updateTimer := some 20000
      prof := { State.resetProfile with
        phase := phase, p := p, q := q, qCruise := 25, a := 10
        members := State.resetProfile.members.set 0 (freshMember ⟨1000, 1010, 10, .up, 500⟩ false) } }

/-- The member item of channel 0 in a cue from 1000 UP to 1010. -/
def member0 : Member := freshMember ⟨1000, 1010, 10, .up, 500⟩ false

/-- The profile record of `moved` at the start of the move, its load-share check off. -/
def prof0 : Profile := { State.resetProfile with phase := .accel, qCruise := 25, a := 10, loadCheck := .off }

/-- Group 0 in this state of a cue move with this profile record, its one member this channel with this item. -/
def updating (st : GroupState) (pr : Profile) (m : Member) (c : Chan) : State :=
  ((grouped st ready).setChan 0 { c with group := some (.console 0) }).modGrp (.console 0) fun r =>
    { r with updateTimer := some 20000, prof := { pr with members := pr.members.set 0 m } }

/-- The channel of `running` at this position. -/
def runningAt (n : Nat) : Chan := { running with position := n }

/-- The same rack with channel 1 as a second member; both have these loads, valid, and these reference shares and counts. -/
def sharing (check : LoadCheck) (ref : Option Nat) (viol load0 load1 : Nat) : State :=
  let m : Member := { member0 with refShare := ref, viol := viol }
  let c := fun (load : Nat) =>
    { running with group := some (.console 0), load := { State.resetLoad with status := .valid, filtered := load } }
  (((updating .moving { prof0 with loadCheck := check } m (c load0)).setChan 0 (c load0)).setChan 1 (c load1)).modGrp
    (.console 0) fun r => { r with prof := { r.prof with members := r.prof.members.set 1 m } }

/-- Group 0 in MOVING in a FIXED cue. -/
def fixedAt (st : GroupState) (pr : Profile) (m : Member) (c : Chan) : State :=
  updating st { pr with phase := .cruise } m { c with cfg := { c.cfg with kind := .fixedSpeed } }

theorem witness_GroupTimersTrip :
    ((timedGroup .starting).grp (.console 0)).state.inMove = true ∧
    (GroupId.console 0 = GroupId.pendant → (timedGroup .starting).arb.penb = true) ∧
    ((timedGroup .starting).grp (.console 0)).startTimer ≠ none ∧
    ((timedGroup .holding).grp (.console 0)).state.inMove = true ∧
    ((timedGroup .holding).grp (.console 0)).prof.holdTimer ≠ none ∧
    ((timedGroup .moving).grp (.console 0)).state.inMove = true ∧
    ((timedGroup .moving).grp (.console 0)).prof.finishTimer ≠ none := by decide

/-- The trip lag of 200 and the trip lead of 200 at their bounds, and the third violation of a share (300 of 1024 against
512). -/
theorem witness_GroupTimersTrip_updates :
    (((updating .moving prof0 member0 (runningAt 800)).grp (.console 0)).updateTimer ≠ none ∧
      ((updating .moving prof0 member0 (runningAt 800)).grp (.console 0)).state = .moving ∧
      MembersAre (.console 0) false (updating .moving prof0 member0 (runningAt 800)) ∧
      lagsNow (.console 0) false (updating .moving prof0 member0 (runningAt 800)) 0 = true ∧
      lagsNow (.console 0) false (updating .moving prof0 member0 (runningAt 801)) 0 = false) ∧
    ((∀ i : Channel, lagsNow (.console 0) false (updating .moving prof0 member0 (runningAt 1200)) i = false) ∧
      leadsNow (.console 0) false (updating .moving prof0 member0 (runningAt 1200)) 0 = true ∧
      leadsNow (.console 0) false (updating .moving prof0 member0 (runningAt 1199)) 0 = false) ∧
    (MembersAre (.console 0) false (sharing .on (some 512) 2 300 724) ∧
      (∀ i : Channel, lagsNow (.console 0) false (sharing .on (some 512) 2 300 724) i = false ∧
        leadsNow (.console 0) false (sharing .on (some 512) 2 300 724) i = false) ∧
      shiftsNow (.console 0) (sharing .on (some 512) 2 300 724) 0 = true ∧
      shiftsNow (.console 0) (sharing .on (some 512) 1 300 724) 0 = false) := by
  decide +kernel

/-- R136: a finish timer that expires with every member arrived names no channel (log entry 33). -/
theorem test_finish_timer_names_no_arrived_member :
    after (.finishTimerExpiry (.console 0))
      (updating .moving { prof0 with p := 65536, finishTimer := some 2000000 } { member0 with arrived := true }
        (runningAt 1010)) (fun t =>
      decide ((t.grp (.console 0)).trip = some { cause := .syncStall, channel := none, further := 0 })) = true := by
  decide +kernel

theorem witness_UpdateAdvancesProgress :
    ∀ p ∈ [0, 65525],
      ((moved .moving .accel p 0).grp (.console 0)).updateTimer = some 20000 ∧
      ((moved .moving .accel p 0).grp (.console 0)).state = .moving ∧
      ((moved .moving .accel p 0).grp (.console 0)).moveKind = .cue ∧
      ((moved .moving .accel p 0).chan 0).group = some (.console 0) ∧
      (∀ j : Channel, ((moved .moving .accel p 0).chan j).group = some (.console 0) →
        ((moved .moving .accel p 0).chan j).cfg.kind = .variableSpeed) ∧
      (((moved .moving .accel p 0).grp (.console 0)).prof.members.get 0).arrived = false ∧
      ((moved .moving .accel p 0).grp (.console 0)).prof.phase = .accel ∧
      0 * 0 / (2 * 10) + 0 < 65536 - ((moved .moving .accel p 0).grp (.console 0)).prof.p ∧
      ((moved .moving .accel p 0).grp (.console 0)).prof.p + min (0 + 10) 25 < 65536 := by decide

/-- A jog of group 0 with this bound. -/
def bounded (jMax : Nat) : State :=
  (updating .moving { prof0 with jMax := some jMax } member0 (runningAt 1000)).modGrp (.console 0) fun r =>
    { r with moveKind := .jog }

/-- The hold lag of 60 at its bound and one below; a jog that reaches its bound; and the load-share decision with loads that
sum to 50. -/
theorem witness_UpdateAdvancesProgress_outcomes :
    (∀ n ∈ [940, 941, 1000],
      ((updating .moving prof0 member0 (runningAt n)).grp (.console 0)).updateTimer = some 20000 ∧
      ((updating .moving prof0 member0 (runningAt n)).grp (.console 0)).state = .moving ∧
      MembersAre (.console 0) false (updating .moving prof0 member0 (runningAt n)) ∧
      NoTripNow (.console 0) false (updating .moving prof0 member0 (runningAt n)) ∧
      ¬AtJogBound (.console 0) false (updating .moving prof0 member0 (runningAt n)) ∧
      SwitchesClosed (.console 0) (updating .moving prof0 member0 (runningAt n)) ∧
      stillAway (.console 0) false (updating .moving prof0 member0 (runningAt n)) 0 = true) ∧
    holdsNow (.console 0) false (updating .moving prof0 member0 (runningAt 940)) 0 = true ∧
    (∀ j : Channel, holdsNow (.console 0) false (updating .moving prof0 member0 (runningAt 941)) j = false) ∧
    (((bounded 10).grp (.console 0)).updateTimer = some 20000 ∧ MembersAre (.console 0) false (bounded 10) ∧
      NoTripNow (.console 0) false (bounded 10) ∧ AtJogBound (.console 0) false (bounded 10) ∧
      ¬AtJogBound (.console 0) false (bounded 11) ∧ StopTakesTime ((bounded 10).chan 0)) ∧
    (((sharing .undecided none 0 25 25).grp (.console 0)).updateTimer = some 20000 ∧
      MembersAre (.console 0) false (sharing .undecided none 0 25 25) ∧
      NoTripNow (.console 0) false (sharing .undecided none 0 25 25) ∧
      ((sharing .undecided none 0 25 25).grp (.console 0)).prof.loadCheck = .undecided ∧
      (∃ j : Channel, stillAway (.console 0) false (sharing .undecided none 0 25 25) j = true) ∧
      2 ≤ (channels.filter (loadTaken (.console 0) (sharing .undecided none 0 25 25))).length ∧
      loadTotal (loadTaken (.console 0) (sharing .undecided none 0 25 25)) (sharing .undecided none 0 25 25) = 50 ∧
      loadTotal (loadTaken (.console 0) (sharing .undecided none 0 25 24)) (sharing .undecided none 0 25 24) < 50) := by
  decide +kernel

/-- Group 0 in a cue whose member is arrived and PARKED at this position, the deadline running, with this follow and a cue
to 1040 after it. -/
def completing (follow : Follow) (n : Nat) : State :=
  (updating .moving { prof0 with p := 65536 } { member0 with arrived := true } { parked with position := n }).modGrp
    (.console 0) fun r =>
      { r with
        deadline := some 250000
        queue := [{ cue with follow := follow }, { cue with tag := 8, entries := [(0, 1040)] }] }

/-- The completion of a cue: the settle band of 15 at its bound and one past it, with and without a next cue. -/
theorem witness_UpdateAdvancesProgress_completion :
    (∀ n ∈ [1025, 1026],
      ((completing .autoNext n).grp (.console 0)).updateTimer = some 20000 ∧
      ((completing .autoNext n).grp (.console 0)).state = .moving ∧
      ((completing .autoNext n).grp (.console 0)).moveKind = .cue ∧
      MembersAre (.console 0) false (completing .autoNext n) ∧ NoTripNow (.console 0) false (completing .autoNext n) ∧
      (∀ j : Channel, ((completing .autoNext n).chan j).group = some (.console 0) →
        (((completing .autoNext n).grp (.console 0)).prof.members.get j).arrived = true ∧
        ((completing .autoNext n).chan j).state = .parked) ∧
      ((completing .autoNext n).grp (.console 0)).deadline ≠ none ∧ (completing .autoNext n).stops.estop = .clear ∧
      (completing .autoNext n).stops.monitor ≠ .low ∧ (completing .autoNext n).stops.rstin = false ∧
      (completing .autoNext n).supply.state = .on ∧
      (∀ j : Channel, ((completing .autoNext n).chan j).group = some (.console 0) →
        ((completing .autoNext n).chan j).referenced = true ∧ ((completing .autoNext n).chan j).window = .valid ∧
        ((completing .autoNext n).chan j).thermal = false ∧ ((completing .autoNext n).chan j).load.status = .none) ∧
      ((completing .autoNext n).chan 0).lower ≤ 1040 ∧ 1040 ≤ ((completing .autoNext n).chan 0).upper ∧
      ((completing .autoNext n).chan 0).upperOpen = false ∧ 1040 ≠ ((completing .autoNext n).chan 0).position) ∧
    after (.groupUpdate (.console 0)) (completing .autoNext 1025) (fun t =>
      decide ((t.grp (.console 0)).state = .starting) &&
      decide (t.notices.ca.pending = noticeBit (.group 0 .done))) = true ∧
    after (.groupUpdate (.console 0)) (completing .stopAtEnd 1026) (fun t =>
      decide ((t.grp (.console 0)).state = .idle) &&
      decide (t.notices.ca.pending = noticeBit (.group 0 .miss) ||| noticeBit (.group 0 .done))) = true := by
  decide +kernel

theorem witness_UpdateFormsErrorsAndStops :
    (((moved .starting .accel 0 0).grp (.console 0)).updateTimer = some 20000 ∧
      ((moved .starting .accel 0 0).grp (.console 0)).state = .starting ∧
      ((moved .starting .accel 0 0).chan 0).group = some (.console 0) ∧
      (((moved .starting .accel 0 0).grp (.console 0)).prof.members.get 0).plan = some ⟨1000, 1010, 10, .up, 500⟩) ∧
    (((moved .stopping .stopping 100 10).grp (.console 0)).updateTimer = some 20000 ∧
      ((moved .stopping .stopping 100 10).grp (.console 0)).state = .stopping ∧
      ((moved .stopping .stopping 100 10).grp (.console 0)).prof.q ≤
        ((moved .stopping .stopping 100 10).grp (.console 0)).prof.a ∧
      (∃ i : Channel, ((moved .stopping .stopping 100 10).chan i).group = some (.console 0)) ∧
      (∀ j : Channel, ((moved .stopping .stopping 100 10).chan j).group = some (.console 0) →
        ((moved .stopping .stopping 100 10).chan j).cfg.kind = .variableSpeed)) := by decide

/-- The release lag of 20 and the arrive band of 3 at their bounds, and one past each. -/
theorem witness_UpdateFormsErrorsAndStops_moves :
    (∀ n ∈ [979, 980],
      ((updating .holding prof0 member0 (runningAt n)).grp (.console 0)).updateTimer = some 20000 ∧
      MembersAre (.console 0) false (updating .holding prof0 member0 (runningAt n)) ∧
      NoTripNow (.console 0) false (updating .holding prof0 member0 (runningAt n)) ∧
      SwitchesClosed (.console 0) (updating .holding prof0 member0 (runningAt n)) ∧
      ((updating .holding prof0 member0 (runningAt n)).grp (.console 0)).state = .holding ∧
      stillAway (.console 0) false (updating .holding prof0 member0 (runningAt n)) 0 = true) ∧
    waitsNow (.console 0) false (updating .holding prof0 member0 (runningAt 979)) 0 = true ∧
    (∀ j : Channel, waitsNow (.console 0) false (updating .holding prof0 member0 (runningAt 980)) j = false) ∧
    (∀ n ∈ [1006, 1007, 1013, 1014],
      ((updating .moving { prof0 with p := 65536 } member0 (runningAt n)).grp (.console 0)).updateTimer = some 20000 ∧
      MembersAre (.console 0) false (updating .moving { prof0 with p := 65536 } member0 (runningAt n)) ∧
      NoTripNow (.console 0) false (updating .moving { prof0 with p := 65536 } member0 (runningAt n)) ∧
      SwitchesClosed (.console 0) (updating .moving { prof0 with p := 65536 } member0 (runningAt n)) ∧
      StopTakesTime ((updating .moving { prof0 with p := 65536 } member0 (runningAt n)).chan 0) ∧
      arrivesNow (.console 0) false (updating .moving { prof0 with p := 65536 } member0 (runningAt n)) 0 =
        decide (1007 ≤ n ∧ n ≤ 1013) ∧
      ((updating .moving { prof0 with p := 65536 } member0 (runningAt n)).chan 0).state = .running ∧
      (((updating .moving { prof0 with p := 65536 } member0 (runningAt n)).grp (.console 0)).prof.members.get 0).plan =
        some ⟨1000, 1010, 10, .up, 500⟩) := by
  decide +kernel

/-- The member item of channel 0 in a cue from 1000 UP to 2000. -/
def longMember (paused : Bool) : Member := { freshMember ⟨1000, 2000, 1000, .up, 1000⟩ false with trimPaused := paused }

/-- A FIXED member in its cue, at this position: RUNNING, or PARKED in a trim pause. -/
def trimming (paused : Bool) (n : Nat) : State :=
  fixedAt .moving { prof0 with qCruise := 0 } (longMember paused)
    (if paused then { parked with position := n, lastDir := some .up } else runningAt n)

/-- The trim windows of 40 and 10 at their bounds and one past each. -/
theorem witness_UpdateFormsErrorsAndStops_trim :
    (∀ b ∈ [false, true], ∀ n ∈ [1039, 1040, 1010, 1011],
      ((trimming b n).grp (.console 0)).updateTimer = some 20000 ∧ ((trimming b n).grp (.console 0)).state = .moving ∧
      MembersAre (.console 0) true (trimming b n) ∧ NoTripNow (.console 0) true (trimming b n) ∧
      SwitchesClosed (.console 0) (trimming b n) ∧ ¬AtJogBound (.console 0) true (trimming b n) ∧
      stillAway (.console 0) true (trimming b n) 0 = true ∧ updError (.console 0) true (trimming b n) 0 = (n : Int) - 1000 ∧
      (((trimming b n).grp (.console 0)).prof.members.get 0).trimPaused = b ∧
      (b = true ∨ StopTakesTime ((trimming b n).chan 0)) ∧ (b = false ∨ ((trimming b n).chan 0).state = .parked) ∧
      ((trimming b n).chan 0).lastDir = some .up) ∧
    ((trimming true 0).stops.estop = .clear ∧ (trimming true 0).stops.monitor ≠ .low ∧
      (trimming true 0).supply.state = .on) ∧
    after (.groupUpdate (.console 0)) (trimming false 1040) (fun t =>
      decide ((t.chan 0).state = .stopping .controlled)) = true ∧
    after (.groupUpdate (.console 0)) (trimming true 1010) (fun t => decide ((t.chan 0).state = .starting)) = true ∧
    after (.groupUpdate (.console 0)) (trimming true 1011) (fun t => decide ((t.chan 0).state = .parked)) = true := by
  decide +kernel

/-- The comparison of load shares with a violation (300 of 1024 against 512) and without one. -/
theorem witness_UpdateFormsErrorsAndStops_shares :
    (MembersAre (.console 0) false (sharing .on (some 512) 1 300 724) ∧
      NoTripNow (.console 0) false (sharing .on (some 512) 1 300 724) ∧
      SwitchesClosed (.console 0) (sharing .on (some 512) 1 300 724) ∧
      ((sharing .on (some 512) 1 300 724).grp (.console 0)).prof.loadCheck = .on ∧
      (((sharing .on (some 512) 1 300 724).grp (.console 0)).prof.members.get 0).refShare.isSome = true ∧
      ((sharing .on (some 512) 1 300 724).chan 0).group = some (.console 0) ∧
      (∃ j : Channel, stillAway (.console 0) false (sharing .on (some 512) 1 300 724) j = true)) ∧
    after (.groupUpdate (.console 0)) (sharing .on (some 512) 1 300 724) (fun t =>
      decide (((t.grp (.console 0)).prof.members.get 0).viol = 2)) = true ∧
    after (.groupUpdate (.console 0)) (sharing .on (some 512) 1 512 512) (fun t =>
      decide (((t.grp (.console 0)).prof.members.get 0).viol = 0)) = true := by
  decide +kernel

theorem witness_CommandedStaysInsideTheMove :
    (profA .decel 65536 5).p ≤ 65536 ∧ planA0.dir = .up ∧ (profA .decel 65536 5).p = 65536 ∧
    ({ planA0 with dir := .down } : MemberPlan).dir = .down ∧
    (planA0.target : Int) = planA0.start + signOf planA0.dir * planA0.dist ∧
    ((profA .decel 65536 5).phase = .decel ∧ (profA .cruise 0 297).phase = .cruise ∧ (profA .accel 0 0).phase = .accel) ∧
    advanceMoving false .cue (profA .cruise 0 297) = profA .cruise 297 297 := by decide

/-- Link A ACTIVE. -/
def activeA : State := State.reset.setLink .a { state := .active, timer := some 500000 }

theorem witness_GoodFrameRefreshesLink : (activeA.link .a).state = .active ∧ (State.reset.link .a).state ≠ .active := by decide

/-- The receiver of link A in this state. -/
def portA (r : Receiver) : State := State.reset.setPort .a r

theorem witness_ReceiverReturnsToHunting :
    (portA (.receiving [1] 2000)).port .a = .receiving [1] 2000 ∧
    Due (atTime 2000 (portA (.receiving [1] 2000))).timebase 2000 ∧
    ¬Due (atTime 1999 (portA (.receiving [1] 2000))).timebase 2000 ∧
    (portA (.answering ⟨1, .ok, []⟩)).port .a = .answering ⟨1, .ok, []⟩ := by decide

/-- A frame of 64 payload bytes, the most a frame carries, is read. -/
theorem witness_LinkInterfaceRefuses :
    Ready .a (tooLong.drop 1) State.reset ∧ requestCodes.contains 0x99 = false ∧ broadcastCodes.contains 0x01 = false ∧
    (tooLong.drop 1).length ≠ 1 ∧ (tooLong.drop 1).length ≠ 19 ∧ (tooLong.drop 1).length ≠ 23 ∧
    (tooLong.drop 1).length ≠ 8 := by decide

theorem witness_CharactersCollectAFrame :
    State.reset.port .a = .hunting ∧ (0xA4 : Byte) ≠ 0xA5 ∧
    isAnswering ((portA (.answering ⟨1, .ok, []⟩)).port .a) = true ∧
    (portA (.receiving [] 2000)).port .a = .receiving [] 2000 ∧ (portA (.receiving [1] 2000)).port .a = .receiving [1] 2000 ∧
    64 < (65 : Byte).toNat ∧ (64 : Byte).toNat ≤ 64 ∧
    (portA (.receiving [1, 0] 2000)).port .a = .receiving [1, 0] 2000 ∧
    [(1 : Byte), 0].length + 1 < ([(1 : Byte), 0].getD 1 0).toNat + 5 := by decide

/-- The state after reset with these straps. -/
def strapped (n : BitVec 5) : State := { State.reset with station := n }

theorem witness_FrameBytesMakeTheRequest :
    (strapped 30).port .a = .hunting ∧ 1 ≤ (strapped 30).station.toNat ∧ (strapped 30).station.toNat ≤ 30 ∧
    (tooLong.drop 1).length ≤ 64 := by decide

theorem witness_ReadsChangeNothing :
    Ready .a [] (strapped 1) ∧ Ready .b [] (strapped 30) ∧ (7 : Byte).toNat = (7 : Channel).val ∧
    (3 : Byte).toNat = (3 : ConsoleGroup).val ∧ 8 ≤ (8 : Byte).toNat ∧ 4 ≤ (4 : Byte).toNat := by decide

/-- Channel 0 held by this holder. -/
def heldAs (h : Holder) : State := withChan { parked with holder := h }

theorem witness_SelectTakesUnheldChannels :
    Ready .a [1] (heldAs (.console .b)) ∧
    (∀ i : Channel, inSet 1 i = true → ((heldAs .none).chan i).holder = .none ∨ HeldBy .a (heldAs .none) i) ∧
    ¬(∀ i : Channel, inSet 1 i = true →
      ((heldAs (.console .b)).chan i).holder = .none ∨ HeldBy .a (heldAs (.console .b)) i) := by decide

/-- Channel 0 held by console B, in console B's group 0 or in no group, with B's link as given. -/
def heldByB (inGroup : Bool) (s : State) : State :=
  (s.setChan 0 { parked with holder := .console .b, group := if inGroup then some (.console 0) else none }).setGrp (.console 0)
    { State.resetGroup with owner := .console .b }

theorem witness_ReleaseAndForceRelease :
    Ready .a [1] (heldByB false (lostB State.reset)) ∧ ¬(∀ i : Channel, inSet 1 i = true → HeldBy .a (heldByB false State.reset) i) ∧
    ((∀ i : Channel, inSet 1 i = true → HeldBy .a (grouped .idle State.reset) i) ∧
      ∃ i : Channel, inSet 1 i = true ∧ ((grouped .idle State.reset).chan i).group ≠ none) ∧
    ((∀ i : Channel, inSet 1 i = true → HeldBy .a (withChan parked) i) ∧
      ¬∃ i : Channel, inSet 1 i = true ∧ ((withChan parked).chan i).group ≠ none) ∧
    ¬(∀ i : Channel, inSet 1 i = true → HeldBy .b (withChan parked) i) ∧
    ((∀ i : Channel, inSet 1 i = true → HeldBy .b (heldByB false State.reset) i) ∧
      ((heldByB false State.reset).link .b).state ≠ .lost) ∧
    ((∀ i : Channel, inSet 1 i = true → HeldBy .b (heldByB true (lostB State.reset)) i) ∧
      ((heldByB true (lostB State.reset)).link .b).state = .lost ∧
      ∃ i : Channel, inSet 1 i = true ∧ ((heldByB true (lostB State.reset)).chan i).group ≠ none) ∧
    ((∀ i : Channel, inSet 1 i = true → HeldBy .b (heldByB false (lostB State.reset)) i) ∧
      ((heldByB false (lostB State.reset)).link .b).state = .lost ∧
      ¬(∃ i : Channel, inSet 1 i = true ∧ ((heldByB false (lostB State.reset)).chan i).group ≠ none) ∧ (1 : Byte) ≠ 0) := by
  decide

/-- Console B's group 0 with B's link LOST, in this state. -/
def ofLostB (st : GroupState) : State := (heldByB true (lostB State.reset)).modGrp (.console 0) fun r => { r with state := st }

theorem witness_TakeGroupMovesOwnership :
    Ready .a [BitVec.ofNat 8 (0 : ConsoleGroup).val] State.reset ∧ ¬OwnedBy .b State.reset 0 ∧
    (OwnedBy .b (heldByB true State.reset) 0 ∧ ((heldByB true State.reset).link .b).state ≠ .lost) ∧
    (OwnedBy .b (ofLostB .moving) 0 ∧ ((ofLostB .moving).link .b).state = .lost ∧
      ((ofLostB .moving).grp (.console 0)).state.inMove = true) ∧
    (OwnedBy .b (ofLostB .tripped) 0 ∧ ((ofLostB .tripped).link .b).state = .lost ∧
      ((ofLostB .tripped).grp (.console 0)).state.inMove = false) ∧ 4 ≤ (4 : Byte).toNat := by decide

/-- A configuration block of 18 bytes with this kind, feedback fitted and frequency code. -/
def block (kind fitted code : Byte) : List Byte := [kind, 3, 232, 3, 232, 32, 10, fitted, 0, 100, 0, 250, 0, 150, 1, 244, 8, code]

theorem witness_ConfigChannelRefusals :
    (block 3 1 1).length = 18 ∧ Ready .a [] (withChan parked) ∧ ¬((block 3 1 1).getD 0 0).toNat ≤ 2 ∧
    (((block 2 1 3).getD 0 0).toNat ≤ 2 ∧ ((block 2 1 3).getD 7 0).toNat ≤ 1 ∧ ((block 2 1 3).getD 17 0).toNat ≤ 3) ∧
    ¬HeldBy .a (heldAs .none) 0 ∧
    (HeldBy .a (grouped .idle State.reset) 0 ∧ ((grouped .idle State.reset).chan 0).group ≠ none) ∧
    (HeldBy .a (withChan running) 0 ∧ ((withChan running).chan 0).group = none ∧
      ((withChan running).chan 0).state ≠ .parked ∧ ((withChan running).chan 0).state ≠ .off) := by decide

/-- An OFF channel held by console A. -/
def offHeld : State := withChan { State.resetChan ⟨false, false⟩ with holder := .console .a }

theorem witness_ConfigChannelStores :
    (block 2 1 3).length = 18 ∧ Ready .a [] (withChan parked) ∧
    (((block 0 1 3).getD 0 0).toNat ≤ 2 ∧ ((block 2 1 3).getD 7 0).toNat ≤ 1 ∧ ((block 2 1 3).getD 17 0).toNat ≤ 3) ∧
    (HeldBy .a (withChan parked) 0 ∧ ((withChan parked).chan 0).group = none ∧ ((withChan parked).chan 0).state = .parked ∧
      ((withChan parked).chan 0).referenced = true) ∧
    (HeldBy .a offHeld 0 ∧ (offHeld.chan 0).group = none ∧ (offHeld.chan 0).state = .off) ∧
    after (.configChannel .a (0 :: block 0 1 3)) (withChan parked) (fun t => decide ((t.chan 0).state = .off)) = true ∧
    after (.configChannel .a (0 :: block 2 1 3)) offHeld (fun t => decide ((t.chan 0).state = .parked)) = true ∧
    after (.configChannel .a (0 :: block 0 1 3)) (withChan { parked with load := { State.resetLoad with overCount := 2 } })
      (fun t => decide ((t.chan 0).load.overCount = 0)) = true := by decide

theorem witness_LimitWritesByPairs :
    Ready .a [] (withChan parked) ∧ ¬HeldBy .a (heldAs .none) 0 ∧
    (HeldBy .a (withChan running) 0 ∧ ((withChan running).chan 0).state.inMotion = true) ∧
    (HeldBy .a (withChan parked) 0 ∧ ((withChan parked).chan 0).state.inMotion = false ∧
      ((withChan parked).chan 0).group = none) ∧
    after (.setUpper .a [0, 0, 29]) (withChan { parked with pendingLimit := some (.lower, 10), window := .opened })
      (fun t => decide ((responseOf .a t).map Response.result = some .badWindow)) = true ∧
    after (.setUpper .a [0, 0, 30]) (withChan { parked with pendingLimit := some (.lower, 10), window := .opened })
      (fun t => decide ((t.chan 0).window = .valid)) = true := by decide

theorem witness_PositionAndEnvelopeWrites :
    Ready .a [] (withChan parked) ∧ ¬HeldBy .a (heldAs .none) 0 ∧
    (HeldBy .a (withChan running) 0 ∧ ((withChan running).chan 0).state ≠ .parked ∧
      ((withChan running).chan 0).state ≠ .faulted) ∧
    (HeldBy .a (withChan parked) 0 ∧ ((withChan parked).chan 0).state = .parked ∧ ((withChan parked).chan 0).group = none) ∧
    after (.setEnvelope .a [0, 255, 255, 255, 255]) (withChan parked) (fun t =>
      decide ((t.chan 0).envMin = 1249) && decide ((t.chan 0).envMax = 1250)) = true := by decide

/-- Channels 0 and 1 held by A, channel 1 on input 5. -/
def loaded : State := (withChan parked).setChan 1 { parked with load := { State.resetLoad with input := some 5 } }

theorem witness_LoadInputAndCalibrationWrites :
    Ready .a [] loaded ∧ HeldBy .a loaded 0 ∧ HeldBy .a loaded 1 ∧ (loaded.chan 0).group = none ∧
    (∃ j : Channel, j ≠ 0 ∧ (loaded.chan j).load.input = some 5) ∧
    ((∀ j : Channel, j ≠ 0 → (loaded.chan j).load.input ≠ some 7) ∧ (loaded.chan 0).load.input ≠ some 7) ∧
    ((loaded.chan 1).load.input = some 5 ∧ (∀ j : Channel, j ≠ 1 → (loaded.chan j).load.input ≠ some 5)) ∧
    ((converted [] false).scanner = some { input := 3, start := 0, discard := false } ∧
      ((converted [] false).chan 0).load.input = some 3) := by decide

theorem witness_ClearFaultsParks :
    Ready .a [1] (faultedWith none) ∧ EveryChan TimerLaw (faultedWith none) ∧
    EveryChan TimerLaw (faultedWith (some 250000)) ∧ EveryChan TimerLaw (heldByB false State.reset) ∧
    (EveryChan TimerLaw (withChan confirming) ∧
      (∀ i : Channel, inSet 1 i = true → ((withChan confirming).chan i).holder ≠ .console .b ∧
        ((withChan confirming).chan i).group = none ∧ ((withChan confirming).chan i).out.confirmTimer ≠ none ∧
        ((withChan confirming).chan i).state ≠ .faulted)) ∧
    ¬(∀ i : Channel, inSet 1 i = true → ((heldByB false State.reset).chan i).holder ≠ .console .b) ∧
    (∀ i : Channel, inSet 1 i = true → ((faultedWith none).chan i).holder ≠ .console .b ∧
      ((faultedWith none).chan i).group = none ∧ ((faultedWith none).chan i).out.confirmTimer = none) ∧
    (∀ i : Channel, inSet 1 i = true → ((faultedWith (some 250000)).chan i).holder ≠ .console .b ∧
      ((faultedWith (some 250000)).chan i).group = none ∧ ((faultedWith (some 250000)).chan i).out.confirmTimer ≠ none) ∧
    inSet 1 1 = false ∧
    after (.clearFaults .a [1]) (faultedWith none) (fun t => decide ((t.chan 0).state = .parked)) = true := by
  refine ⟨?_, ?_, ?_, ?_, ?_, ?_, ?_, ?_, ?_, ?_⟩ <;> decide

theorem witness_SetGroupAndDisband :
    (List.replicate 20 (0 : Byte)).length = 20 ∧ (2 : Byte).toNat ≤ 2 ∧ Ready .a [] (withChan parked) ∧
    (((heldByB true State.reset).grp (.console 0)).owner ≠ .console .a ∧
      ((heldByB true State.reset).grp (.console 0)).owner ≠ .none) ∧
    (((withChan parked).grp (.console 0)).owner = .none ∧ (∀ i : Channel, inSet 1 i = true → HeldBy .a (withChan parked) i) ∧
      ((withChan parked).grp (.console 0)).state = .idle ∧
      (∀ i : Channel, inSet 1 i = true → ((withChan parked).chan i).group = none) ∧
      (∀ i : Channel, inSet 1 i = true → ((withChan parked).chan i).state ≠ .off) ∧
      (∀ i j : Channel, inSet 1 i = true → inSet 1 j = true →
        ((withChan parked).chan i).cfg.kind = ((withChan parked).chan j).cfg.kind)) ∧
    ¬OwnedBy .a State.reset 0 ∧
    (OwnedBy .a (grouped .moving ready) 0 ∧ ((grouped .moving ready).grp (.console 0)).state.inMove = true) ∧
    (OwnedBy .a (grouped .paused ready) 0 ∧ ((grouped .paused ready).grp (.console 0)).state.inMove = false) := by
  decide +kernel

/-- Group 0 of console A with four cues. -/
def fullQueue : State := (grouped .idle ready).modGrp (.console 0) fun r => { r with queue := [cue, cue, cue, cue] }

theorem witness_LoadCueAppends :
    Ready .a [] ready ∧
    (OwnedBy .a (grouped .idle ready) 0 ∧ ((grouped .idle ready).grp (.console 0)).queue.length < 4) ∧
    (OwnedBy .a fullQueue 0 ∧ 4 ≤ (fullQueue.grp (.console 0)).queue.length) ∧ ¬OwnedBy .a State.reset 0 := by decide

theorem witness_ClearQueueByState :
    Ready .a [] ready ∧ ¬OwnedBy .a State.reset 0 ∧
    (OwnedBy .a (grouped .stopping ready) 0 ∧ ((grouped .stopping ready).grp (.console 0)).state = .stopping) ∧
    (OwnedBy .a (grouped .tripped ready) 0 ∧ ((grouped .tripped ready).grp (.console 0)).state = .tripped) ∧
    (OwnedBy .a (grouped .paused ready) 0 ∧ ((grouped .paused ready).grp (.console 0)).state = .paused) := by decide

/-- Group 0 of console A with no cue. -/
def noCue : State := (grouped .idle ready).modGrp (.console 0) fun r => { r with queue := [] }

theorem witness_GoStartsTheHeadCue :
    Ready .a [] (grouped .idle ready) ∧ ¬OwnedBy .a State.reset 0 ∧
    (OwnedBy .a (grouped .tripped ready) 0 ∧ ((grouped .tripped ready).grp (.console 0)).state ≠ .idle ∧
      ((grouped .tripped ready).grp (.console 0)).state ≠ .paused) ∧
    (OwnedBy .a noCue 0 ∧ (noCue.grp (.console 0)).state = .idle ∧ (noCue.grp (.console 0)).queue = []) ∧
    (OwnedBy .a (grouped .idle State.reset) 0 ∧ ((grouped .idle State.reset).grp (.console 0)).queue = cue :: [] ∧
      (grouped .idle State.reset).stops.estop ≠ .clear) ∧
    (OwnedBy .a (grouped .idle ready) 0 ∧ ((grouped .idle ready).grp (.console 0)).state = .idle ∧
      ((grouped .idle ready).grp (.console 0)).queue = cue :: [] ∧
      (grouped .idle ready).stops.estop = .clear ∧ (grouped .idle ready).stops.monitor ≠ .low ∧
      (grouped .idle ready).stops.rstin = false ∧ (grouped .idle ready).supply.state = .on ∧
      (∀ i : Channel, ((grouped .idle ready).chan i).group = some (.console 0) →
        ((grouped .idle ready).chan i).referenced = true ∧ ((grouped .idle ready).chan i).window = .valid ∧
        ((grouped .idle ready).chan i).state ≠ .faulted ∧ ((grouped .idle ready).chan i).thermal = false ∧
        ((grouped .idle ready).chan i).load.status ≠ .unknown ∧ ((grouped .idle ready).chan i).load.status ≠ .fault) ∧
      (∀ e ∈ cue.entries, ((grouped .idle ready).chan e.1).group = some (.console 0) ∧
        ((grouped .idle ready).chan e.1).lower ≤ e.2 ∧ e.2 ≤ ((grouped .idle ready).chan e.1).upper ∧
        (((grouped .idle ready).chan e.1).position < e.2 → ((grouped .idle ready).chan e.1).upperOpen = false) ∧
        (e.2 < ((grouped .idle ready).chan e.1).position → ((grouped .idle ready).chan e.1).lowerOpen = false)) ∧
      cue.entries.head?.map Prod.fst = some 0 ∧
      cue.entries.head?.map Prod.snd ≠ some ((grouped .idle ready).chan 0).position) := by decide +kernel

/-- A GO of group 0 starts channel 0 UP, with its hold deadline and its start timer. -/
theorem test_go_starts_the_member :
    after (.go .a .addressed [1]) (grouped .idle ready) (fun t =>
      decide ((t.grp (.console 0)).state = .starting) && decide ((t.chan 0).state = .starting) && (t.chan 0).out.raise &&
      decide ((t.grp (.console 0)).deadline = some 250000) &&
      decide ((t.grp (.console 0)).startTimer = some 3000000)) = true := by decide +kernel

theorem witness_HoldRenewsDeadlines :
    Ready .a [1] deadlined ∧ Ready .a [15] deadlined ∧ (15 : Byte).toNat < 16 ∧
    ¬(∀ g : ConsoleGroup, (15 : Byte).getLsbD g.val = true → OwnedBy .a deadlined g) ∧
    ((∀ g : ConsoleGroup, (1 : Byte).getLsbD g.val = true → OwnedBy .a (grouped .stopping ready) g) ∧
      ∀ g : ConsoleGroup,
        ((1 : Byte).getLsbD g.val && ((grouped .stopping ready).grp (.console g)).state.stoppable) = false) ∧
    ((∀ g : ConsoleGroup, (1 : Byte).getLsbD g.val = true → OwnedBy .a deadlined g) ∧
      ∃ g : ConsoleGroup, ((1 : Byte).getLsbD g.val && (deadlined.grp (.console g)).state.stoppable) = true) := by decide

theorem witness_StopStopsTheSet :
    Ready .b [15] deadlined ∧ (15 : Byte).toNat < 16 ∧ (15 : Byte).getLsbD (0 : ConsoleGroup).val = true ∧
    (deadlined.grp (.console 0)).state.stoppable = true ∧ (deadlined.grp (.console 1)).state.stoppable = false := by decide

theorem witness_JogStartsTheGroup :
    Ready .a [] (grouped .idle ready) ∧ ¬OwnedBy .a State.reset 0 ∧
    (OwnedBy .a (grouped .paused ready) 0 ∧ ((grouped .paused ready).grp (.console 0)).state ≠ .idle) ∧
    (OwnedBy .a ((grouped .idle ready).setChan 0 parked) 0 ∧
      ∀ i : Channel, (((grouped .idle ready).setChan 0 parked).chan i).group ≠ some (.console 0)) ∧
    (OwnedBy .a (grouped .idle ready) 0 ∧ ((grouped .idle ready).grp (.console 0)).state = .idle ∧
      (∃ i : Channel, ((grouped .idle ready).chan i).group = some (.console 0)) ∧
      (grouped .idle ready).stops.estop = .clear ∧ (grouped .idle ready).stops.monitor ≠ .low ∧
      (grouped .idle ready).stops.rstin = false ∧ (grouped .idle ready).supply.state = .on ∧
      (∀ i : Channel, ((grouped .idle ready).chan i).group = some (.console 0) →
        ((grouped .idle ready).chan i).state ≠ .faulted ∧ ((grouped .idle ready).chan i).thermal = false ∧
        ((grouped .idle ready).chan i).upperOpen = false ∧ ((grouped .idle ready).chan i).lowerOpen = false)) := by
  decide +kernel

/-- Group 0 TRIPPED with channel 0 in this state. -/
def trippedWith (st : ChanState) (s : State) : State := (grouped .tripped s).modChan 0 fun c => { c with state := st }

theorem witness_ResetGroupByItsTests :
    Ready .a [] ready ∧ ¬OwnedBy .a State.reset 0 ∧
    (OwnedBy .a (grouped .idle ready) 0 ∧ ((grouped .idle ready).grp (.console 0)).state ≠ .tripped) ∧
    (OwnedBy .a (trippedWith .faulted ready) 0 ∧ ((trippedWith .faulted ready).grp (.console 0)).state = .tripped ∧
      ((trippedWith .faulted ready).chan 0).group = some (.console 0) ∧
      ((trippedWith .faulted ready).chan 0).state = .faulted) ∧
    ((trippedWith .parked State.reset).stops.estop ≠ .clear) ∧
    (OwnedBy .a (trippedWith (.stopping .quick) ready) 0 ∧ (trippedWith (.stopping .quick) ready).stops.estop = .clear ∧
      ¬(∃ i : Channel, ((trippedWith (.stopping .quick) ready).chan i).group = some (.console 0) ∧
        ((trippedWith (.stopping .quick) ready).chan i).state = .faulted) ∧
      ∃ i : Channel, ((trippedWith (.stopping .quick) ready).chan i).group = some (.console 0) ∧
        ((trippedWith (.stopping .quick) ready).chan i).state.inMotion = true) ∧
    (OwnedBy .a (trippedWith .parked ready) 0 ∧ (trippedWith .parked ready).stops.estop = .clear ∧
      ¬(∃ i : Channel, ((trippedWith .parked ready).chan i).group = some (.console 0) ∧
        ((trippedWith .parked ready).chan i).state = .faulted) ∧
      ¬∃ i : Channel, ((trippedWith .parked ready).chan i).group = some (.console 0) ∧
        ((trippedWith .parked ready).chan i).state.inMotion = true) := by decide +kernel

theorem witness_PowerByTheTable :
    Ready .a [] State.reset ∧ (monitored .low none).stops.monitor = .low ∧
    (State.reset.stops.monitor ≠ .low ∧ State.reset.supply.state = .off ∧ State.reset.supply.mainsfb = false ∧
      ¬∃ i : Channel, (State.reset.chan i).state.inMotion = true) ∧
    ((supplied .failed true none none).stops.monitor ≠ .low ∧ (supplied .failed true none none).supply.state = .failed ∧
      (supplied .failed true none none).supply.mainsfb = true) ∧
    (ready.stops.monitor ≠ .low ∧ ready.supply.state ≠ .off ∧ ready.supply.state ≠ .failed ∧
      ¬∃ i : Channel, (ready.chan i).state.inMotion = true) ∧
    (∃ i : Channel, ((readyWith running).chan i).state.inMotion = true) ∧ 1 < (2 : Byte).toNat := by decide

theorem witness_ResetEstopByState :
    Ready .a [] State.reset ∧ State.reset.stops.estop = .active ∧ ready.stops.estop = .clear ∧
    ({ ready with stops := { ready.stops with estop := .latched } } : State).stops.estop = .latched := by decide

theorem witness_MaskAndAcknowledge :
    Ready .a [255, 255, 255, 255, 255, 255, 31] State.reset ∧ ([255, 255, 255, 255, 255, 255, 31] : List Byte).length = 7 ∧
    (∀ k : Fin 7, ([255, 255, 255, 255, 255, 255, 31] : List Byte).getD k.val 0 =
      BitVec.ofNat 8 ((BitVec.allOnes 53).toNat / 256 ^ k.val)) ∧
    32 ≤ (([0, 0, 0, 0, 0, 0, 32] : List Byte).getD 6 0).toNat := by decide

theorem witness_SetPartStores :
    Ready .a [] State.reset ∧ 32 ≤ (32 : Byte).toNat ∧ (31 : Byte).toNat < 32 ∧
    (0b00001000 : Byte) = (converted [] false).settings.enable ∧
    ((0b00001001 : Byte) ≠ (converted [] false).settings.enable ∧
      (converted [] false).scanner = some { input := 3, start := 0, discard := false } ∧
      ((converted [] false).chan 0).load.input = some 3 ∧
      inSet 0b00001001 3 = inSet (converted [] false).settings.enable 3) ∧
    (State.reset.scanner = none ∧ (1 : Byte) ≠ State.reset.settings.enable ∧ (loaded.chan 1).load.input = some 5 ∧
      inSet 0b00100000 5 ≠ inSet loaded.settings.enable 5) := by decide

theorem witness_RestartClearsSelections :
    Ready .a [] ready ∧ (∃ g : ConsoleGroup, (deadlined.grp (.console g)).state.inMove = true) ∧
    (¬((∃ g : ConsoleGroup, ((grouped .paused ready).grp (.console g)).state.inMove = true) ∨
        ((grouped .paused ready).grp .pendant).state ≠ .idle) ∧ (grouped .paused ready).arb.ppres = false) ∧
    (¬((∃ g : ConsoleGroup, ((selecting true true).grp (.console g)).state.inMove = true) ∨
        ((selecting true true).grp .pendant).state ≠ .idle) ∧ (selecting true true).arb.ppres = true ∧
      inSet (selecting true true).arb.psel 1 = false) := by decide

/-! ### Witnesses for the further clauses of the statements: each form, each refusal and each end, at its bounds -/

theorem witness_StepTakesFrontCommand :
    State.reset.pending = [] ∧ step State.reset = .next { State.reset with timebase := 1, flash := 1 } := ⟨rfl, rfl⟩

/-- A channel STARTING UP, its brake released or not yet, with this brake feedback. -/
def startingUp (brk bfb : Bool) : Chan :=
  chanIn .starting { State.resetOutput with raise := true, brk := brk, cs := true, bfb := bfb }

/-- `c` as the one member of group 0, in this state. -/
def inGroup (st : GroupState) (c : Chan) : State :=
  (State.reset.setChan 0 { c with group := some (.console 0) }).setGrp (.console 0) (groupIn st)

/-- A channel STARTING and one under a controlled stop: a stop that takes time, and one that is confirmed at once, alone or in a
group that is STARTING. -/
theorem witness_LimitSwitchStopsTheRun_stops :
    (∀ c ∈ [startingUp true true, startingUp false true, startingUp true false, startingUp false false, confirming,
        holdingOn none],
      ((withChan c).chan 0).lastDir = some .up ∧ ((withChan c).chan 0).upperOpen = false ∧
      ((withChan c).chan 0).group = none) ∧
    (∀ c ∈ [startingUp true true, startingUp false true],
      ((withChan c).chan 0).state = .starting ∧ ¬ParksAtOnce ((withChan c).chan 0)) ∧
    (∀ c ∈ [startingUp true false, startingUp false false],
      ((withChan c).chan 0).state = .starting ∧ ParksAtOnce ((withChan c).chan 0)) ∧
    (((withChan confirming).chan 0).state = .stopping .controlled ∧ ¬ParksAtOnce ((withChan confirming).chan 0)) ∧
    (((withChan (holdingOn none)).chan 0).state = .stopping .controlled ∧
      ParksAtOnce ((withChan (holdingOn none)).chan 0)) ∧
    (((inGroup .starting (startingUp false false)).chan 0).group = some (.console 0) ∧
      ((inGroup .starting (startingUp false false)).grp (.console 0)).state = .starting ∧
      ParksAtOnce ((inGroup .starting (startingUp false false)).chan 0)) := by
  refine ⟨?_, ?_, ?_, ?_, ?_, ?_⟩ <;> decide

/-- The ends of a retest before the start: an E-stop, control low, an open hard limit switch, and a supply that is not ON. -/
theorem witness_DwellExpiryRetestsTheStart_ends :
    (∀ s ∈ [withChan (dwelling (some .down)), readyWith { dwelling (some .down) with lowerOpen := true },
        { readyWith (dwelling (some .down)) with supply := { ready.supply with state := .settling } }],
      (s.chan 0).out.dwellTimer ≠ none ∧ (s.chan 0).startPending = some .down ∧ (s.chan 0).state = .parked ∧
      (s.chan 0).group ≠ some .pendant) ∧
    (withChan (dwelling (some .down))).stops.estop ≠ .clear ∧ (monitored .low none).stops.monitor = .low ∧
    (∀ s ∈ [readyWith { dwelling (some .down) with lowerOpen := true },
        { readyWith (dwelling (some .down)) with supply := { ready.supply with state := .settling } }],
      ¬(s.stops.estop ≠ .clear ∨ s.stops.monitor = .low)) ∧
    ((readyWith { dwelling (some .down) with lowerOpen := true }).chan 0).lowerOpen = true ∧
    ((readyWith (dwelling (some .down))).chan 0).lowerOpen = false := by
  decide

/-- Group 0 of console A in this state, VARIABLE, with channel 0 RUNNING and channel 1 PARKED with a start pending. -/
def tripping (st : GroupState) : State :=
  ((((moved st .cruise 100 25).setChan 0 { running with group := some (.console 0) }).setChan 1
    { parked with group := some (.console 0), startPending := some .up }).modGrp (.console 0) fun r =>
      { r with deadline := some 250000 })

/-- A trip that reaches a MOVING and a STOPPING group, after each of the three events that trip every group. -/
theorem witness_AllTripped :
    ∀ st ∈ [GroupState.moving, .stopping], ((tripping st).grp (.console 0)).state.inMove = true ∧
      after (.mainsfbChange false) (tripping st) (fun t =>
        decide (TripReaches (.console 0) (tripping st) t) && decide ((t.grp (.console 0)).state = .tripped) &&
        decide ((t.chan 0).state = .stopping .quick) && decide ((t.chan 1).startPending = none)) = true ∧
      after (.estinChange false) (tripping st) (fun t => decide (TripReaches (.console 0) (tripping st) t)) = true ∧
      after .lowTimerExpiry
        { tripping st with stops := { ready.stops with monitor := .dip, lowTimer := some 10000 } } (fun t =>
          decide (TripReaches (.console 0) (tripping st) t)) = true := by
  decide +kernel

/-- A STOP of a MOVING cue group: PAUSED with its notice where every member is PARKED, and STOPPING where one is RUNNING, the
start pending gone in both. -/
theorem test_stop_ends_the_starts :
    after (.stop .b .broadcast [1]) (tripping .moving) (fun t =>
      decide ((t.grp (.console 0)).state = .stopping) && decide ((t.chan 0).state = .running) &&
      decide ((t.chan 1).startPending = none)) = true ∧
    after (.stop .b .broadcast [1]) (tripping .moving |>.setChan 0 parked) (fun t =>
      decide ((t.grp (.console 0)).state = .paused) && decide ((t.chan 1).startPending = none) &&
      decide (PendingBoth (.group 0 .paused) t)) = true := by
  decide +kernel

/-- 64 bytes are a wrong length for every request; LOAD_CUE one byte short of its least, and one entry short of its count. -/
theorem witness_LinkInterfaceRefuses_lengths :
    (∀ e ∈ fixedRequests .a (tooLong.drop 1), (tooLong.drop 1).length ≠ e.2.1) ∧
    (tooLong.drop 1).length ≠ 7 + 3 * byteAt (tooLong.drop 1) 6 ∧ ([0, 0, 0, 0, 0, 0] : List Byte).length < 7 ∧
    ([0, 0, 0, 0, 0, 0, 2, 0, 0, 0] : List Byte).length ≠ 7 + 3 * byteAt [0, 0, 0, 0, 0, 0, 2, 0, 0, 0] 6 := by
  decide +kernel

/-- The ends of the station range and the straps 0 and 31 beside it; a good CRC and one that is not; an ANSWERING receiver. -/
theorem witness_FrameBytesMakeTheRequest_drops :
    (∀ n ∈ [(1 : BitVec 5), 30], 1 ≤ (strapped n).station.toNat ∧ (strapped n).station.toNat ≤ 30) ∧
    (∀ n ∈ [(0 : BitVec 5), 31],
      ¬(1 ≤ (strapped n).station.toNat ∧ (strapped n).station.toNat ≤ 30) ∧ (strapped n).port .a = .hunting) ∧
    (30 : Byte).toNat = (strapped 30).station.toNat ∧ (29 : Byte).toNat ≠ (strapped 30).station.toNat ∧
    ((0x29 : Byte) = (crc16 [0x31, 0x32, 0x33, 0x34, 0x35, 0x36, 0x37, 0x38, 0x39]).extractLsb' 8 8 ∧
      (0xB1 : Byte) = (crc16 [0x31, 0x32, 0x33, 0x34, 0x35, 0x36, 0x37, 0x38, 0x39]).extractLsb' 0 8 ∧
      (0xB0 : Byte) ≠ (crc16 [0x31, 0x32, 0x33, 0x34, 0x35, 0x36, 0x37, 0x38, 0x39]).extractLsb' 0 8) ∧
    isAnswering ((portA (.answering ⟨1, .ok, []⟩)).port .a) = true := by
  decide +kernel

/-- Channel 0 in a group in a move, one that changes its input to none, and numbers outside the range of inputs. -/
theorem witness_LoadInputAndCalibrationWrites_refusals :
    ¬HeldBy .a (heldAs .none) 0 ∧
    (HeldBy .a deadlined 0 ∧ ∃ g : GroupId, (deadlined.chan 0).group = some g ∧ (deadlined.grp g).state.inMove = true) ∧
    (HeldBy .a loaded 1 ∧ (loaded.chan 1).load.input ≠ none) ∧ ((loaded.chan 0).load.input = none) ∧
    (∀ n ∈ [(8 : Byte), 254], 8 ≤ n.toNat ∧ n ≠ 0xFF) ∧
    after (.setLoadInput .a [1, 0xFF]) loaded (fun t =>
      decide ((t.chan 1).load.input = none) && decide ((t.chan 1).load.status = .none)) = true := by
  decide +kernel

/-- Each test of R104 failing, the ones before it passed. -/
theorem witness_SetGroupAndDisband_tests :
    setGroupRefusal .a 0 1 (heldByB true State.reset) = some .notOwner ∧
    setGroupRefusal .a 0 1 (heldAs .none) = some .notHolder ∧
    setGroupRefusal .a 0 1 (grouped .paused ready) = some .busy ∧
    setGroupRefusal .a 1 1 (grouped .idle ready) = some .inGroup ∧
    setGroupRefusal .a 0 1 (withChan { State.resetChan ⟨false, false⟩ with holder := .console .a }) = some .badValue ∧
    setGroupRefusal .a 0 3
      ((withChan parked).setChan 1 { parked with cfg := { parked.cfg with kind := .fixedSpeed } }) = some .mixedKinds ∧
    setGroupRefusal .a 0 1 (withChan parked) = none ∧ setGroupRefusal .a 0 0 (grouped .idle ready) = none := by
  decide +kernel

/-- A cue for the first `n` channels. -/
def entriesFor (n : Nat) : List (Channel × Byte × Byte) := (channels.take n).map fun i => (i, 0, 5)

/-- LOAD_CUE of 1 and of 8 entries, the lengths beside those of 1 and 8 entries, and each value outside its range. -/
theorem witness_LoadCueAppends_forms :
    (∀ n ∈ [1, 8], 1 ≤ (entriesFor n).length ∧ (entriesFor n).length ≤ 8 ∧ ((entriesFor n).map Prod.fst).Nodup) ∧
    (∀ p ∈ ([[0, 0, 7, 50, 10, 0], [0, 0, 7, 50, 10, 0, 1, 0, 0], [0, 0, 7, 50, 10, 0, 1, 0, 0, 5, 0]] : List (List Byte)),
      p.length < 7 ∨ p.length ≠ 7 + 3 * byteAt p 6) ∧
    (∀ p ∈ ([[4, 0, 7, 50, 10, 0, 1, 0, 0, 5], [0, 0, 7, 50, 10, 2, 1, 0, 0, 5], [0, 0, 7, 50, 10, 0, 0],
        [0, 0, 7, 50, 10, 0, 9] ++ List.replicate 27 0, [0, 0, 7, 50, 10, 0, 1, 8, 0, 5],
        [0, 0, 7, 50, 10, 0, 2, 3, 0, 5, 3, 0, 5]] : List (List Byte)),
      Ready .a p ready ∧ 7 ≤ p.length ∧ p.length = 7 + 3 * byteAt p 6 ∧
      after (.loadCue .a p) (grouped .idle ready) (fun t =>
        decide (responseOf .a t = some ⟨0x32, .badValue, []⟩)) = true) := by
  decide +kernel

/-- Group 0 of console A, IDLE with this queue, with this channel as its one member. -/
def goWith (queue : List Cue) (c : Chan) (s : State) : State :=
  (s.setChan 0 { c with group := some (.console 0) }).setGrp (.console 0) { groupIn .idle with queue := queue }

/-- A cue that sends channel 0 to this position. -/
def cueTo (n : Nat) : Cue := { cue with entries := [(0, n)] }

/-- The channel of `parked` with the limit pair 900..60000. -/
def limited : Chan := { parked with lower := 900 }

/-- The state made ready with the drive supply in this state. -/
def readyIn (st : SupplyState) : State := { ready with supply := { ready.supply with state := st } }

/-- Each check of R110 failing, the ones before it passed, with the limits at their bounds and one past them. -/
theorem witness_GoStartsTheHeadCue_checks :
    goFinds 0 (grouped .tripped ready) = some .busy ∧ goFinds 0 noCue = some .queueEmpty ∧
    goFinds 0 (goWith [cue] parked State.reset) = some .stopActive ∧
    goFinds 0 (goWith [cue] parked (readyIn .off)) = some .supplyOff ∧
    goFinds 0 (goWith [cue] parked (readyIn .failed)) = some .supplyOff ∧
    goFinds 0 (goWith [cue] parked (readyIn .closing)) = none ∧
    goFinds 0 (goWith [{ cue with entries := [(1, 1010)] }] parked ready) = some .badValue ∧
    goFinds 0 (goWith [cue] { parked with referenced := false, window := .none } ready) = some .notReferenced ∧
    goFinds 0 (goWith [cue] { parked with window := .opened, thermal := true } ready) = some .outOfWindow ∧
    ([899, 900, 60000, 60001].map fun n => goFinds 0 (goWith [cueTo n] limited ready)) =
      [some .outOfWindow, none, none, some .outOfWindow] ∧
    goFinds 0 (goWith [cue] { parked with state := .faulted, thermal := true } ready) = some .faulted ∧
    goFinds 0 (goWith [cue] { parked with thermal := true, upperOpen := true } ready) = some .thermal ∧
    ([LoadStatus.unknown, .fault, .none, .valid].map fun l =>
      goFinds 0 (goWith [cue] { parked with load := { State.resetLoad with status := l } } ready)) =
      [some .loadUnknown, some .loadUnknown, none, none] ∧
    ([999, 1000, 1001].map fun n => goFinds 0 (goWith [cueTo n] { parked with upperOpen := true } ready)) =
      [none, none, some .causePresent] ∧
    ([999, 1000, 1001].map fun n => goFinds 0 (goWith [cueTo n] { parked with lowerOpen := true } ready)) =
      [some .causePresent, none, none] := by
  decide +kernel

/-- Groups 0 and 1 of console A, each with a cue for its one channel. -/
def twoGroups : State :=
  ((goWith [cue] parked ready).setChan 1 { parked with group := some (.console 1) }).setGrp (.console 1)
    { groupIn .idle with queue := [{ cue with entries := [(1, 1010)] }] }

/-- A set of two groups; one group of it not owned, and one found wanting; the cue in which nothing moves, alone and before a cue
that does, under AUTO_NEXT; and the empty set. -/
theorem witness_GoStartsTheHeadCue_sets :
    (∀ h : ConsoleGroup, (3 : Byte).getLsbD h.val = true → OwnedBy .a twoGroups h ∧ goFinds h twoGroups = none) ∧
    ¬OwnedBy .a (goWith [cue] parked ready) 1 ∧ OwnedBy .a (goWith [cue] parked ready) 0 ∧
    goFinds 1 (twoGroups.modChan 1 fun c => { c with thermal := true }) = some .thermal ∧
    (∀ h : ConsoleGroup, (0 : Byte).getLsbD h.val = false) ∧ (15 : Byte).toNat < 16 ∧ 16 ≤ (16 : Byte).toNat ∧
    (goFinds 0 (goWith [cueTo 1000] parked ready) = none ∧
      ¬∃ i : Channel, MovesUnder (.console 0) (cueTo 1000) (goWith [cueTo 1000] parked ready) i) ∧
    after (.go .a .addressed [3]) twoGroups (fun t =>
      decide ((t.chan 0).state = .starting) && decide ((t.chan 1).state = .starting)) = true ∧
    after (.go .a .addressed [1]) (goWith [cueTo 1000] parked ready) (fun t =>
      decide ((t.grp (.console 0)).state = .idle) && decide ((t.grp (.console 0)).queue = []) &&
      decide (PendingBoth (.group 0 .done) t)) = true ∧
    after (.go .a .addressed [1]) (goWith [{ cueTo 1000 with follow := .autoNext }, cue] parked ready) (fun t =>
      decide ((t.grp (.console 0)).state = .starting) && decide ((t.grp (.console 0)).queue = [cue])) = true := by
  decide +kernel

/-- Each check of a jog failing, the ones before it passed, and the room that binds it. -/
theorem witness_JogStartsTheGroup_checks :
    jogRefusal (.console 0) .up (goWith [] parked State.reset) = some .stopActive ∧
    jogRefusal (.console 0) .up (goWith [] parked (readyIn .off)) = some .supplyOff ∧
    jogRefusal (.console 0) .up (goWith [] { parked with state := .faulted, thermal := true } ready) = some .faulted ∧
    jogRefusal (.console 0) .up (goWith [] { parked with thermal := true, upperOpen := true } ready) = some .thermal ∧
    jogRefusal (.console 0) .up (goWith [] { parked with upperOpen := true } ready) = some .causePresent ∧
    jogRefusal (.console 0) .down (goWith [] { parked with upperOpen := true } ready) = none ∧
    jogRefusal (.console 0) .down (goWith [] { parked with lowerOpen := true } ready) = some .causePresent ∧
    jogRefusal (.console 0) .up (goWith [] parked ready) = none ∧
    (4 ≤ (4 : Byte).toNat ∧ ((3 : Byte) ≠ 1 ∧ (3 : Byte) ≠ 2) ∧ ((0 : Byte) ≠ 1 ∧ (0 : Byte) ≠ 2)) ∧
    MembersAre (.console 0) false (goWith [] limited ready) ∧ BindsJog (.console 0) (goWith [] limited ready) 0 ∧
    (∀ i : Channel, ¬BindsJog (.console 0) (goWith [] { limited with referenced := false } ready) i) ∧
    after (.jog .a [0, 2, 50, 10]) (goWith [] limited ready) (fun t =>
      decide ((t.grp (.console 0)).prof.jMax = some 100) && decide ((t.grp (.console 0)).prof.qCruise = 10)) = true ∧
    after (.jog .a [0, 2, 50, 10]) (goWith [] { limited with referenced := false } ready) (fun t =>
      decide ((t.grp (.console 0)).prof.jMax = none)) = true := by
  decide +kernel

/-- Channel 0 with this record in group `g`, its switch closed for the pendant group, in this state after this kind of move, its
member item this one and channel 1 a second member in this state. -/
def parkingIn (g : GroupId) (st : GroupState) (mk : MoveKind) (m : Member) (other : ChanState) (c : Chan) : State :=
  let holder : Holder := match g with
    | .console _ => .console .a
    | .pendant => .pendant
  ((withPendant.setChan 0 { c with group := some g, holder := holder }).setChan 1
      { parked with group := some g, holder := holder, state := other }).modGrp g fun r =>
    { r with
      owner := match g with
        | .console _ => .console .a
        | .pendant => .none
      state := st, moveKind := mk, updateTimer := some 20000, queue := [cue]
      prof := { r.prof with members := (r.prof.members.set 0 m).set 1 { member0 with arrived := true } } }

/-- A trim-paused member in a cue from 1000 UP to 2000, not arrived. -/
def pausedMember : Member := longMember true

/-- An entry to PARKED of the last member of a STOPPING group, and of one of two whose other member is FAULTED; of the pendant
group TRIPPED with PENB inactive; of a cue whose members have arrived; of a trim pause with its error at trim off and one past
it; and of a channel that ends no such thing. -/
theorem witness_ParkMade :
    (let s := parkingIn (.console 0) .stopping .cue member0 .parked confirming
     (s.chan 0).out.raise = false ∧ (s.chan 0).cfg.bfbFitted = true ∧ (s.grp (.console 0)).state = .stopping ∧
       OthersParked (.console 0) 0 s ∧ (s.chan 0).startPending = none) ∧
    (let s := parkingIn (.console 0) .stopping .cue member0 .faulted confirming
     ¬OthersParked (.console 0) 0 s ∧ ParkUntold 0 s) ∧
    (let s := parkingIn .pendant .stopping .jog member0 .parked confirming
     (s.grp .pendant).state = .stopping ∧ OthersParked .pendant 0 s) ∧
    (let s := parkingIn .pendant .tripped .jog member0 .parked confirming
     (s.grp .pendant).state = .tripped ∧ s.arb.penb = false ∧ OthersParked .pendant 0 s) ∧
    (let s := parkingIn (.console 0) .moving .cue { member0 with arrived := true } .parked confirming
     (s.grp (.console 0)).state = .moving ∧ AllArrived (.console 0) s ∧ OthersParked (.console 0) 0 s ∧
       (s.grp (.console 0)).queue = [cue]) ∧
    (let s := fun n => parkingIn (.console 0) .moving .cue pausedMember .parked { confirming with position := n }
     trimDue (.console 0) (s 1010) 0 = true ∧ trimDue (.console 0) (s 1011) 0 = false ∧ ParkUntold 0 (s 1011) ∧
       ((s 1010).grp (.console 0)).prof.p = 0) ∧
    (ParkUntold 0 (withChan confirming) ∧ ParkUntold 0 (withChan { confirming with startPending := some .up }) ∧
      ((withChan { confirming with startPending := some .up }).chan 0).startPending = some .up) := by
  refine ⟨by decide +kernel, ?_, by decide +kernel, by decide +kernel, by decide +kernel, ?_, ?_⟩
  · refine ⟨by decide +kernel, ?_⟩
    intro g h
    obtain rfl : GroupId.console 0 = g := Option.some.inj h
    refine ⟨?_, ?_, ?_, ?_⟩ <;> decide +kernel
  · refine ⟨by decide +kernel, by decide +kernel, ?_, by decide +kernel⟩
    intro g h
    obtain rfl : GroupId.console 0 = g := Option.some.inj h
    refine ⟨?_, ?_, ?_, ?_⟩ <;> decide +kernel
  · exact ⟨fun g h => (nomatch h), fun g h => (nomatch h), rfl⟩

/-- R115, R100, R135, R142: what those entries make of the group, by the confirmation's end in each of its two ways. -/
theorem test_entry_to_parked_tells_the_group :
    after (.brakeFeedbackChange 0 false) (parkingIn (.console 0) .stopping .cue member0 .parked confirming) (fun t =>
      decide ((t.grp (.console 0)).state = .paused)) = true ∧
    after (.brakeFeedbackChange 0 false) (parkingIn (.console 0) .stopping .cue member0 .faulted confirming) (fun t =>
      decide ((t.grp (.console 0)).state = .stopping)) = true ∧
    after (.brakeFeedbackChange 0 false) (parkingIn .pendant .tripped .jog member0 .parked confirming) (fun t =>
      decide ((t.grp .pendant).state = .idle) && decide ((t.chan 0).holder = .none)) = true ∧
    after (.brakeSetTimeExpiry 0) (parkingIn (.console 0) .moving .cue { member0 with arrived := true } .parked
      (unfitted confirming)) (fun t => decide ((t.grp (.console 0)).state = .idle)) = true ∧
    after (.brakeSetTimeExpiry 0) (parkingIn (.console 0) .moving .cue pausedMember .parked
      { unfitted confirming with position := 1010 }) (fun t => decide ((t.chan 0).state = .starting)) = true := by
  decide +kernel

/-- A STOPPING channel whose line is still held when its brake shows set, or when its brake set time ends. -/
theorem witness_StopSequenceEnds_held :
    (∀ u : Bool, let c := if u then unfitted (holdingOn (some 250000)) else holdingOn (some 250000)
      ((withChan c).chan 0).state = .stopping .controlled ∧ ((withChan c).chan 0).out.confirmTimer ≠ none ∧
      ((withChan c).chan 0).out.bfb = false ∧
      ¬(((withChan c).chan 0).out.raise = false ∧ ((withChan c).chan 0).out.lower = false) ∧
      ((withChan c).chan 0).cfg.bfbFitted = !u) ∧
    after (.brakeFeedbackChange 0 false) (withChan (holdingOn (some 250000))) (fun t =>
      decide ((t.chan 0).state = .stopping .controlled) && decide ((t.chan 0).out.confirmTimer = none)) = true ∧
    (((withChan running).chan 0).cfg.bfbFitted = true ∧ ((withChan running).chan 0).state = .running ∧
      ((withChan (State.resetChan ⟨false, false⟩)).chan 0).state = .off ∧
      ((withChan (proving true true)).chan 0).state = .starting ∧
      ((withChan (proving true true)).chan 0).out.brakeTimer = none) := by
  decide

/-- The premise of what a trip makes of every group. -/
theorem witness_AllTripped_authority :
    AuthorityLaw (tripping .moving) ∧ AuthorityLaw (tripping .stopping) ∧
    AuthorityLaw { tripping .moving with stops := { ready.stops with monitor := .dip, lowTimer := some 10000 } } ∧
    AuthorityLaw { tripping .stopping with arb := withPendant.arb } := by
  refine ⟨?_, ?_, ?_, ?_⟩ <;> decide +kernel

/-- The pendant absent with its stop open, the E-stop not ACTIVE; and present and absent with the E-stop ACTIVE, the loop closed. -/
theorem witness_EstopOpensAndCloses_present :
    (let s := unplugged { withPendant with arb := { withPendant.arb with pstopClosed := false } }
     s.arb.ppres = false ∧ s.arb.pstopClosed = false ∧ s.stops.estop ≠ .active ∧ s.arb.settled = true ∧ AuthorityLaw s ∧
       after (.ppresChange true) s (fun t =>
         decide (t.stops.estop = .active) && decide (t.stops.cause = .pendant)) = true) ∧
    ((pendantOpen true).arb.ppres = true ∧ (pendantOpen true).stops.estop = .active ∧
      (pendantOpen true).stops.estinClosed = true ∧ (pendantOpen false).stops.estinClosed = false ∧
      withPendant.arb.ppres = true ∧ withPendant.stops.estop ≠ .active ∧ withPendant.arb.settled = true ∧
      after (.ppresChange false) (pendantOpen true) (fun t => decide (t.stops.estop = .latched)) = true ∧
      after (.ppresChange false) (pendantOpen false) (fun t => decide (t.stops.estop = .active)) = true) ∧
    ((pendantOpen true).arb.pstopClosed = false ∧ ready.stops.estop ≠ .active ∧ ready.arb.ppres = false ∧
      after (.pstopChange true) (pendantOpen true) (fun t => decide (t.stops.estop = .latched)) = true) := by
  decide +kernel

/-- The pendant present or absent while its group is not IDLE, its stop closed, or open with the E-stop ACTIVE; and an evaluation
that takes two channels and leaves a third, of another kind, held by a console and OFF. -/
theorem witness_PendantSelects_evaluations :
    (let s := unplugged (jogging .tripped true false)
     s.arb.ppres = false ∧ (s.grp .pendant).state ≠ .idle ∧ s.arb.pstopClosed = true) ∧
    ((jogging .stopping true false).arb.ppres = true ∧ ((jogging .stopping true false).grp .pendant).state ≠ .idle ∧
      ((jogging .stopping true false).grp .pendant).state.stoppable = false) ∧
    (let s := unplugged (pendantOpen true)
     s.arb.ppres = false ∧ (s.grp .pendant).state = .idle ∧ s.stops.estop = .active ∧ s.arb.pstopClosed = false) ∧
    (let f : Chan := { parked with holder := .none }
     let s := { ((selecting true false).setChan 1 f).setChan 2 { f with cfg := { f.cfg with kind := .fixedSpeed } } with
       arb := { withPendant.arb with psel := 0b00000110 } }
     (s.grp .pendant).state = .idle ∧ inSet s.arb.psel 0 = !true ∧
       after (.pselChange 0 true) s (fun t =>
         decide ((t.chan 0).group = some .pendant) && decide ((t.chan 1).holder = .pendant) &&
         decide ((t.chan 2).holder = .none)) = true) := by
  decide +kernel

/-- The stop ramp of a VARIABLE group with its rate above, at and below the step of 10, and the FIXED stop. -/
theorem witness_UpdateFormsErrorsAndStops_ramp :
    (∀ q ∈ [9, 10, 11], ((updating .stopping { prof0 with q := q, phase := .stopping } member0 running).grp
        (.console 0)).updateTimer = some 20000 ∧
      MembersAre (.console 0) false (updating .stopping { prof0 with q := q, phase := .stopping } member0 running) ∧
      StopTakesTime ((updating .stopping { prof0 with q := q, phase := .stopping } member0 running).chan 0) ∧
      after (.groupUpdate (.console 0)) (updating .stopping { prof0 with q := q, phase := .stopping } member0 running)
        (fun t => decide ((t.grp (.console 0)).prof.q = q - 10) && decide ((t.grp (.console 0)).prof.p = q - 10) &&
          decide ((t.chan 0).state = if q = 11 then .running else .stopping .controlled)) = true) ∧
    after (.groupUpdate (.console 0)) (updating .stopping { prof0 with q := 9, phase := .stopping } member0 parked)
      (fun t => decide ((t.grp (.console 0)).state = .paused) && decide ((t.grp (.console 0)).updateTimer = none)) = true ∧
    (let s := fixedAt .stopping { prof0 with q := 25 } member0 { parked with state := .stopping .controlled }
     (s.grp (.console 0)).updateTimer = some 20000 ∧ (s.grp (.console 0)).state = .stopping ∧ MembersAre (.console 0) true s ∧
       after (.groupUpdate (.console 0)) s (fun t => decide ((t.grp (.console 0)).prof.q = 25)) = true) := by
  decide +kernel

/-- The first configuration of an OFF channel arms its brake slip by its feedback, and OFF again clears its measurements. -/
theorem witness_ConfigChannelStores_position :
    after (.configChannel .a (0 :: block 2 1 3)) offHeld (fun t => (t.chan 0).pos.slipArmed) = true ∧
    after (.configChannel .a (0 :: block 2 1 3)) (withChan { parked with out := { State.resetOutput with bfb := true } })
      (fun t => !(t.chan 0).pos.slipArmed) = true ∧
    after (.configChannel .a (0 :: block 2 0 3)) (withChan { parked with out := { State.resetOutput with bfb := true } })
      (fun t => (t.chan 0).pos.slipArmed) = true ∧
    after (.configChannel .a (0 :: block 0 1 3))
      (withChan { parked with pos := { parked.pos with speed := 7, slip := 3, slipArmed := true, bound := .high } })
      (fun t => decide ((t.chan 0).pos.speed = 0) && decide ((t.chan 0).pos.slip = 0) && !(t.chan 0).pos.slipArmed &&
        decide ((t.chan 0).pos.bound = .none)) = true := by
  decide

/-- The pendant TRIPPED with its one member FAULTED, PENB inactive or active. -/
def pendantFaulted (penb : Bool) : State :=
  (jogging .tripped penb false).modChan 0 fun c => { c with state := .faulted, faults := faultBit .noCurrent }

/-- CLEAR_FAULTS of the last member of the TRIPPED pendant group lets it go IDLE with PENB inactive and not with it active. -/
theorem witness_ClearFaultsParks_pendant :
    (∀ b : Bool, Ready .a [1] (pendantFaulted b) ∧ EveryChan TimerLaw (pendantFaulted b) ∧
      (∀ i : Channel, inSet 1 i = true → ((pendantFaulted b).chan i).holder ≠ .console .b) ∧
      (∀ i : Channel, inSet 1 i = true → ∀ g : GroupId, ((pendantFaulted b).chan i).group = some g →
        ((pendantFaulted b).grp g).state.inMove = false) ∧
      ((pendantFaulted b).grp .pendant).state = .tripped ∧ (pendantFaulted b).arb.penb = b ∧
      after (.clearFaults .a [1]) (pendantFaulted b) (fun t =>
        decide ((t.chan 0).state = .parked) &&
        decide ((t.grp .pendant).state = if b then .tripped else .idle)) = true) := by
  intro b
  refine ⟨by revert b; decide, by revert b; decide +kernel, by revert b; decide, ?_, by revert b; decide, rfl,
    by revert b; decide +kernel⟩
  intro i _ g h
  revert h
  revert g i b
  decide +kernel

/-- A channel without an input under a SET_PART that enables another, a result of an input that no channel has, and a RESTART
with the pendant present and a switch closed. -/
theorem witness_frames_of_the_part :
    ((converted [] false).chan 1).load.input = none ∧
    ((∀ j : Channel, (State.reset.chan j).load.input ≠ some 5) ∧
      after (.conversionComplete 601)
        { State.reset with scanner := some { input := 5, start := 0, discard := false } } (fun t =>
          decide (t.chans = State.reset.chans)) = true) ∧
    ((selecting true true).arb.ppres = true ∧ inSet (selecting true true).arb.psel 0 = true ∧
      after (.restart .a []) (selecting true true) (fun t => decide ((t.chan 0).holder = .pendant)) = true) := by
  decide +kernel

/-! ### Witnesses for the laws that every step keeps: a rack with a channel on a run, and a command that stops it -/

/-- Group 0 of console A MOVING with channel 0 RUNNING, and an opening of ESTIN waiting. -/
def moving : State :=
  { (moved .moving .cruise 100 25).setChan 0 { running with group := some (.console 0) } with pending := [.estinChange false] }

/-- The same rack with the hold deadline of its group running. -/
def held : State := moving.modGrp (.console 0) fun r => { r with deadline := some 250000 }

theorem witness_EveryStepKeepsLineLaws :
    EveryChan LineLaw held ∧ EveryChan TimerLaw held ∧ EveryChan WatchLaw held ∧ EveryChan DutyLaw held ∧
    ∃ t, step held = .next t := by
  refine ⟨by decide +kernel, by decide +kernel, by decide +kernel, ?_, _, rfl⟩
  intro i
  refine ⟨by revert i; decide +kernel, ?_, by revert i; decide +kernel⟩
  have h : (held.chan i).gen.pendingDuty = none := by revert i; decide +kernel
  simp [h]

theorem witness_EveryStepKeepsMotionAndSupplyLaws :
    MotionLaw held ∧ SupplyLaw held ∧ MonitorLinkLaw held ∧ ∃ t, step held = .next t :=
  ⟨by decide +kernel, by decide +kernel, by decide +kernel, _, rfl⟩

/-- The state after reset has its trip-out line asserted. -/
theorem witness_EveryStepKeepsOutputLaws :
    AttentionLaw { State.reset with pending := [.estinFirstSettle true] } ∧
    TripoutLaw { State.reset with pending := [.estinFirstSettle true] } ∧
    ∃ t, step { State.reset with pending := [.estinFirstSettle true] } = .next t :=
  ⟨by decide +kernel, by decide +kernel, _, rfl⟩

theorem witness_EveryStepKeepsAuthorityLaws :
    AuthorityLaw held ∧ InputLaw held ∧ ∃ t, step held = .next t :=
  ⟨by decide +kernel, by decide +kernel, _, rfl⟩

theorem witness_EveryStepKeepsGroupLaw : GroupLaw held ∧ ProgressLaw held ∧ ∃ t, step held = .next t :=
  ⟨by decide +kernel, fun g => by cases g with | console n => revert n; decide +kernel | pendant => decide +kernel, _, rfl⟩

theorem witness_EveryStepKeepsRecordLaws :
    EveryChan FaultLaw held ∧ EveryChan WindowLaw held ∧ EveryChan PositionLaw held ∧ EveryChan EnvelopeLaw held ∧
    EveryChan (LoadLaw held.settings.enable) held ∧ ∃ t, step held = .next t :=
  ⟨by decide +kernel, by decide +kernel, by decide +kernel, by decide +kernel, by decide +kernel, _, rfl⟩

/-- The waiting opening of ESTIN stops the run of that rack quick and trips its group. -/
theorem test_estop_stops_the_run :
    (match step held with
     | .next t => decide ((t.chan 0).state = .stopping .quick) && decide ((t.grp (.console 0)).state = .tripped) &&
         t.stops.tripout && decide (t.pending = [])
     | .fault _ => false
     | .refused _ => false) = true := by decide +kernel

end Sys2Proof.Tests
end

section
/-! PROOFS. The requests that configure a channel (R17 to R22, R76): how a request frame on a channel is answered, what each
request does where it is refused and where it is taken, and the statements about CONFIG_CHANNEL's refusals, SET_UPPER,
SET_LOWER, SET_POSITION and SET_ENVELOPE. -/

namespace Sys2Proof.Machine

open Sys2Proof.Safety

/-! ### The bytes of a channel request's payload (R184) -/

/-- The byte of a channel number reads as that channel (R184). -/
@[simp] theorem channelAt_ofNat_cons (i : Channel) (p : List Byte) :
    channelAt (BitVec.ofNat 8 i.val :: p) 0 = some i := by
  have hb : byteAt (BitVec.ofNat 8 i.val :: p) 0 = i.val := toNat_ofNat_fin8 i
  simp [channelAt, hb]

/-- Two bytes read as a word are written back as they were (R184). -/
theorem u16_word (a b : Byte) : u16 (256 * a.toNat + b.toNat) = [a, b] := by
  have high : (256 * a.toNat + b.toNat) / 256 = a.toNat := by omega
  have low : BitVec.ofNat 8 (256 * a.toNat + b.toNat) = b := BitVec.eq_of_toNat_eq (by simp; omega)
  simp [u16, high, low]

/-! ### The enumerations of a configuration block (step 3 of R171) -/

theorem kindAt_isSome_iff (p : List Byte) (k : Nat) : (kindAt p k).isSome ↔ byteAt p k ≤ 2 := by
  unfold kindAt
  split <;> grind

theorem yesNoAt_isSome_iff (p : List Byte) (k : Nat) : (yesNoAt p k).isSome ↔ byteAt p k ≤ 1 := by
  unfold yesNoAt
  split <;> grind

theorem frequencyAt_isSome_iff (p : List Byte) (k : Nat) : (frequencyAt p k).isSome ↔ byteAt p k ≤ 3 := by
  simp [frequencyAt]

/-- A configuration block is read exactly where its three enumerations are in range. -/
theorem configAt_isSome_iff (p : List Byte) (k : Nat) :
    (configAt p k).isSome ↔ byteAt p k ≤ 2 ∧ byteAt p (k + 7) ≤ 1 ∧ byteAt p (k + 17) ≤ 3 := by
  rw [← kindAt_isSome_iff, ← yesNoAt_isSome_iff, ← frequencyAt_isSome_iff]
  unfold configAt
  cases kindAt p k <;> cases yesNoAt p (k + 7) <;> cases frequencyAt p (k + 17) <;> simp

/-! ### The answer to a channel request (R170, R173) -/

/-- The state that a request leaves, with the receiver of link `c` answering its reply (R173). -/
def replied (c : Console) (code : Byte) (r : Taken) : State := answered c code r.2.result r.2.payload r.1

variable (c : Console) (code : Byte) (s : State)

@[simp] theorem replied_refuse (r : Result) : replied c code (refuse r s) = answered c code r [] s := rfl

@[simp] theorem replied_refuseWith (r : Result) (echo : State → List Byte) :
    replied c code (refuseWith r echo s) = answered c code r (echo s) s := rfl

@[simp] theorem replied_takenWith (r : Result) (echo : State → List Byte) :
    replied c code (takenWith r echo s) = answered c code r (echo s) s := rfl

variable {c code s}

/-- Whether a frame is read depends on its payload by its length alone (R164). -/
theorem ready_of_length {p q : List Byte} (h : Ready c p s) (hq : q.length ≤ 64) : Ready c q s :=
  ⟨h.1, h.2.1, h.2.2.1, hq⟩

/-- A request frame of the right length on channel `i` is answered as the request on `i` replies (R170, R171, R173). -/
theorem channelFrame_eq (h : Ready c [] s) (i : Channel) (rest : List Byte) (n : Nat) (f : Channel → State → Taken)
    (hlen : rest.length + 1 = n) (hn : n ≤ 64) :
    let p := BitVec.ofNat 8 i.val :: rest
    addressedFrame c code p (withLength n p (withField (channelAt p 0) f)) s =
      replied c code (f i (refreshLink c s)) := by
  intro p
  have hp : p.length = n := by simpa [p] using hlen
  rw [addressedFrame_ready s c code p _ (ready_of_length h (hp ▸ hn)), takeAddressed_eq, withLength_of_eq _ _ hp,
    channelAt_ofNat_cons, withField_some]
  rfl

theorem exec_configChannel (h : Ready c [] s) (i : Channel) (block : List Byte) (hlen : block.length = 18) :
    exec (.configChannel c (BitVec.ofNat 8 i.val :: block)) s =
      .next (replied c 0x20 (withField (configAt (BitVec.ofNat 8 i.val :: block) 1) (configChannel c i) (refreshLink c s))) :=
  congrArg Host.Outcome.next (channelFrame_eq h i block 19 _ (by omega) (by omega))

theorem exec_setUpper (h : Ready c [] s) (i : Channel) (hi lo : Byte) :
    exec (.setUpper c [BitVec.ofNat 8 i.val, hi, lo]) s =
      .next (replied c 0x21 (setLimit .upper c i (256 * hi.toNat + lo.toNat) (refreshLink c s))) :=
  congrArg Host.Outcome.next (channelFrame_eq h i [hi, lo] 3 _ rfl (by omega))

theorem exec_setLower (h : Ready c [] s) (i : Channel) (hi lo : Byte) :
    exec (.setLower c [BitVec.ofNat 8 i.val, hi, lo]) s =
      .next (replied c 0x22 (setLimit .lower c i (256 * hi.toNat + lo.toNat) (refreshLink c s))) :=
  congrArg Host.Outcome.next (channelFrame_eq h i [hi, lo] 3 _ rfl (by omega))

theorem exec_setPosition (h : Ready c [] s) (i : Channel) (a b : Byte) :
    exec (.setPosition c [BitVec.ofNat 8 i.val, a, b]) s =
      .next (replied c 0x23 (setPosition c i (256 * a.toNat + b.toNat) (refreshLink c s))) :=
  congrArg Host.Outcome.next (channelFrame_eq h i [a, b] 3 _ rfl (by omega))

theorem exec_setEnvelope (h : Ready c [] s) (i : Channel) (a b d e : Byte) :
    exec (.setEnvelope c [BitVec.ofNat 8 i.val, a, b, d, e]) s =
      .next (replied c 0x24
        (setEnvelope c i (256 * a.toNat + b.toNat) (256 * d.toNat + e.toNat) (refreshLink c s))) :=
  congrArg Host.Outcome.next (channelFrame_eq h i [a, b, d, e] 5 _ rfl (by omega))

/-! ### The authority of a channel request (R80) -/

variable {i : Channel}

theorem asHeld_of_held (echo : Chan → List Byte) (f : State → Taken) (h : HeldBy c s i) : asHeld c i echo f s = f s :=
  if_pos ((holds_iff s c i).mpr h)

theorem asHeld_of_not_held (echo : Chan → List Byte) (f : State → Taken) (h : ¬HeldBy c s i) :
    asHeld c i echo f s = refuseWith .notHolder (fun s => echo (s.chan i)) s :=
  if_neg fun hh => h ((holds_iff s c i).mp hh)

/-- The link refresh leaves the holder of every channel. -/
theorem heldBy_refreshLink_iff : HeldBy c (refreshLink c s) i ↔ HeldBy c s i := by simp [HeldBy]

/-- The link refresh moves no channel in or out of a group in a move. -/
theorem inMovingGroup_refreshLink_iff :
    (refreshLink c s).inMovingGroup i = true ↔ ∃ g, (s.chan i).group = some g ∧ (s.grp g).state.inMove = true := by
  simp [State.inMovingGroup_iff]

/-! ### CONFIG_CHANNEL (R21) -/

theorem configChannel_of_grouped (f : ChanConfig) (hh : HeldBy c s i) (hg : (s.chan i).group ≠ none) :
    configChannel c i f s = refuseWith .inGroup (fun s => configEcho (s.chan i)) s := by
  rw [configChannel, asHeld_of_held _ _ hh]
  exact if_pos (Option.isSome_iff_ne_none.mpr hg)

theorem configChannel_of_busy (f : ChanConfig) (hh : HeldBy c s i) (hg : (s.chan i).group = none)
    (hp : (s.chan i).state ≠ .parked) (ho : (s.chan i).state ≠ .off) :
    configChannel c i f s = refuseWith .busy (fun s => configEcho (s.chan i)) s := by
  rw [configChannel, asHeld_of_held _ _ hh]
  simp [hg, hp, ho]

/-- Settles O35: step 3 of R171 refuses a block with an enumeration out of range, and a block in range comes to R21's tests
in their order. -/
theorem configChannelRefusals : Obligations.ConfigChannelRefusals := by
  intro c i block s hlen hready u p echo inRange
  have hexec : exec (.configChannel c p) s = .next (replied c 0x20 (withField (configAt p 1) (configChannel c i) u)) :=
    exec_configChannel hready i block hlen
  have hsome : (configAt p 1).isSome ↔ inRange := configAt_isSome_iff p 1
  have hchan : u.chan i = s.chan i := refreshLink_chan s c i
  have hheld : HeldBy c u i ↔ HeldBy c s i := heldBy_refreshLink_iff
  have read (hr : inRange) : ∃ f, exec (.configChannel c p) s = .next (replied c 0x20 (configChannel c i f u)) := by
    obtain ⟨f, hf⟩ := Option.isSome_iff_exists.mp (hsome.mpr hr)
    exact ⟨f, by rw [hexec, hf, withField_some]⟩
  refine ⟨fun hr => ?badValue, fun hr hh => ?notHolder, fun hr hh hg => ?inGroup, fun hr hh hg hp ho => ?busy⟩
  case badValue =>
    have hnone : configAt p 1 = none := Option.not_isSome_iff_eq_none.mp (mt hsome.mp hr)
    rw [hexec, hnone, withField_none, replied_refuse]
  case notHolder =>
    obtain ⟨f, hf⟩ := read hr
    rw [hf, configChannel, asHeld_of_not_held _ _ (mt hheld.mp hh), replied_refuseWith]
  case inGroup =>
    obtain ⟨f, hf⟩ := read hr
    rw [hf, configChannel_of_grouped f (hheld.mpr hh) (by rwa [hchan]), replied_refuseWith]
  case busy =>
    obtain ⟨f, hf⟩ := read hr
    rw [hf, configChannel_of_busy f (hheld.mpr hh) (by rwa [hchan]) (by rwa [hchan]) (by rwa [hchan]),
      replied_refuseWith]

/-! ### SET_UPPER and SET_LOWER (R18, R19) -/

variable {side other : Side} {v x : Nat} {ch : Chan}

/-- With nothing pending, or a value pending on the side written, a write opens the pair (R19). -/
theorem writeLimit_opens (h : ch.pendingLimit = none ∨ ch.pendingLimit = some (side, x)) :
    writeLimit side v ch = some { ch with pendingLimit := some (side, v), window := .opened } := by
  rcases h with h | h <;> simp [writeLimit, openLimit, h]

/-- A write on the side that is not pending closes the pair where that is 20 counts wide, and is refused otherwise (R19). -/
theorem writeLimit_closes (h : ch.pendingLimit = some (other, x)) (hne : other ≠ side) :
    writeLimit side v ch =
      if (closedPair side v x).2 + 20 ≤ (closedPair side v x).1 then
        some { ch with
          upper := (closedPair side v x).1, lower := (closedPair side v x).2, window := .valid, pendingLimit := none }
      else none := by
  simp [writeLimit, h, hne]

theorem setLimit_of_not_held (h : ¬HeldBy c s i) :
    setLimit side c i v s = refuseWith .notHolder (fun s => limitsEcho (s.chan i)) s := asHeld_of_not_held _ _ h

theorem setLimit_of_busy (hh : HeldBy c s i) (hb : (s.chan i).state.inMotion = true ∨ s.inMovingGroup i = true) :
    setLimit side c i v s = refuseWith .busy (fun s => limitsEcho (s.chan i)) s := by
  rw [setLimit, asHeld_of_held _ _ hh]
  rcases hb with hm | hg
  · exact if_pos hm
  · simp [hg]

/-- A write by the holder on a channel at rest is what `writeLimit` makes of the record, or BAD_WINDOW (R18, R19). -/
theorem setLimit_of_free (hh : HeldBy c s i) (hb : ¬((s.chan i).state.inMotion = true ∨ s.inMovingGroup i = true)) :
    replied c code (setLimit side c i v s) =
      (writeLimit side v (s.chan i)).elim (answered c code .badWindow (limitsEcho (s.chan i)) s)
        fun ch => answered c code .ok (limitsEcho ch) (s.setChan i ch) := by
  obtain ⟨hm, hg⟩ := not_or.mp hb
  rw [setLimit, asHeld_of_held _ _ hh]
  cases writeLimit side v (s.chan i) <;> simp [hm, hg]

/-- Settles O37: the tests of R18 in their order, and for a write that passes them the three cases of the pending slot. -/
theorem limitWritesByPairs : Obligations.LimitWritesByPairs := by
  intro c i hi lo s hready u v p busy
  have hchan : u.chan i = s.chan i := refreshLink_chan s c i
  have hheld : HeldBy c u i ↔ HeldBy c s i := heldBy_refreshLink_iff
  have hbusy : ((u.chan i).state.inMotion = true ∨ u.inMovingGroup i = true) ↔ busy := by
    rw [hchan, inMovingGroup_refreshLink_iff]
  have upper : exec (.setUpper c p) s = .next (replied c 0x21 (setLimit .upper c i v u)) := exec_setUpper hready i hi lo
  have lower : exec (.setLower c p) s = .next (replied c 0x22 (setLimit .lower c i v u)) := exec_setLower hready i hi lo
  rw [upper, lower]
  refine ⟨fun hh => ?notHolder, fun hh hb => ?busy, fun hh hb => ?free⟩
  case notHolder =>
    simp only [setLimit_of_not_held (mt hheld.mp hh), replied_refuseWith, hchan, and_self]
  case busy =>
    simp only [setLimit_of_busy (hheld.mpr hh) (hbusy.mpr hb), replied_refuseWith, hchan, and_self]
  case free =>
    simp only [setLimit_of_free (hheld.mpr hh) (mt hbusy.mp hb), hchan]
    rcases hpend : (s.chan i).pendingLimit with _ | ⟨_ | _, x⟩
    case none => simp [writeLimit_opens (x := 0) (.inl hpend)]
    case some.upper =>
      rw [writeLimit_opens (.inr hpend), writeLimit_closes hpend (by decide)]
      by_cases hw : v + 20 ≤ x <;> simp [closedPair, hw]
    case some.lower =>
      rw [writeLimit_opens (.inr hpend), writeLimit_closes hpend (by decide)]
      by_cases hw : x + 20 ≤ v <;> simp [closedPair, hw]

/-! ### SET_POSITION and SET_ENVELOPE (R17, R76) -/

theorem setPosition_of_busy (hh : HeldBy c s i)
    (hb : ((s.chan i).state ≠ .parked ∧ (s.chan i).state ≠ .faulted) ∨ s.inMovingGroup i = true) :
    setPosition c i x s = refuseWith .busy (fun s => u16 (s.chan i).position) s := by
  rw [setPosition, asHeld_of_held _ _ hh]
  rcases hb with hst | hg
  · exact if_pos hst
  · simp [hg]

theorem setPosition_of_free (hh : HeldBy c s i) (hst : (s.chan i).state = .parked ∨ (s.chan i).state = .faulted)
    (hg : ¬s.inMovingGroup i = true) :
    setPosition c i x s =
      takenWith .ok (fun s => u16 (s.chan i).position) (s.setChan i (placed x (s.chan i))) := by
  rw [setPosition, asHeld_of_held _ _ hh]
  rcases hst with hst | hst <;> simp [hst, hg]

/-- The envelope stored: the maximum clamped to 5/4 of the rated load, the minimum below it (R76). -/
theorem storeEnvelope_eq (lo hi : Nat) :
    storeEnvelope lo hi ch =
      { ch with
        envMax := max 1 (min (ch.cfg.ratedLoad * 5 / 4) hi)
        envMin := min (max 1 (min (ch.cfg.ratedLoad * 5 / 4) hi) - 1) lo } := by
  simp [storeEnvelope, clamp]

theorem setEnvelope_of_held (lo hi : Nat) (hh : HeldBy c s i) :
    setEnvelope c i lo hi s =
      takenWith .ok (fun s => u16 (s.chan i).envMin ++ u16 (s.chan i).envMax)
        (s.setChan i (storeEnvelope lo hi (s.chan i))) := asHeld_of_held _ _ hh

/-- Settles O38: the tests of R17 in their order, SET_POSITION's write, and SET_ENVELOPE, which R76 refuses to a console that
does not hold the channel and to no other. -/
theorem positionAndEnvelopeWrites : Obligations.PositionAndEnvelopeWrites := by
  intro c i a b d e s hready u x y n inMove
  have hchan : u.chan i = s.chan i := refreshLink_chan s c i
  have hheld : HeldBy c u i ↔ HeldBy c s i := heldBy_refreshLink_iff
  have hmove : u.inMovingGroup i = true ↔ inMove := inMovingGroup_refreshLink_iff
  have position : exec (.setPosition c [n, a, b]) s = .next (replied c 0x23 (setPosition c i x u)) :=
    exec_setPosition hready i a b
  have envelope : exec (.setEnvelope c [n, a, b, d, e]) s = .next (replied c 0x24 (setEnvelope c i x y u)) :=
    exec_setEnvelope hready i a b d e
  rw [position, envelope]
  refine ⟨fun hh => ?posNotHolder, fun hh hb => ?posBusy, fun hh hst hg => ?posTaken, fun hh => ?envNotHolder,
    fun hh => ?envTaken⟩
  case posNotHolder =>
    rw [setPosition, asHeld_of_not_held _ _ (mt hheld.mp hh), replied_refuseWith, hchan]
  case posBusy =>
    rw [setPosition_of_busy (hheld.mpr hh) (by rwa [hchan, hmove]), replied_refuseWith, hchan]
  case posTaken =>
    rw [setPosition_of_free (hheld.mpr hh) (by rwa [hchan]) (mt hmove.mp hg), replied_takenWith, hchan]
    simp [placed, x, u16_word]
  case envNotHolder =>
    rw [setEnvelope, asHeld_of_not_held _ _ (mt hheld.mp hh), replied_refuseWith, hchan]
  case envTaken =>
    refine ⟨_, ?_, rfl⟩
    rw [setEnvelope_of_held x y (hheld.mpr hh), replied_takenWith, hchan, storeEnvelope_eq]

end Sys2Proof.Machine
end

section
/-! PROOFS. POWER (R42, R43): what the supply's changes leave, what POWER does by the monitor, the supply state and the
channels, and the statement about POWER_ON, POWER_OFF and a POWER frame with another value. -/

namespace Sys2Proof.Machine

open Sys2Proof.Safety

variable {c : Console} {s : State}

/-! ### A notice raised again (R179) -/

theorem boxRaise_boxRaise (n : Notice) (b : NoticeBox) : boxRaise n (boxRaise n b) = boxRaise n b := by
  simp [boxRaise, noticeBox, BitVec.or_assoc]

/-- Raising a notice that has just been raised changes nothing. -/
@[simp] theorem State.raise_raise (n : Notice) : (s.raise n).raise n = s.raise n := by
  simp [State.raise, boxRaise_boxRaise]

/-! ### The drive supply closing (R42, R43) -/

/-- With MAINSFB open the supply waits in CLOSING for its proof (R42). -/
theorem supplyClosing_of_open (h : s.supply.mainsfb = false) :
    supplyClosing s =
      { s with supply := { s.supply with
          state := .closing, mains := true, closingTimer := some (s.timebase + 500000)
          settlingTimer := none } }.raise .supply := by
  simp [supplyClosing, supplyTo, startMs, afterMs, h]

/-- With MAINSFB already closed the supply is proven at once and settles (R43). -/
theorem supplyClosing_of_closed (h : s.supply.mainsfb = true) :
    supplyClosing s =
      { s with supply := { s.supply with
          state := .settling, mains := true, closingTimer := none
          settlingTimer := some (s.timebase + 1500000) } }.raise .supply := by
  have proven : supplyClosing s =
      ({ s with supply := { s.supply with
          state := .settling, mains := true, closingTimer := none
          settlingTimer := some (s.timebase + 1500000) } }.raise .supply).raise .supply := by
    simp [supplyClosing, supplySettling, supplyTo, startMs, afterMs, h, State.raise]
  rw [proven, State.raise_raise]

/-- A change of the supply with its notice is a change of the supply alone, beside the pending sets (R41). -/
theorem keepsPart_supplyRaise (u : Supply) :
    KeepsPart s { ({ s with supply := u } : State).raise .supply with supply := s.supply } :=
  ⟨State.keepsNotices_raise { s with supply := u } .supply, rfl, rfl, rfl, rfl, rfl, rfl, rfl, rfl, rfl, rfl, rfl⟩

/-! ### POWER by the monitor, the supply state and the channels (R42) -/

theorem power_on_of_low (h : s.stops.monitor = .low) : power true s = refuseWith .stopActive supplyEcho s := by
  simp [power, h]

theorem power_on_of_unpowered (hm : s.stops.monitor ≠ .low) (h : s.supply.state = .off ∨ s.supply.state = .failed) :
    power true s = takenWith .ok supplyEcho (supplyClosing s) := by
  simp [power, hm, h]

theorem power_on_of_powered (hm : s.stops.monitor ≠ .low) (ho : s.supply.state ≠ .off) (hf : s.supply.state ≠ .failed) :
    power true s = takenWith .ok supplyEcho s := by
  simp [power, hm, ho, hf]

theorem power_off_of_moving (h : ∃ i : Channel, (s.chan i).state.inMotion = true) :
    power false s = refuseWith .busy supplyEcho s := by
  simp [power, h]

theorem power_off_of_off (hm : ¬∃ i : Channel, (s.chan i).state.inMotion = true) (h : s.supply.state = .off) :
    power false s = takenWith .ok supplyEcho s := by
  simp [power, hm, h]

theorem power_off_of_not_off (hm : ¬∃ i : Channel, (s.chan i).state.inMotion = true) (h : s.supply.state ≠ .off) :
    power false s = takenWith .ok supplyEcho (supplyOff s) := by
  simp [power, hm, h]

/-! ### POWER frames (R170, R171, R173) -/

theorem exec_powerOn (h : Ready c [] s) : exec (.powerOn c) s = .next (replied c 0x40 (power true (refreshLink c s))) :=
  congrArg Host.Outcome.next (addressedFrame_ready s c 0x40 [1] (reqPower [1]) (ready_of_length h (by simp)))

theorem exec_powerOff (h : Ready c [] s) :
    exec (.powerOff c) s = .next (replied c 0x40 (power false (refreshLink c s))) :=
  congrArg Host.Outcome.next (addressedFrame_ready s c 0x40 [0] (reqPower [0]) (ready_of_length h (by simp)))

/-- A value that is neither ON nor OFF is refused by step 3 of R171. -/
theorem reqPower_of_out_of_range {v : Byte} (h : 1 < v.toNat) : reqPower [v] s = refuse .badValue s := by
  have hnone : yesNoAt [v] 0 = none :=
    Option.not_isSome_iff_eq_none.mp (mt (yesNoAt_isSome_iff [v] 0).mp (Nat.not_le.mpr h))
  rw [reqPower, withLength_of_eq _ _ (by rfl), hnone, withField_none]

/-- The link refresh leaves the table of channels. -/
@[simp] theorem refreshLink_chans : (refreshLink c s).chans = s.chans := by rw [refreshLink_eq]

/-- The link refresh leaves the table of groups. -/
@[simp] theorem refreshLink_groups : (refreshLink c s).groups = s.groups := by rw [refreshLink_eq]

/-- Settles O49: the rows of R42's table, with R43 where MAINSFB is already closed. -/
theorem powerByTheTable : Obligations.PowerByTheTable := by
  intro c s hready u echo moving
  have hstops : u.stops = s.stops := refreshLink_stops s c
  have hsupply : u.supply = s.supply := refreshLink_supply s c
  have htime : u.timebase = s.timebase := refreshLink_timebase s c
  have hecho : supplyEcho u = echo := by rw [supplyEcho, hsupply]; rfl
  have hmoving : (∃ i : Channel, (u.chan i).state.inMotion = true) ↔ moving := by
    simp only [u, moving, refreshLink_chan]
  have on : exec (.powerOn c) s = .next (replied c 0x40 (power true u)) := exec_powerOn hready
  have off : exec (.powerOff c) s = .next (replied c 0x40 (power false u)) := exec_powerOff hready
  rw [on, off, ← hstops, ← hsupply, ← htime]
  refine ⟨fun hl => ?onLow, fun hl ho hf => ?onPowered, fun hl hs hb => ?onClosing, fun hl hs hb => ?onSettling,
    fun hm => ?offMoving, fun hm ho => ?offOff, fun hm ho => ?offTaken, fun v hv => ?otherValue⟩
  case onLow => rw [power_on_of_low hl, replied_refuseWith, hecho]
  case onPowered => rw [power_on_of_powered hl ho hf, replied_takenWith, hecho]
  case onClosing =>
    rw [power_on_of_unpowered hl hs, replied_takenWith, supplyClosing_of_open hb]
    rfl
  case onSettling =>
    rw [power_on_of_unpowered hl hs, replied_takenWith, supplyClosing_of_closed hb]
    exact ⟨_, rfl, rfl, State.pendingBoth_raise _ _, refreshLink_chans, refreshLink_groups, keepsPart_supplyRaise _⟩
  case offMoving => rw [power_off_of_moving (hmoving.mpr hm), replied_refuseWith, hecho]
  case offOff =>
    rw [power_off_of_off (mt hmoving.mp hm) ho, replied_takenWith, supplyEcho, ho]
    rfl
  case offTaken =>
    rw [power_off_of_not_off (mt hmoving.mp hm) ho, replied_takenWith]
    rfl
  case otherValue =>
    rw [takeAddressed_eq]
    exact congrArg (replied c 0x40) (reqPower_of_out_of_range hv)

end Sys2Proof.Machine
end

section
/-! PROOFS. A fault report on a channel (R10, R11): what a QUICK stop makes of one channel (R7), what a trip that names a
FAULTED channel makes of its group (R119), and that the report is taken as `FaultTaken` says. -/

namespace Sys2Proof.Machine

open Sys2Proof.Safety

variable {s t u : State}

/-! ### What a change keeps of the part -/

/-- A pending set has lost no kind exactly where each of its kinds is in the later set. -/
theorem and_not_eq_zero_iff (a b : NoticeSet) : a &&& ~~~b = 0 ↔ ∀ k, a.getLsbD k = true → b.getLsbD k = true := by
  refine ⟨fun h k ha => ?_, fun h => BitVec.eq_of_getLsbD_eq fun k hk => ?_⟩
  · have hk : k < 53 := BitVec.lt_of_getLsbD ha
    have : (a &&& ~~~b).getLsbD k = false := by rw [h]; simp
    simpa [ha, hk] using this
  · cases ha : a.getLsbD k with
    | false => simp [ha]
    | true => simp [h k ha]

theorem keepsNotices_rfl : KeepsNotices s s := by simp [KeepsNotices]

theorem keepsNotices_trans (h : KeepsNotices s t) (h' : KeepsNotices t u) : KeepsNotices s u := by
  simp only [KeepsNotices, and_not_eq_zero_iff] at *
  obtain ⟨ma, mb, pa, pb⟩ := h
  obtain ⟨ma', mb', pa', pb'⟩ := h'
  exact ⟨ma'.trans ma, mb'.trans mb, fun k hk => pa' k (pa k hk), fun k hk => pb' k (pb k hk)⟩

/-- A notice that is pending stays pending where no kind leaves the pending sets. -/
theorem pendingBoth_of_keepsNotices {n : Notice} (hp : PendingBoth n s) (h : KeepsNotices s t) : PendingBoth n t := by
  simp only [KeepsNotices, and_not_eq_zero_iff] at h
  obtain ⟨-, -, pa, pb⟩ := h
  exact ⟨pa _ hp.1, pb _ hp.2⟩

theorem keepsPart_trans (h : KeepsPart s t) (h' : KeepsPart t u) : KeepsPart s u := by
  obtain ⟨hn, hsu, hsc, har, hst, hse, hpo, hsa, hti, hfl, hfr, hpe⟩ := h
  obtain ⟨hn', hsu', hsc', har', hst', hse', hpo', hsa', hti', hfl', hfr', hpe'⟩ := h'
  refine ⟨keepsNotices_trans hn hn', hsu'.trans hsu, hsc'.trans hsc, har'.trans har, ?_, hse'.trans hse, hpo'.trans hpo,
    hsa'.trans hsa, hti'.trans hti, hfl'.trans hfl, hfr'.trans hfr, hpe'.trans hpe⟩
  rw [hst', hst]

/-- A change of channel and group records alone keeps the rest of the part. -/
theorem keepsPart_of_records (cs : Chans Chan) (gs : Groups) : KeepsPart s { s with chans := cs, groups := gs } :=
  ⟨keepsNotices_rfl, rfl, rfl, rfl, rfl, rfl, rfl, rfl, rfl, rfl, rfl, rfl⟩

theorem keepsPart_raise (n : Notice) : KeepsPart s (s.raise n) :=
  ⟨s.keepsNotices_raise n, rfl, rfl, rfl, rfl, rfl, rfl, rfl, rfl, rfl, rfl, rfl⟩

theorem keepsPart_retrip : KeepsPart s s.retrip :=
  ⟨keepsNotices_rfl, rfl, rfl, rfl, rfl, rfl, rfl, rfl, rfl, rfl, rfl, rfl⟩

/-! ### A QUICK stop of one channel (R7, R29, R31, R32) -/

variable (now : Time) (c : Chan)

@[simp] theorem watchStuck_raise : (watchStuck now c).out.raise = c.out.raise := by
  obtain ⟨w, h⟩ := watchStuck_eq now c; rw [h]

@[simp] theorem watchStuck_lower : (watchStuck now c).out.lower = c.out.lower := by
  obtain ⟨w, h⟩ := watchStuck_eq now c; rw [h]

@[simp] theorem watchStuck_brk : (watchStuck now c).out.brk = c.out.brk := by
  obtain ⟨w, h⟩ := watchStuck_eq now c; rw [h]

/-- The end of a stop parks a STOPPING channel whose brake set is confirmed, or changes nothing (R8, R32). -/
theorem chanFinishStop_cases :
    chanFinishStop now c = watchStuck now c ∨
      (c.out.confirmTimer = none ∧ chanFinishStop now c = watchStuck now (chanPark now c)) := by
  unfold chanFinishStop
  split
  next =>
    split
    next hdone =>
      obtain ⟨hconf, -⟩ := Bool.and_eq_true_iff.mp hdone
      exact .inr ⟨Option.isNone_iff_eq_none.mp hconf, rfl⟩
    next => exact .inl rfl
  all_goals exact .inl rfl

/-- What a QUICK stop of the record `a` has made of a channel that was STARTING, RUNNING or under a controlled stop. -/
structure StopsQuick (a b : Chan) : Prop where
  state : b.state = .stopping .quick ∨ b.state = .parked
  startPending : b.startPending = none
  raise : b.out.raise = false
  lower : b.out.lower = false
  brk : b.out.brk = a.out.brk
  confirming : a.out.confirmTimer ≠ none → b.state = .stopping .quick

/-- The end of a quick stop with its lines off. -/
theorem stopsQuick_chanFinishStop {a : Chan} (hs : a.state = .stopping .quick) (hp : a.startPending = none)
    (hr : a.out.raise = false) (hl : a.out.lower = false) : StopsQuick a (chanFinishStop now a) := by
  rcases chanFinishStop_cases now a with h | ⟨hconf, h⟩ <;> rw [h]
  · exact ⟨.inl (by simpa), by simpa, by simpa, by simpa, by simp, fun _ => by simpa⟩
  · exact ⟨.inr (by simp [chanPark]), by simpa [chanPark], by simpa [chanPark], by simpa [chanPark], by simp [chanPark],
      fun hne => absurd hconf hne⟩

/-- A QUICK stop of a channel whose brake is released (R30, R31). -/
theorem stopReleased_quick :
    ∃ a, StopsQuick a (stopReleased now .quick c) ∧ a.out.brk = false ∧
      a.out.confirmTimer = startConfirm now (leaveRunning now c) := by
  unfold stopReleased
  dsimp only
  refine ⟨_, stopsQuick_chanFinishStop now ?_ ?_ ?_ ?_, ?_, ?_⟩ <;> rfl

/-- A QUICK stop of a channel whose brake was not yet released (R29). -/
theorem stopUnproven_quick : ∃ a, StopsQuick a (stopUnproven now .quick c) ∧ a.out.brk = false := by
  refine ⟨_, stopsQuick_chanFinishStop now ?_ ?_ ?_ ?_, ?_⟩ <;> rfl

/-- A controlled stop made quick (R31). -/
theorem stopMadeQuick_quick : ∃ a, StopsQuick a (stopMadeQuick now c) := by
  refine ⟨_, stopsQuick_chanFinishStop now ?_ ?_ ?_ ?_⟩ <;> rfl

/-- A stop that takes time has its confirmation running when BRKn has gone off (R32). -/
theorem startConfirm_of_stopTakesTime {c : Chan} (h : StopTakesTime c) :
    startConfirm now (leaveRunning now c) ≠ none := by
  obtain ⟨hrun, hfit | hbfb⟩ := h
  · simp [startConfirm, leaveRunning, hrun, hfit, startMs]
  · simp [startConfirm, leaveRunning, hrun, hbfb, startMs]

/-- A QUICK stop request leaves the channel as step 2 of R119 says. -/
theorem quickStopped_chanStop : QuickStopped c (chanStop now .quick c) := by
  obtain ⟨rest, parked⟩ := chanStop_at_rest now c .quick
  have atRest (h : c.state = .off ∨ c.state = .faulted) : QuickStopped c (chanStop now .quick c) := by
    rw [rest h]
    refine ⟨fun _ => rfl, ?_⟩
    rcases h with h | h <;> simp [StopTakesTime, ChanState.inMotion, h]
  cases hs : c.state with
  | off => exact atRest (.inl hs)
  | faulted => exact atRest (.inr hs)
  | parked =>
    rw [parked hs]
    exact ⟨by simp [hs], fun _ => rfl, by simp [hs, ChanState.inMotion], by simp [hs], by simp [hs],
      by simp [hs, StopTakesTime]⟩
  | starting =>
    have stop : ∃ a, StopsQuick a (chanStop now .quick c) ∧ a.out.brk = false := by
      simp only [chanStop, hs]
      split
      next =>
        obtain ⟨a, hq, hbrk, -⟩ := stopReleased_quick now c
        exact ⟨a, hq, hbrk⟩
      next => exact stopUnproven_quick now c
    obtain ⟨a, hq, hbrk⟩ := stop
    exact ⟨by simp [hs], by simp [hs], fun _ => ⟨hq.state, hq.startPending⟩,
      fun _ => ⟨hq.raise, hq.lower, hq.brk.trans hbrk⟩, by simp [hs], by simp [hs, StopTakesTime]⟩
  | running =>
    have stop : chanStop now .quick c = stopReleased now .quick c := by simp [chanStop, hs]
    obtain ⟨a, hq, hbrk, hconf⟩ := stopReleased_quick now c
    rw [stop]
    exact ⟨by simp [hs], by simp [hs], fun _ => ⟨hq.state, hq.startPending⟩,
      fun _ => ⟨hq.raise, hq.lower, hq.brk.trans hbrk⟩, by simp [hs],
      fun h => hq.confirming (hconf ▸ startConfirm_of_stopTakesTime now h)⟩
  | stopping form =>
    cases form with
    | quick =>
      have stop : chanStop now .quick c = { c with startPending := none } := by simp [chanStop, hs]
      rw [stop]
      exact ⟨by simp [hs], by simp [hs], fun _ => ⟨.inl hs, rfl⟩, by simp [hs], by simp [hs],
        by simp [hs, StopTakesTime]⟩
    | controlled =>
      have stop : chanStop now .quick c = stopMadeQuick now c := by simp [chanStop, hs]
      obtain ⟨a, hq⟩ := stopMadeQuick_quick now c
      rw [stop]
      exact ⟨by simp [hs], by simp [hs], fun _ => ⟨hq.state, hq.startPending⟩, by simp [hs],
        fun _ => ⟨hq.raise, hq.lower⟩, by simp [hs, StopTakesTime]⟩

/-! ### A trip of a group with a FAULTED member (R11, R119) -/

variable {i : Channel} {g : GroupId} {cause : TripCause}

/-- Group `g` has entered TRIPPED (R119): its record with its timers stopped, QUICK stops of its members, its notice, and
nothing else. -/
structure TripEntered (g : GroupId) (cause : TripCause) (ch : Option Channel) (s t : State) : Prop where
  record : t.grp g =
    { endMoveTimers (s.grp g) with
      state := .tripped, updateTimer := none, trip := some { cause := cause, channel := ch, further := 0 } }
  others : ∀ h, h ≠ g → t.grp h = s.grp h
  chans : ∀ j, t.chan j = if (s.chan j).group = some g then chanStop s.timebase .quick (s.chan j) else s.chan j
  noticed : TripNoticed g t
  part : KeepsPart s t

/-- The records of entry to TRIPPED, before anybody is told (steps 1 to 3 of R119). -/
def tripRecords (g : GroupId) (cause : TripCause) (ch : Option Channel) (s : State) : State :=
  let stopped := s.setGrp g { endMoveTimers (s.grp g) with state := .tripped, updateTimer := none }
  ((stopped.members g).foldl (stopMember .quick) stopped).modGrp g fun r =>
    { r with trip := some { cause := cause, channel := ch, further := 0 } }

theorem enterTripped_console_eq (n : ConsoleGroup) (ch : Option Channel) :
    enterTripped (.console n) cause ch s = ((tripRecords (.console n) cause ch s).raise (.group n .tripped)).retrip := rfl

theorem enterTripped_pendant_eq (ch : Option Channel) :
    enterTripped .pendant cause ch s = pendantExit (tripRecords .pendant cause ch s).retrip := rfl

theorem tripRecords_eq (ch : Option Channel) :
    tripRecords g cause ch s =
      { s with chans := (tripRecords g cause ch s).chans, groups := (tripRecords g cause ch s).groups } := by
  simp only [tripRecords, State.modGrp_eq]
  rw [foldl_stopMember_eq]
  rfl

theorem tripRecords_grp (ch : Option Channel) (h : GroupId) :
    (tripRecords g cause ch s).grp h =
      if h = g then
        { endMoveTimers (s.grp g) with
          state := .tripped, updateTimer := none, trip := some { cause := cause, channel := ch, further := 0 } }
      else s.grp h := by
  have fold (l : List Channel) (u : State) (k : GroupId) : (l.foldl (stopMember .quick) u).grp k = u.grp k := by
    rw [foldl_stopMember_eq]; rfl
  by_cases hg : h = g <;> simp [tripRecords, fold, hg]

theorem tripRecords_chan (ch : Option Channel) (j : Channel) :
    (tripRecords g cause ch s).chan j =
      if (s.chan j).group = some g then chanStop s.timebase .quick (s.chan j) else s.chan j := by
  simp only [tripRecords, State.modGrp_eq, State.setGrp_chan]
  rw [foldl_stopMember_chan _ _ _ (State.members_nodup _ _)]
  simp

/-- The pendant group stays TRIPPED while a member is not PARKED (R100). -/
theorem pendantExit_of_not_parked (hg : (s.chan i).group = some .pendant) (hp : (s.chan i).state ≠ .parked) :
    pendantExit s = s := by
  rcases pendantExit_cases s with h | ⟨-, -, hall, -⟩
  · exact h
  · exact absurd ((s.allParked_iff .pendant).mp hall i hg) hp

/-- A group with a FAULTED member enters TRIPPED and stays there, the pendant group too. -/
theorem tripEntered_enterTripped (ch : Option Channel) (hg : (s.chan i).group = some g)
    (hf : (s.chan i).state = .faulted) :
    TripEntered g cause ch s (enterTripped g cause ch s) := by
  have hpart : KeepsPart s (tripRecords g cause ch s) := by rw [tripRecords_eq]; exact keepsPart_of_records _ _
  have hrecord := (tripRecords_grp (s := s) (g := g) (cause := cause) ch g).trans (if_pos rfl)
  have hothers (h : GroupId) (hne : h ≠ g) :=
    (tripRecords_grp (s := s) (g := g) (cause := cause) ch h).trans (if_neg hne)
  cases g with
  | console n =>
    rw [enterTripped_console_eq]
    refine ⟨hrecord, hothers, tripRecords_chan (cause := cause) ch, fun m hm => ?_,
      keepsPart_trans hpart (keepsPart_trans (keepsPart_raise _) keepsPart_retrip)⟩
    cases hm
    exact State.pendingBoth_raise _ _
  | pendant =>
    have hi : (tripRecords .pendant cause ch s).chan i = s.chan i := by
      rw [tripRecords_chan, if_pos hg, (chanStop_at_rest s.timebase (s.chan i) .quick).1 (.inr hf)]
    rw [enterTripped_pendant_eq, pendantExit_of_not_parked (i := i) (by simpa [hi]) (by simp [hi, hf])]
    exact ⟨hrecord, hothers, tripRecords_chan (cause := cause) ch, fun m hm => (nomatch hm),
      keepsPart_trans hpart keepsPart_retrip⟩

/-- A trip of channel `i`, said of the one group that channel `i` is in. -/
theorem tripTaken_of_group (hg : (s.chan i).group = some g) (others : ∀ h, h ≠ g → t.grp h = s.grp h)
    (resting : (s.grp g).state = .idle ∨ (s.grp g).state = .paused → t.grp g = s.grp g)
    (counted : (s.grp g).state = .tripped → t.grp g = countFurther (s.grp g))
    (entered : (s.grp g).state.inMove = true → TripEntered g cause (some i) s t) : TripTaken cause i s t := by
  intro h
  by_cases hh : h = g
  case neg =>
    have hne : (s.chan i).group ≠ some h := by rw [hg]; simpa using Ne.symm hh
    exact ⟨fun e => absurd e hne, fun e => absurd e hne, fun _ => others h hh⟩
  case pos =>
    subst hh
    refine ⟨fun _ hm => ?_, fun _ ht => counted ht, fun hr => resting (hr.resolve_left fun hne => hne hg)⟩
    obtain ⟨record, -, chans, noticed, -⟩ := entered hm
    refine ⟨by rw [record], by rw [record], by rw [record], by rw [record]; rfl, by rw [record]; rfl, noticed, ?_⟩
    intro j _ hj
    rw [chans, if_pos hj]
    exact quickStopped_chanStop _ _

/-- Channel `i` and the channels outside its group are the same, and its fellow members are the same or have each taken a
QUICK stop. -/
def FellowsStopped (i : Channel) (s t : State) : Prop :=
  ∀ j, t.chan j = s.chan j ∨
    ((s.chan j).group ≠ none ∧ (s.chan j).group = (s.chan i).group ∧ t.chan j = chanStop s.timebase .quick (s.chan j))

/-- A trip that names a FAULTED channel reaches the group it is in (R11, R119). -/
theorem tripGroup_of_faulted (hg : (s.chan i).group = some g) (hf : (s.chan i).state = .faulted) :
    TripTaken cause i s (tripGroup cause (some i) g s) ∧ KeepsPart s (tripGroup cause (some i) g s) ∧
      FellowsStopped i s (tripGroup cause (some i) g s) := by
  obtain ⟨hrest, htripped, hmove⟩ := tripGroup_cases s cause (some i) g
  have states : ((s.grp g).state = .idle ∨ (s.grp g).state = .paused) ∨ (s.grp g).state = .tripped ∨
      (s.grp g).state.inMove = true := by cases (s.grp g).state <;> simp [GroupState.inMove]
  rcases states with hidle | hcount | hin
  · rw [hrest hidle]
    refine ⟨tripTaken_of_group hg (fun _ _ => rfl) (fun _ => rfl) ?_ ?_, keepsPart_of_records _ _, fun j => .inl rfl⟩
    all_goals rcases hidle with h | h <;> simp [h, GroupState.inMove]
  · rw [htripped hcount]
    exact ⟨tripTaken_of_group hg (fun h hne => by simp [hne]) (by simp [hcount]) (by simp)
      (by simp [hcount, GroupState.inMove]), keepsPart_of_records _ _, fun j => .inl rfl⟩
  · rw [hmove hin]
    have entered := tripEntered_enterTripped (cause := cause) (some i) hg hf
    refine ⟨tripTaken_of_group hg entered.others ?_ ?_ fun _ => entered, entered.part, fun j => ?_⟩
    · rintro (h | h) <;> simp [h, GroupState.inMove] at hin
    · intro h; simp [h, GroupState.inMove] at hin
    · rw [entered.chans]
      split
      next hj => exact .inr ⟨by simp [hj], hj.trans hg.symm, rfl⟩
      next => exact .inl rfl

/-- A trip that names a FAULTED channel reaches its group, if it is in one (R11, R119). -/
theorem tripGroupOf_of_faulted (hf : (s.chan i).state = .faulted) :
    TripTaken cause i s (tripGroupOf cause i s) ∧ KeepsPart s (tripGroupOf cause i s) ∧
      FellowsStopped i s (tripGroupOf cause i s) := by
  unfold tripGroupOf
  split
  next hg => exact ⟨fun g => by simp [hg], keepsPart_of_records _ _, fun j => .inl rfl⟩
  next g hg => exact tripGroup_of_faulted hg hf

/-! ### A fault report (R10, R11) -/

variable {k : FaultKind}

theorem faultCause_eq (k : FaultKind) : faultCause k = if k = .encoder then .referenceLost else .channelFault k := by
  cases k <;> rfl

/-- Entry to FAULTED drops the lines and the start pending (R10, R33). -/
theorem chanEnterFaulted_drops : LinesOff (chanEnterFaulted now c) ∧ (chanEnterFaulted now c).startPending = none := by
  simp [LinesOff, chanEnterFaulted]

theorem chanFault_drops {c : Chan} (ho : c.state ≠ .off) (hf : c.state ≠ .faulted) :
    LinesOff (chanFault now k c) ∧ (chanFault now k c).startPending = none := by
  have entered : chanFault now k c = chanEnterFaulted now { c with faults := c.faults ||| faultBit k } := by
    cases hs : c.state <;> simp_all [chanFault]
  rw [entered]
  exact chanEnterFaulted_drops now _

/-- A QUICK stop of fellow members touches their runs alone. -/
theorem FellowsStopped.chanKept (h : FellowsStopped i s t) (j : Channel) : ChanKept (s.chan j) (t.chan j) := by
  rcases h j with e | ⟨-, -, e⟩ <;> rw [e]
  · exact .rfl' _
  · exact chanStop_kept _ _ _

theorem FellowsStopped.chan_of_faulted (h : FellowsStopped i s t) (hf : (s.chan i).state = .faulted) :
    t.chan i = s.chan i := by
  rcases h i with e | ⟨-, -, e⟩
  · exact e
  · rw [e, (chanStop_at_rest _ _ .quick).1 (.inr hf)]

theorem FellowsStopped.keepsOthers (h : FellowsStopped i s t) : KeepsOthers i s t := by
  intro j _ hg
  rcases h j with e | ⟨hne, heq, -⟩
  · exact e
  · exact absurd heq (hg.resolve_left hne)

/-- A trip taken where channel `i` alone differed, with its group kept, and no group did. -/
theorem tripTaken_setChan {c : Chan} (hc : c.group = (s.chan i).group) (h : TripTaken cause i (s.setChan i c) t) :
    TripTaken cause i s t := by
  intro g
  have hi : ((s.setChan i c).chan i).group = (s.chan i).group := by simpa using hc
  obtain ⟨moving, counted, other⟩ := hi ▸ h g
  refine ⟨fun hg hm => ?_, counted, other⟩
  obtain ⟨state, trip, update, start, deadline, noticed, fellows⟩ := moving hg hm
  refine ⟨state, trip, update, start, deadline, noticed, fun j hj hjg => ?_⟩
  have hsame : (s.setChan i c).chan j = s.chan j := by simp [hj]
  exact hsame ▸ fellows j hj (hsame ▸ hjg)

/-- A fault report on a channel that is not OFF is taken (R10, R11). -/
theorem faultTaken_faultReport (ho : (s.chan i).state ≠ .off) : FaultTaken i k s (faultReport i k s) := by
  set c := chanFault s.timebase k (s.chan i) with hc
  have kept : ChanKept (s.chan i) c := chanFault_kept _ _ _
  have hstate : c.state = .faulted := chanFault_state _ _ _ ho
  set r := (s.setChan i c).raise (.chan i .fault) with hr
  have hri : r.chan i = c := by simp [hr]
  have hrj (j : Channel) (hj : j ≠ i) : r.chan j = s.chan j := by simp [hr, hj]
  have keptr (j : Channel) : ChanKept (s.chan j) (r.chan j) := by
    by_cases hj : j = i
    · rw [hj, hri]; exact kept
    · rw [hrj j hj]; exact .rfl' _
  have partr : KeepsPart s r := keepsPart_trans (keepsPart_of_records _ _) (keepsPart_raise _)
  obtain ⟨taken, part, fellows⟩ := tripGroupOf_of_faulted (cause := faultCause k) (i := i) (s := r) (by rwa [hri])
  have hreport : faultReport i k s = (tripGroupOf (faultCause k) i r).retrip := by simp [faultReport, ho, hr, hc]
  set t := tripGroupOf (faultCause k) i r
  have hti : t.chan i = c := (fellows.chan_of_faulted (by rwa [hri])).trans hri
  have others : KeepsOthers i s t := by
    intro j hj hg
    rw [← (keptr j).group, ← (keptr i).group] at hg
    exact (fellows.keepsOthers j hj hg).trans (hrj j hj)
  rw [hreport, FaultTaken, ← faultCause_eq, State.retrip_chan, hti]
  exact ⟨hstate, chanFault_faults _ _ _ ho, fun hf => chanFault_drops _ ho hf,
    pendingBoth_of_keepsNotices (State.pendingBoth_raise _ _) part.1, tripTaken_setChan kept.group taken,
    fun j => ((keptr j).trans (fellows.chanKept j)).stored, keepsPart_trans partr (keepsPart_trans part keepsPart_retrip),
    others⟩

end Sys2Proof.Machine
end

section
/-! PROOFS. CONVERSION_COMPLETE (R67 to R75): the load items that a result writes, the checks of the envelope, what a
report of the load unit leaves, and the statement that a conversion reaches the channel of its input. -/

namespace Sys2Proof.Machine

open Sys2Proof.Safety

variable {i : Channel} {s t : State} {u v : LoadUnit}

/-! ### The load items of one channel -/

/-- `s` with the load items of channel `i` replaced. -/
def State.setLoad (s : State) (i : Channel) (u : LoadUnit) : State := s.setChan i { s.chan i with load := u }

@[simp] theorem State.setLoad_chan_self : (s.setLoad i u).chan i = { s.chan i with load := u } := by simp [State.setLoad]

@[simp] theorem State.setLoad_chan_of_ne {j : Channel} (h : j ≠ i) : (s.setLoad i u).chan j = s.chan j := by
  simp [State.setLoad, h]

/-- Of two writes of a channel's load items the later one stands. -/
@[simp] theorem State.setLoad_setLoad : (s.setLoad i u).setLoad i v = s.setLoad i v := by
  have same : ((s.setLoad i u).setLoad i v).chans = (s.setLoad i v).chans := Chans.ext_get fun j => by
    by_cases hj : j = i <;> simp [State.setLoad, State.setChan, State.chan, hj]
  exact congrArg (fun cs => { s with chans := cs }) same

/-- Channel `i` has the load items `u`; its configuration, what the other channels store, and every position, holder and
group are as they were, and nothing outside the channel and group records and the notices differs. -/
structure LoadTaken (i : Channel) (u : LoadUnit) (s t : State) : Prop where
  load : (t.chan i).load = u
  cfg : (t.chan i).cfg = (s.chan i).cfg
  channels : ∀ j, (t.chan j).position = (s.chan j).position ∧ KeepsAuthority (s.chan j) (t.chan j) ∧
    (j ≠ i → KeepsStored (s.chan j) (t.chan j))
  part : KeepsPart s t

/-- The load unit has made no report on channel `i`. -/
structure NothingReported (i : Channel) (s t : State) : Prop where
  notices : t.notices = s.notices
  groups : t.groups = s.groups
  state : (t.chan i).state = (s.chan i).state
  faults : (t.chan i).faults = (s.chan i).faults

/-- The load unit has reported `k` on channel `i` (R10, R11). -/
structure LoadReported (i : Channel) (k : FaultKind) (s t : State) : Prop where
  state : (t.chan i).state = .faulted
  faults : (t.chan i).faults = (s.chan i).faults ||| faultBit k
  pending : PendingBoth (.chan i .fault) t
  trip : TripTaken (.channelFault k) i s t

theorem loadTaken_setLoad : LoadTaken i u s (s.setLoad i u) := by
  refine ⟨by simp, by simp, fun j => ?_, keepsPart_of_records _ _⟩
  by_cases hj : j = i
  · subst hj; simp [KeepsAuthority]
  · simp [hj, KeepsAuthority, KeepsStored]

theorem nothingReported_setLoad : NothingReported i s (s.setLoad i u) := ⟨rfl, rfl, by simp, by simp⟩

/-- Load items written after others replace them. -/
theorem LoadTaken.setLoad (h : LoadTaken i u s t) : LoadTaken i v s (t.setLoad i v) := by
  refine ⟨by simp, by simpa using h.cfg, fun j => ?_, keepsPart_trans h.part (keepsPart_of_records _ _)⟩
  by_cases hj : j = i
  · obtain ⟨hpos, hauth, -⟩ := h.channels i
    subst hj
    simpa using ⟨hpos, hauth⟩
  · simpa [hj] using h.channels j

/-- A write of the load items leaves a report as it was taken. -/
theorem LoadReported.setLoad {k : FaultKind} (h : LoadReported i k s t) : LoadReported i k s (t.setLoad i v) := by
  refine ⟨by simpa using h.state, by simpa using h.faults, h.pending, fun g => ?_⟩
  obtain ⟨moving, counted, other⟩ := h.trip g
  refine ⟨fun hg hm => ?_, counted, other⟩
  obtain ⟨state, trip, update, start, deadline, noticed, fellows⟩ := moving hg hm
  refine ⟨state, trip, update, start, deadline, noticed, fun j hj hjg => ?_⟩
  rw [State.setLoad_chan_of_ne hj]
  exact fellows j hj hjg

/-- What holds from a state with the load items of channel `i` already written holds from the state before. -/
theorem LoadTaken.of_setLoad (h : LoadTaken i u (s.setLoad i v) t) : LoadTaken i u s t := by
  refine ⟨h.load, by simpa using h.cfg, fun j => ?_, keepsPart_trans (keepsPart_of_records _ _) h.part⟩
  by_cases hj : j = i
  · obtain ⟨hpos, hauth, -⟩ := h.channels i
    subst hj
    exact ⟨by simpa using hpos, by simpa [KeepsAuthority] using hauth, fun hne => absurd rfl hne⟩
  · exact State.setLoad_chan_of_ne (s := s) (u := v) hj ▸ h.channels j

theorem NothingReported.of_setLoad (h : NothingReported i (s.setLoad i v) t) : NothingReported i s t :=
  ⟨h.notices, h.groups, by simpa using h.state, by simpa using h.faults⟩

theorem LoadReported.of_setLoad {k : FaultKind} (h : LoadReported i k (s.setLoad i v) t) : LoadReported i k s t :=
  ⟨h.state, by simpa using h.faults, h.pending, tripTaken_setChan (c := { s.chan i with load := v }) rfl h.trip⟩

/-- A report leaves the load items as they are. -/
theorem loadTaken_faultReport {k : FaultKind} (ho : (s.chan i).state ≠ .off) :
    LoadTaken i (s.chan i).load s (faultReport i k s) := by
  obtain ⟨-, -, -, -, -, records, part, -⟩ := faultTaken_faultReport (k := k) ho
  obtain ⟨⟨cfg, -, -, -, -, -, -, load, -⟩, -, -⟩ := records i
  refine ⟨load, cfg, fun j => ?_, part⟩
  obtain ⟨stored, authority, position⟩ := records j
  exact ⟨position, authority, fun _ => stored⟩

theorem loadReported_faultReport {k : FaultKind} (ho : (s.chan i).state ≠ .off) (hk : k ≠ .encoder) :
    LoadReported i k s (faultReport i k s) := by
  obtain ⟨state, faults, -, pending, trip, -, -, -⟩ := faultTaken_faultReport (k := k) ho
  rw [if_neg hk] at trip
  exact ⟨state, faults, pending, trip⟩

/-- A report made once the load items are stored. -/
theorem faultReport_setLoad {k : FaultKind} (ho : (s.chan i).state ≠ .off) (hk : k ≠ .encoder) :
    LoadTaken i u s (faultReport i k (s.setLoad i u)) ∧ LoadReported i k s (faultReport i k (s.setLoad i u)) := by
  have ho' : ((s.setLoad i u).chan i).state ≠ .off := by simpa using ho
  have taken : LoadTaken i u (s.setLoad i u) (faultReport i k (s.setLoad i u)) := by
    simpa using loadTaken_faultReport (k := k) ho'
  exact ⟨taken.of_setLoad, (loadReported_faultReport ho' hk).of_setLoad⟩

/-! ### A reading taken into the load items (R69 to R71, R73) -/

variable {raw : Nat} {enable : EightSet}

theorem isSensorReading_toNat_iff (raw : BitVec 12) : isSensorReading raw.toNat = true ↔ raw = 0 ∨ raw = 4095 := by
  simp [isSensorReading, ← BitVec.toNat_inj]

/-- A sensor reading sets both counters to 0 and leaves the ring (R70). -/
theorem takeReading_of_sensor (h : isSensorReading raw = true) :
    takeReading enable raw u =
      { u with
        raw := some raw, overCount := 0, underCount := 0, status := (takeReading enable raw u).status } := by
  simp [takeReading, h]

/-- A good reading joins the ring and makes the filtered load (R71, R73). -/
theorem takeReading_of_good (h : isSensorReading raw = false) :
    takeReading enable raw u =
      { u with
        raw := some raw, ring := ringJoin u.ring (calibrate u.zero u.gain raw)
        filtered := ringMean (ringJoin u.ring (calibrate u.zero u.gain raw))
        status := (takeReading enable raw u).status } := by
  simp [takeReading, h]

/-- A ring that a load has joined is not empty. -/
theorem ringJoin_ne_nil (ring : List Nat) (load : Nat) : ringJoin ring load ≠ [] := by
  unfold ringJoin
  cases ring with
  | nil => simp
  | cons head tail => dsimp only; split <;> simp

/-- The load of R71 as a natural number. -/
theorem calibrate_eq_toNat (zeroPoint gain raw : Nat) :
    calibrate zeroPoint gain raw =
      (max 0 (min 9999 ((((raw : Int) - (zeroPoint : Int)) * (gain : Int)) / 256))).toNat := by
  rw [← calibrate_eq, Int.toNat_natCast]

/-- The load state after a reading, by the enable set and the reading (R63). -/
theorem takeReading_status_eq {k : LoadInput} (hk : u.input = some k) :
    (takeReading enable raw u).status =
      if inSet enable k = false then .unknown else if isSensorReading raw = true then .fault else .valid := by
  obtain ⟨hinput, -, -, hraw⟩ := takeReading_kept enable raw u
  rw [takeReading_status, deriveLoad, hinput, hk, hraw]
  cases hs : isSensorReading raw with
  | true => simp [hs]
  | false =>
    have hring : (takeReading enable raw u).ring.isEmpty = false := by
      rw [takeReading_of_good hs]; simpa using ringJoin_ne_nil _ _
    simp [hs, hring]

/-! ### The envelope checks (R74, R75) -/

/-- The filtered load of `c` violates the envelope maximum (R74). -/
abbrev Overloads (c : Chan) : Prop := c.envMax < c.load.filtered

/-- The filtered load of `c`, on a run DOWN, violates the envelope minimum (R75). -/
abbrev Underloads (c : Chan) : Prop := c.load.filtered < c.envMin ∧ c.state = .running ∧ c.lastDir = some .down

/-- The overload check reports (R74). -/
abbrev OverloadDue (c : Chan) : Prop := Overloads c ∧ 2 ≤ c.load.overCount ∧ hasFault c.faults .overload = false

/-- The underload check reports (R75). -/
abbrev UnderloadDue (c : Chan) : Prop := Underloads c ∧ 2 ≤ c.load.underCount ∧ hasFault c.faults .underload = false

/-- The load items after the overload check. -/
abbrev overChecked (c : Chan) : LoadUnit :=
  { c.load with overCount := if Overloads c then min 3 (c.load.overCount + 1) else 0 }

/-- The load items after the underload check. -/
abbrev underChecked (c : Chan) : LoadUnit :=
  { c.load with underCount := if Underloads c then min 3 (c.load.underCount + 1) else 0 }

/-- A check reports at the third violation and at each one after it, while the kind is not in the fault set. -/
theorem checkReports_iff (violates : Bool) (n : Nat) (k : FaultKind) (c : Chan) :
    checkReports violates (checkCount violates n) k c = true ↔
      violates = true ∧ 2 ≤ n ∧ hasFault c.faults k = false := by
  cases violates
  · simp [checkReports]
  · have third : min 3 (n + 1) = 3 ↔ 2 ≤ n := by omega
    simp [checkReports, checkCount, third]

theorem overloadCheck_eq :
    overloadCheck i s =
      if OverloadDue (s.chan i) then faultReport i .overload (s.setLoad i (overChecked (s.chan i)))
      else s.setLoad i (overChecked (s.chan i)) := by
  simp only [overloadCheck, checkReports_iff, decide_eq_true_eq]
  simp only [checkCount, decide_eq_true_eq]
  rfl

theorem underloadCheck_eq :
    underloadCheck i s =
      if UnderloadDue (s.chan i) then faultReport i .underload (s.setLoad i (underChecked (s.chan i)))
      else s.setLoad i (underChecked (s.chan i)) := by
  simp only [underloadCheck, checkReports_iff, Bool.and_eq_true, decide_eq_true_eq, and_assoc]
  simp only [checkCount, Bool.and_eq_true, decide_eq_true_eq, and_assoc]
  rfl

/-! ### A result at its channel (R69, R70) -/

theorem takeResult_of_off (ho : (s.chan i).state = .off) :
    takeResult i raw s = s.setLoad i (takeReading s.settings.enable raw (s.chan i).load) := by
  simp [takeResult, State.setLoad, ho]

/-- A sensor reading on a channel that is not OFF is reported as LOADCELL, unless the kind is in the fault set (R70). -/
theorem takeResult_of_sensor (ho : (s.chan i).state ≠ .off) (hr : isSensorReading raw = true) :
    takeResult i raw s =
      if hasFault (s.chan i).faults .loadcell = true then
        s.setLoad i (takeReading s.settings.enable raw (s.chan i).load)
      else faultReport i .loadcell (s.setLoad i (takeReading s.settings.enable raw (s.chan i).load)) := by
  simp [takeResult, State.setLoad, ho, hr]

/-- What the two checks of the record `c` of channel `i` leave in `t`: the overload counter, the underload counter where
the overload check did not report, and the report, if one is due. -/
structure Checked (i : Channel) (c : Chan) (s t : State) : Prop where
  overCount : (t.chan i).load.overCount = if Overloads c then min 3 (c.load.overCount + 1) else 0
  underCount : ¬OverloadDue c →
    (t.chan i).load.underCount = if Underloads c then min 3 (c.load.underCount + 1) else 0
  overload : OverloadDue c → LoadReported i .overload s t
  underload : ¬OverloadDue c → UnderloadDue c → LoadReported i .underload s t
  calm : ¬OverloadDue c → ¬UnderloadDue c → NothingReported i s t

theorem Checked.of_setLoad {c : Chan} (h : Checked i c (s.setLoad i v) t) : Checked i c s t :=
  ⟨h.overCount, h.underCount, fun ho => (h.overload ho).of_setLoad, fun ho hu => (h.underload ho hu).of_setLoad,
    fun ho hu => (h.calm ho hu).of_setLoad⟩

/-- The two checks of channel `i` from `s` write its counters and report what is due. -/
abbrev ChecksMade (i : Channel) (s t : State) : Prop :=
  Checked i (s.chan i) s t ∧ ∃ a b, LoadTaken i { (s.chan i).load with overCount := a, underCount := b } s t

/-- Where the overload check reports, the channel is not RUNNING after it and the underload check finds no violation. -/
theorem checks_of_overload (ho : (s.chan i).state ≠ .off) (hover : OverloadDue (s.chan i)) :
    ChecksMade i s (underloadCheck i (overloadCheck i s)) := by
  obtain ⟨taken, reported⟩ := faultReport_setLoad (k := .overload) (u := overChecked (s.chan i)) ho (by decide)
  set t := faultReport i .overload (s.setLoad i (overChecked (s.chan i)))
  have calm : ¬Underloads (t.chan i) := by simp [Underloads, reported.state]
  have checks : underloadCheck i (overloadCheck i s) = t.setLoad i { overChecked (s.chan i) with underCount := 0 } := by
    rw [overloadCheck_eq, if_pos hover, underloadCheck_eq, if_neg fun h => calm h.1, underChecked, if_neg calm,
      taken.load]
  rw [checks]
  exact ⟨⟨by simp, fun h => absurd hover h, fun _ => reported.setLoad, fun h => absurd hover h,
    fun h => absurd hover h⟩, _, _, taken.setLoad⟩

/-- Where the overload check does not report, the underload check follows on the same filtered load. -/
theorem checks_of_no_overload (ho : (s.chan i).state ≠ .off) (hover : ¬OverloadDue (s.chan i)) :
    ChecksMade i s (underloadCheck i (overloadCheck i s)) := by
  set u := { overChecked (s.chan i) with underCount := (underChecked (s.chan i)).underCount } with hu
  have checks : underloadCheck i (overloadCheck i s) =
      if UnderloadDue (s.chan i) then faultReport i .underload (s.setLoad i u) else s.setLoad i u := by
    rw [overloadCheck_eq, if_neg hover, underloadCheck_eq]
    simp only [State.setLoad_chan_self, State.setLoad_setLoad, hu]
  rw [checks]
  split
  next hunder =>
    obtain ⟨taken, reported⟩ := faultReport_setLoad (k := .underload) (u := u) ho (by decide)
    exact ⟨⟨by rw [taken.load], fun _ => by rw [taken.load], fun h => absurd h hover, fun _ _ => reported,
      fun _ h => absurd hunder h⟩, _, _, taken⟩
  next hunder =>
    exact ⟨⟨by simp [hu], fun _ => by simp [hu], fun h => absurd h hover, fun _ h => absurd h hunder,
      fun _ _ => nothingReported_setLoad⟩, _, _, loadTaken_setLoad⟩

/-- A good reading on a channel that is not OFF is checked on the new filtered load (R69). -/
theorem takeResult_checks (ho : (s.chan i).state ≠ .off) (hr : isSensorReading raw = false) :
    ChecksMade i (s.setLoad i (takeReading s.settings.enable raw (s.chan i).load)) (takeResult i raw s) := by
  have checks : takeResult i raw s =
      underloadCheck i (overloadCheck i (s.setLoad i (takeReading s.settings.enable raw (s.chan i).load))) := by
    simp [takeResult, State.setLoad, ho, hr]
  rw [checks]
  set r := s.setLoad i (takeReading s.settings.enable raw (s.chan i).load) with hset
  have hor : (r.chan i).state ≠ .off := by simpa [hset] using ho
  by_cases hover : OverloadDue (r.chan i)
  · exact checks_of_overload hor hover
  · exact checks_of_no_overload hor hover

/-- A result changes the load items of its channel by the reading and the checks, whatever is reported (R69). -/
theorem takeResult_taken (raw : Nat) (i : Channel) (s : State) :
    ∃ a b, LoadTaken i { takeReading s.settings.enable raw (s.chan i).load with overCount := a, underCount := b } s
      (takeResult i raw s) := by
  by_cases ho : (s.chan i).state = .off
  · rw [takeResult_of_off ho]
    exact ⟨_, _, loadTaken_setLoad⟩
  · cases hr : isSensorReading raw with
    | true =>
      rw [takeResult_of_sensor ho hr]
      split
      next => exact ⟨_, _, loadTaken_setLoad⟩
      next => exact ⟨_, _, (faultReport_setLoad ho (by decide)).1⟩
    | false =>
      obtain ⟨-, a, b, taken⟩ := takeResult_checks ho hr
      exact ⟨a, b, by simpa using taken.of_setLoad⟩

/-- A sensor reading leaves the ring and the filtered load and sets both counters to 0 (R70). -/
theorem takeResult_sensor_items (hr : isSensorReading raw = true) :
    let u := ((takeResult i raw s).chan i).load
    u.ring = (s.chan i).load.ring ∧ u.filtered = (s.chan i).load.filtered ∧ u.overCount = 0 ∧ u.underCount = 0 := by
  have load : ((takeResult i raw s).chan i).load = takeReading s.settings.enable raw (s.chan i).load := by
    by_cases ho : (s.chan i).state = .off
    · rw [takeResult_of_off ho]
      simp
    · rw [takeResult_of_sensor ho hr]
      split
      next => simp
      next => exact (faultReport_setLoad ho (by decide)).1.load
  rw [load, takeReading_of_sensor hr]
  exact ⟨rfl, rfl, rfl, rfl⟩

/-- The load of a good reading joins the ring, and the filtered load is the ring's floored mean (R71, R73). -/
theorem takeResult_good_items (hr : isSensorReading raw = false) (hlen : (s.chan i).load.ring.length ≤ 4) :
    let u := ((takeResult i raw s).chan i).load
    u.ring = (if (s.chan i).load.ring.length < 4 then (s.chan i).load.ring else (s.chan i).load.ring.drop 1) ++
        [(max 0 (min 9999
          ((((raw : Int) - ((s.chan i).load.zero : Int)) * ((s.chan i).load.gain : Int)) / 256))).toNat] ∧
      u.filtered = u.ring.sum / u.ring.length := by
  obtain ⟨a, b, taken⟩ := takeResult_taken raw i s
  rw [taken.load, takeReading_of_good hr, ← ringJoin_eq _ _ hlen, ← calibrate_eq_toNat]
  exact ⟨rfl, rfl⟩

/-- The checks read the counters as they were and the filtered load that the reading made (R74, R75). -/
theorem checked_takeResult (ho : (s.chan i).state ≠ .off) (hr : isSensorReading raw = false) :
    Checked i
      { s.chan i with load := { (s.chan i).load with filtered := ((takeResult i raw s).chan i).load.filtered } } s
      (takeResult i raw s) := by
  obtain ⟨a, b, taken⟩ := takeResult_taken raw i s
  obtain ⟨checked, -⟩ := takeResult_checks ho hr
  have fromReading := checked.of_setLoad
  rw [State.setLoad_chan_self] at fromReading
  rw [taken.load]
  rw [takeReading_of_good hr] at fromReading ⊢
  exact ⟨fromReading.overCount, fromReading.underCount, fromReading.overload, fromReading.underload, fromReading.calm⟩

/-! ### The end of a conversion (R67, R69) -/

variable {conv : Conversion}

/-- The conversion that follows one of this input (R67). -/
abbrev nextConversion (s : State) (k : LoadInput) : Option Conversion :=
  startConversion s.timebase (nextInput s.settings.enable k)

/-- An unmarked result of an assigned input is taken, and the scanner goes on. -/
theorem exec_conversionComplete_of_assigned (raw : BitVec 12) (hc : s.scanner = some conv) (hd : conv.discard = false)
    (hi : assignedTo s conv.input = some i) :
    exec (.conversionComplete raw) s =
      .next { takeResult i raw.toNat s with scanner := nextConversion s conv.input } := by
  obtain ⟨a, b, taken⟩ := takeResult_taken raw.toNat i s
  obtain ⟨-, -, -, -, -, settings, -, -, timebase, -⟩ := taken.part
  show Host.Outcome.next (conversionDone raw.toNat s) = _
  simp [conversionDone, hc, hd, hi, settings, timebase]

/-- A marked result, and one of an input that no channel has, is dropped, and the scanner goes on (R68, R69). -/
theorem exec_conversionComplete_of_dropped (raw : BitVec 12) (hc : s.scanner = some conv)
    (hd : conv.discard = true ∨ ∀ j : Channel, (s.chan j).load.input ≠ some conv.input) :
    exec (.conversionComplete raw) s = .next { s with scanner := nextConversion s conv.input } := by
  show Host.Outcome.next (conversionDone raw.toNat s) = _
  rcases hd with hd | hd
  · simp [conversionDone, hc, hd]
  · have unassigned : assignedTo s conv.input = none := by
      simpa [assignedTo] using hd
    simp [conversionDone, hc, unassigned]

theorem isSensorReading_toNat_eq_false {raw : BitVec 12} (h0 : raw ≠ 0) (h1 : raw ≠ 4095) :
    isSensorReading raw.toNat = false :=
  Bool.eq_false_iff.mpr fun h => ((isSensorReading_toNat_iff raw).mp h).elim h0 h1

/-- Settles O15: the load items of R69 to R73 for every result, then what is reported on a channel that is OFF, of a sensor
reading and of a good one. -/
theorem conversionReachesItsChannel : Obligations.ConversionReachesItsChannel := by
  intro raw i conv s hconv
  refine ⟨fun hmark hinput hunique => ?taken, fun hdrop => ?dropped⟩
  case dropped => exact ⟨_, exec_conversionComplete_of_dropped raw hconv hdrop, rfl, rfl⟩
  case taken =>
    have hexec := exec_conversionComplete_of_assigned raw hconv hmark (assignedTo_eq s _ i hinput hunique)
    obtain ⟨a, b, taken⟩ := takeResult_taken raw.toNat i s
    set reading := takeReading s.settings.enable raw.toNat (s.chan i).load with hreading
    set r := takeResult i raw.toNat s with hr
    obtain ⟨input, zero, gain, latest⟩ := takeReading_kept s.settings.enable raw.toNat (s.chan i).load
    have load : (r.chan i).load = { reading with overCount := a, underCount := b } := taken.load
    have status : (r.chan i).load.status = _ := (congrArg LoadUnit.status load).trans (takeReading_status_eq hinput)
    simp only [isSensorReading_toNat_iff] at status
    have part : KeepsPart s { r with scanner := s.scanner } := by
      obtain ⟨notices, supply, -, rest⟩ := taken.part
      exact ⟨notices, supply, rfl, rest⟩
    refine ⟨_, hexec, (congrArg LoadUnit.raw load).trans latest, fun hs => ?sensorItems, fun h0 h1 hlen => ?goodItems,
      status, fun ho => ?off, fun hs ho => ?sensor, fun h0 h1 ho => ?good, (congrArg LoadUnit.input load).trans input,
      (congrArg LoadUnit.zero load).trans zero, (congrArg LoadUnit.gain load).trans gain, taken.cfg, taken.channels, part,
      rfl⟩
    case sensorItems => exact takeResult_sensor_items ((isSensorReading_toNat_iff raw).mpr hs)
    case goodItems => exact takeResult_good_items (isSensorReading_toNat_eq_false h0 h1) hlen
    case off =>
      have calm : NothingReported i s r := by rw [hr, takeResult_of_off ho]; exact nothingReported_setLoad
      exact ⟨calm.notices, calm.state.trans ho, calm.faults⟩
    case sensor =>
      have result := takeResult_of_sensor ho ((isSensorReading_toNat_iff raw).mpr hs)
      refine ⟨fun hnew => ?_, fun hold => ?_⟩
      · rw [if_neg (by simp [hnew])] at result
        have reported : LoadReported i .loadcell s r := by
          rw [hr, result]; exact (faultReport_setLoad ho (by decide)).2
        exact ⟨reported.state, reported.faults, reported.pending, reported.trip⟩
      · rw [if_pos hold] at result
        have calm : NothingReported i s r := by rw [hr, result]; exact nothingReported_setLoad
        exact ⟨calm.notices, calm.groups, calm.state, calm.faults⟩
    case good =>
      intro above below aboveDue belowDue
      have checked := checked_takeResult ho (isSensorReading_toNat_eq_false h0 h1)
      refine ⟨checked.overCount, checked.underCount, fun h => ?_, fun hn h => ?_, fun hn hb => ?_⟩
      · have reported := checked.overload h
        exact ⟨reported.state, reported.faults, reported.pending, reported.trip⟩
      · have reported := checked.underload hn h
        exact ⟨reported.state, reported.faults, reported.pending, reported.trip⟩
      · have calm := checked.calm hn hb
        exact ⟨calm.notices, calm.groups, calm.state, calm.faults⟩

end Sys2Proof.Machine
end

section
/-! PROOFS. The requests of the selection arbiter (R81, R82, R87, R88): what a request on a channel set tests, what SELECT,
RELEASE, FORCE_RELEASE and TAKE_GROUP do where they are refused and where they are taken, and their statements. -/

namespace Sys2Proof.Machine

open Sys2Proof.Safety

variable {c : Console} {code b : Byte} {s : State}

/-! ### A payload of one byte (R171, R184) -/

/-- The byte of a channel set reads as that set (R184). -/
@[simp] theorem setAt_singleton (b : Byte) : setAt [b] 0 = b := by simp [setAt, byteAt]

theorem groupAt_ofNat (g : ConsoleGroup) : groupAt [BitVec.ofNat 8 g.val] 0 = some g := by
  have hb : byteAt [BitVec.ofNat 8 g.val] 0 = g.val := by simp [byteAt]; omega
  simp [groupAt, hb]

theorem groupAt_of_out_of_range (h : 4 ≤ b.toNat) : groupAt [b] 0 = none := by simp [groupAt, byteAt, h]

/-- A request frame with the one byte that its code requires is answered as the request replies (R170, R171, R173). -/
theorem byteFrame_eq (h : Ready c [b] s) (f : State → Taken) :
    addressedFrame c code [b] (withLength 1 [b] f) s = replied c code (f (refreshLink c s)) := by
  rw [addressedFrame_ready s c code [b] _ h, takeAddressed_eq, withLength_of_eq _ _ (by rfl)]
  rfl

/-- A request frame with the byte of a channel set is answered as the request on that set replies (R170, R171, R173). -/
theorem setFrame_eq (h : Ready c [b] s) (f : EightSet → State → Taken) :
    addressedFrame c code [b] (withLength 1 [b] (f (setAt [b] 0))) s = replied c code (f b (refreshLink c s)) := by
  rw [byteFrame_eq h, setAt_singleton]

theorem exec_select (h : Ready c [b] s) :
    exec (.select c [b]) s = .next (replied c 0x10 (selectChannels c b (refreshLink c s))) :=
  congrArg Host.Outcome.next (setFrame_eq h (selectChannels c))

theorem exec_release (h : Ready c [b] s) :
    exec (.release c [b]) s = .next (replied c 0x11 (releaseChannels c b (refreshLink c s))) :=
  congrArg Host.Outcome.next (setFrame_eq h (releaseChannels c))

theorem exec_forceRelease (h : Ready c [b] s) :
    exec (.forceRelease c [b]) s = .next (replied c 0x12 (forceChannels c b (refreshLink c s))) :=
  congrArg Host.Outcome.next (setFrame_eq h (forceChannels c))

theorem exec_takeGroup (h : Ready c [b] s) :
    exec (.takeGroup c [b]) s = .next (replied c 0x13 (withField (groupAt [b] 0) (takeGroup c) (refreshLink c s))) :=
  congrArg Host.Outcome.next (byteFrame_eq h _)

/-! ### The channels of a set (R81, R82, R87) -/

variable {set : EightSet}

theorem allIn_iff (p : Channel → Bool) : allIn set p = true ↔ ∀ i : Channel, inSet set i = true → p i = true := by
  simp [allIn]

/-- Every channel of a set is held by the console exactly where R82's first test finds so. -/
theorem allIn_holds_iff : allIn set (holds c s) = true ↔ ∀ i : Channel, inSet set i = true → HeldBy c s i := by
  simp [allIn_iff]

theorem someGrouped_iff : someGrouped set s = true ↔ ∃ i : Channel, inSet set i = true ∧ (s.chan i).group ≠ none := by
  simp [someGrouped, Option.isSome_iff_ne_none]

/-- The link refresh leaves the holders that the requests report. -/
theorem holdersBytes_refreshLink : holdersBytes (refreshLink c s) = holdersBytes s := by simp [holdersBytes]

/-! ### SELECT (R81) -/

theorem selectChannels_of_free
    (h : ∀ i : Channel, inSet set i = true → (s.chan i).holder = .none ∨ HeldBy c s i) :
    selectChannels c set s = takenWith .ok holdersBytes (setHolders set (.console c) s) := by
  have free : (allIn set fun i => decide ((s.chan i).holder = .none) || holds c s i) = true := by
    simpa [allIn_iff] using h
  exact if_pos free

theorem selectChannels_of_held_elsewhere
    (h : ¬∀ i : Channel, inSet set i = true → (s.chan i).holder = .none ∨ HeldBy c s i) :
    selectChannels c set s = refuseWith .heldElsewhere holdersBytes s := by
  have held : ¬(allIn set fun i => decide ((s.chan i).holder = .none) || holds c s i) = true := by
    simpa [allIn_iff] using h
  exact if_neg held

/-- Settles O32: R81's one test, over every channel of the set, decides for the whole set. -/
theorem selectTakesUnheldChannels : Obligations.SelectTakesUnheldChannels := by
  intro c b s hready u t
  have hchan (i : Channel) : u.chan i = s.chan i := refreshLink_chan s c i
  have exec_eq : exec (.select c [b]) s = .next (replied c 0x10 (selectChannels c b u)) := exec_select hready
  rw [exec_eq]
  refine ⟨fun free => ?taken, fun held => ?refused⟩
  case taken =>
    rw [selectChannels_of_free (by simpa only [HeldBy, hchan] using free), replied_takenWith]
    rfl
  case refused =>
    rw [selectChannels_of_held_elsewhere (by simpa only [HeldBy, hchan] using held), replied_refuseWith,
      holdersBytes_refreshLink]
    rfl

/-! ### RELEASE (R82) -/

theorem releaseChannels_of_not_held (h : ¬∀ i : Channel, inSet set i = true → HeldBy c s i) :
    releaseChannels c set s = refuseWith .notHolder holdersBytes s := if_neg (mt allIn_holds_iff.mp h)

theorem releaseChannels_of_grouped (hh : ∀ i : Channel, inSet set i = true → HeldBy c s i)
    (hg : ∃ i : Channel, inSet set i = true ∧ (s.chan i).group ≠ none) :
    releaseChannels c set s = refuseWith .inGroup holdersBytes s :=
  (if_pos (allIn_holds_iff.mpr hh)).trans (if_pos (someGrouped_iff.mpr hg))

theorem releaseChannels_of_free (hh : ∀ i : Channel, inSet set i = true → HeldBy c s i)
    (hg : ¬∃ i : Channel, inSet set i = true ∧ (s.chan i).group ≠ none) :
    releaseChannels c set s = takenWith .ok holdersBytes (setHolders set .none s) :=
  (if_pos (allIn_holds_iff.mpr hh)).trans (if_neg (mt someGrouped_iff.mp hg))

/-! ### FORCE_RELEASE (R87) -/

theorem forceChannels_of_not_held (h : ¬∀ i : Channel, inSet set i = true → HeldBy c.other s i) :
    forceChannels c set s = refuseWith .notHolder holdersBytes s := if_neg (mt allIn_holds_iff.mp h)

theorem forceChannels_of_active (hh : ∀ i : Channel, inSet set i = true → HeldBy c.other s i)
    (hl : (s.link c.other).state ≠ .lost) :
    forceChannels c set s = refuseWith .ownerActive holdersBytes s :=
  (if_pos (allIn_holds_iff.mpr hh)).trans (if_pos hl)

theorem forceChannels_of_grouped (hh : ∀ i : Channel, inSet set i = true → HeldBy c.other s i)
    (hl : (s.link c.other).state = .lost) (hg : ∃ i : Channel, inSet set i = true ∧ (s.chan i).group ≠ none) :
    forceChannels c set s = refuseWith .inGroup holdersBytes s := by
  rw [forceChannels, if_pos (allIn_holds_iff.mpr hh), if_neg (not_not.mpr hl), if_pos (someGrouped_iff.mpr hg)]

theorem forceChannels_of_free (hh : ∀ i : Channel, inSet set i = true → HeldBy c.other s i)
    (hl : (s.link c.other).state = .lost) (hg : ¬∃ i : Channel, inSet set i = true ∧ (s.chan i).group ≠ none)
    (hne : set ≠ 0) :
    forceChannels c set s = takenWith .ok holdersBytes ((setHolders set .none s).raise .takeover) := by
  rw [forceChannels, if_pos (allIn_holds_iff.mpr hh), if_neg (not_not.mpr hl), if_neg (mt someGrouped_iff.mp hg),
    if_neg hne]

/-- The empty set passes each test on its channels, and the request changes nothing (R87). -/
theorem forceChannels_empty (hl : (s.link c.other).state = .lost) :
    forceChannels c 0 s = takenWith .ok holdersBytes s := by
  have none_in (i : Channel) : inSet 0 i ≠ true := by simp [inSet]
  rw [forceChannels, if_pos (allIn_holds_iff.mpr fun i hi => absurd hi (none_in i)), if_neg (not_not.mpr hl),
    if_neg (mt someGrouped_iff.mp fun ⟨i, hi, _⟩ => none_in i hi), if_pos rfl]

/-- Settles O33: the tests of R82 and R87 in their order; a taken request releases the set, and FORCE_RELEASE of a set that is
not empty tells both consoles. -/
theorem releaseAndForceRelease : Obligations.ReleaseAndForceRelease := by
  intro c b s hready u t echo held heldByOther grouped
  have hchan (i : Channel) : u.chan i = s.chan i := refreshLink_chan s c i
  have hheld (d : Console) (i : Channel) : HeldBy d u i ↔ HeldBy d s i := by rw [HeldBy, hchan]
  have hh : (∀ i : Channel, inSet b i = true → HeldBy c u i) ↔ held := by simp only [hheld, held]
  have ho : (∀ i : Channel, inSet b i = true → HeldBy c.other u i) ↔ heldByOther := by simp only [hheld, heldByOther]
  have hg : (∃ i : Channel, inSet b i = true ∧ (u.chan i).group ≠ none) ↔ grouped := by simp only [hchan, grouped]
  have hlink : u.link c.other = s.link c.other := refreshLink_link_other s c
  have release : exec (.release c [b]) s = .next (replied c 0x11 (releaseChannels c b u)) := exec_release hready
  have force : exec (.forceRelease c [b]) s = .next (replied c 0x12 (forceChannels c b u)) := exec_forceRelease hready
  rw [release, force, ← hh, ← ho, ← hg, ← hlink]
  refine ⟨fun n => ?notHolder, fun h g => ?inGroup, fun h g => ?released, fun n => ?forceNotHolder,
    fun h l => ?ownerActive, fun h l g => ?forceInGroup, fun h l g ne => ?forced, fun l e => ?empty⟩
  case notHolder => rw [releaseChannels_of_not_held n]; rfl
  case inGroup => rw [releaseChannels_of_grouped h g]; rfl
  case released => rw [releaseChannels_of_free h g]; rfl
  case forceNotHolder => rw [forceChannels_of_not_held n]; rfl
  case ownerActive => rw [forceChannels_of_active h l]; rfl
  case forceInGroup => rw [forceChannels_of_grouped h l g]; rfl
  case forced => rw [forceChannels_of_free h l g ne]; rfl
  case empty => rw [e, forceChannels_empty l]; rfl

/-! ### TAKE_GROUP (R88) -/

variable {g : ConsoleGroup}

theorem takeGroup_of_not_owned (h : ¬OwnedBy c.other s g) :
    takeGroup c g s = refuseWith .notOwner (ownerEcho (.console g)) s := if_neg (mt (owns_iff s c.other g).mp h)

theorem takeGroup_of_active (h : OwnedBy c.other s g) (hl : (s.link c.other).state ≠ .lost) :
    takeGroup c g s = refuseWith .ownerActive (ownerEcho (.console g)) s :=
  (if_pos ((owns_iff s c.other g).mpr h)).trans (if_pos hl)

theorem takeGroup_of_inMove (h : OwnedBy c.other s g) (hl : (s.link c.other).state = .lost)
    (hm : (s.grp (.console g)).state.inMove = true) :
    takeGroup c g s = refuseWith .busy (ownerEcho (.console g)) s := by
  rw [takeGroup, if_pos ((owns_iff s c.other g).mpr h), if_neg (not_not.mpr hl), if_pos hm]

theorem takeGroup_of_still (h : OwnedBy c.other s g) (hl : (s.link c.other).state = .lost)
    (hm : (s.grp (.console g)).state.inMove = false) :
    takeGroup c g s = takenWith .ok (ownerEcho (.console g)) (takeOver c g s) := by
  rw [takeGroup, if_pos ((owns_iff s c.other g).mpr h), if_neg (not_not.mpr hl), if_neg (by simp [hm])]

/-- Writing the holder of a group's member set is writing it on each channel whose group field names the group (R103). -/
theorem setHolders_memberSet (k : GroupId) (h : Holder) (s : State) :
    setHolders (s.memberSet k) h s =
      { s with chans := s.chans.mapIdx fun _ ch => if ch.group = some k then { ch with holder := h } else ch } := by
  have entries : s.chans.mapIdx (fun i ch => if inSet (s.memberSet k) i then { ch with holder := h } else ch) =
      s.chans.mapIdx fun _ ch => if ch.group = some k then { ch with holder := h } else ch := by
    refine Chans.ext_get fun i => ?_
    have named : inSet (s.memberSet k) i = decide ((s.chans.get i).group = some k) := inSet_setOf _ i
    simp [named]
  rw [setHolders, entries]

/-- Settles O34: the tests of R88 in their order, a group number out of range by step 3 of R171, and the change of owner and
holders with TAKEOVER raised. -/
theorem takeGroupMovesOwnership : Obligations.TakeGroupMovesOwnership := by
  intro c g s hready u k echo t
  have hgrp : u.grp k = s.grp k := refreshLink_grp s c k
  have howned : OwnedBy c.other u g ↔ OwnedBy c.other s g := by rw [OwnedBy, hgrp]
  have hlink : u.link c.other = s.link c.other := refreshLink_link_other s c
  have exec_eq : exec (.takeGroup c [BitVec.ofNat 8 g.val]) s = .next (replied c 0x13 (takeGroup c g u)) := by
    rw [exec_takeGroup hready, groupAt_ofNat, withField_some]
  rw [exec_eq, ← howned, ← hlink, ← hgrp]
  refine ⟨fun n => ?notOwner, fun h l => ?ownerActive, fun h l m => ?busy, fun h l m => ?taken, fun b hb => ?badValue⟩
  case notOwner => rw [takeGroup_of_not_owned n]; rfl
  case ownerActive => rw [takeGroup_of_active h l]; rfl
  case busy => rw [takeGroup_of_inMove h l m]; rfl
  case taken =>
    rw [takeGroup_of_still h l m, replied_takenWith, takeOver, setHolders_memberSet]
    rfl
  case badValue =>
    rw [exec_takeGroup (ready_of_length hready (by simp)), groupAt_of_out_of_range hb, withField_none, replied_refuse]

end Sys2Proof.Machine
end

section
/-! PROOFS. HOLD (R90, R91): how a HOLD frame is taken, addressed and by broadcast, what renewing the deadlines of a list of
groups leaves, and the statement about HOLD. -/

namespace Sys2Proof.Machine

open Sys2Proof.Safety

variable {c : Console} {code b : Byte} {s : State}

/-! ### Console group sets (R184) -/

/-- The byte of a console group set with bits 4..7 clear reads as its low four bits (R184). -/
theorem groupSetAt_of_lt (h : b.toNat < 16) : groupSetAt [b] 0 = some (b.setWidth 4) := by
  simp [groupSetAt, byteAt, h]

/-- Bit `k` of a set built group by group. -/
theorem getLsbD_foldl_groupSetOf (k : Nat) (hk : k < 4) (gs : List ConsoleGroup) (m : GroupSet) :
    (gs.foldl (fun m g => m ||| BitVec.twoPow 4 g.val) m).getLsbD k =
      (m.getLsbD k || gs.any fun g => decide (g.val = k)) := by
  induction gs generalizing m with
  | nil => simp
  | cons g gs ih =>
    rw [List.foldl_cons, ih]
    simp [hk, Bool.or_assoc, eq_comm]

/-- The byte of a set of console groups names exactly the groups of the list, and has bits 4..7 clear (R184). -/
theorem getLsbD_groupSetOf_byte (gs : List ConsoleGroup) (n : Fin 8) :
    (BitVec.ofNat 8 (groupSetOf gs).toNat).getLsbD n.val =
      if h : n.val < 4 then decide ((⟨n.val, h⟩ : ConsoleGroup) ∈ gs) else false := by
  rw [BitVec.ofNat_toNat, BitVec.getLsbD_setWidth]
  split
  next h =>
    rw [groupSetOf, getLsbD_foldl_groupSetOf n.val h]
    have position (g : ConsoleGroup) : g.val = n.val ↔ g = ⟨n.val, h⟩ := by rw [Fin.ext_iff]
    simp [List.any_eq, position]
  next h => simp [BitVec.getLsbD_of_ge _ _ (Nat.not_lt.mp h)]

/-! ### HOLD frames (R169, R170, R173) -/

theorem reqHold_of_lt (hb : b.toNat < 16) : reqHold c [b] s = holdGroups c (b.setWidth 4) s := by
  rw [reqHold, withLength_of_eq _ _ (by rfl), groupSetAt_of_lt hb, withField_some]

theorem exec_hold_addressed (h : Ready c [b] s) (hb : b.toNat < 16) :
    exec (.hold c .addressed [b]) s = .next (replied c 0x35 (holdGroups c (b.setWidth 4) (refreshLink c s))) := by
  rw [← reqHold_of_lt hb]
  exact congrArg Host.Outcome.next (addressedFrame_ready s c 0x35 [b] (reqHold c [b]) h)

theorem exec_hold_broadcast (h : Ready c [b] s) (hb : b.toNat < 16) :
    exec (.hold c .broadcast [b]) s =
      .next ((holdGroups c (b.setWidth 4) (refreshLink c s)).1.setPort c .hunting) := by
  rw [← reqHold_of_lt hb]
  exact congrArg Host.Outcome.next (broadcastFrame_ready s c [b] (reqHold c [b]) h)

/-! ### The deadlines renewed (R90) -/

/-- The record of a group with its hold deadline set to the hold window from now (R90). -/
def deadlineRenewed (s : State) (r : Group) : Group :=
  { r with deadline := startMs s.timebase s.settings.holdWindow }

@[simp] theorem renewDeadline_eq (g : ConsoleGroup) :
    renewDeadline s g = s.setGrp (.console g) (deadlineRenewed s (s.grp (.console g))) := rfl

/-- Renewing the deadlines of a list of groups changes group records alone. -/
theorem foldl_renewDeadline_eq (gs : List ConsoleGroup) (s : State) :
    gs.foldl renewDeadline s = { s with groups := (gs.foldl renewDeadline s).groups } := by
  induction gs generalizing s with
  | nil => rfl
  | cons g gs ih => exact ih (renewDeadline s g)

/-- A group has its deadline renewed where it stands in the list, however often, and is as it was otherwise. -/
theorem foldl_renewDeadline_grp (gs : List ConsoleGroup) (k : GroupId) (s : State) :
    (gs.foldl renewDeadline s).grp k =
      if ∃ g ∈ gs, k = .console g then deadlineRenewed s (s.grp k) else s.grp k := by
  induction gs generalizing s with
  | nil => simp
  | cons g gs ih =>
    rw [List.foldl_cons, ih]
    by_cases hk : k = .console g
    · simp [hk, deadlineRenewed]
    · simp [hk, deadlineRenewed]

theorem foldl_renewDeadline_console (gs : List ConsoleGroup) (g : ConsoleGroup) (s : State) :
    (gs.foldl renewDeadline s).grp (.console g) =
      if g ∈ gs then deadlineRenewed s (s.grp (.console g)) else s.grp (.console g) := by
  simp [foldl_renewDeadline_grp]

theorem foldl_renewDeadline_pendant (gs : List ConsoleGroup) (s : State) :
    (gs.foldl renewDeadline s).grp .pendant = s.grp .pendant := by simp [foldl_renewDeadline_grp]

/-! ### HOLD (R91) -/

/-- The groups of the set that HOLD renews: those STARTING, MOVING or HOLDING. -/
def renewedGroups (set : GroupSet) (s : State) : List ConsoleGroup := (groupsOf set).filter (isStoppable s)

variable {set : GroupSet}

theorem mem_renewedGroups_iff (g : ConsoleGroup) :
    g ∈ renewedGroups set s ↔ (set.getLsbD g.val && (s.grp (.console g)).state.stoppable) = true := by
  simp [renewedGroups, isStoppable]

theorem all_owns_iff :
    (groupsOf set).all (owns c s) = true ↔ ∀ g : ConsoleGroup, set.getLsbD g.val = true → OwnedBy c s g := by
  simp

theorem holdGroups_of_not_owned (h : ¬∀ g : ConsoleGroup, set.getLsbD g.val = true → OwnedBy c s g) :
    holdGroups c set s = refuseWith .notOwner (fun _ => [0]) s := if_neg (mt all_owns_iff.mp h)

theorem holdGroups_of_none (h : ∀ g : ConsoleGroup, set.getLsbD g.val = true → OwnedBy c s g)
    (hn : renewedGroups set s = []) : holdGroups c set s = refuseWith .busy (fun _ => [0]) s :=
  (if_pos (all_owns_iff.mpr h)).trans (if_pos (List.isEmpty_iff.mpr hn))

theorem holdGroups_of_some (h : ∀ g : ConsoleGroup, set.getLsbD g.val = true → OwnedBy c s g)
    (hn : renewedGroups set s ≠ []) :
    holdGroups c set s = takenWith .ok (fun _ => [BitVec.ofNat 8 (groupSetOf (renewedGroups set s)).toNat])
      ((renewedGroups set s).foldl renewDeadline s) :=
  (if_pos (all_owns_iff.mpr h)).trans (if_neg (mt List.isEmpty_iff.mp hn))

/-- Settles O45: R91's two tests in their order, and otherwise the renewal of each group of the set that is STARTING, MOVING
or HOLDING; a broadcast HOLD does the same and sends nothing. -/
theorem holdRenewsDeadlines : Obligations.HoldRenewsDeadlines := by
  intro c b s hready hb u owned renewed
  let set : GroupSet := b.setWidth 4
  let gs : List ConsoleGroup := renewedGroups set u
  have hgrp (k : GroupId) : u.grp k = s.grp k := refreshLink_grp s c k
  have hset (g : ConsoleGroup) : set.getLsbD g.val = b.getLsbD g.val := by simp [set]
  have howned : (∀ g : ConsoleGroup, set.getLsbD g.val = true → OwnedBy c u g) ↔ owned := by
    simp only [OwnedBy, hset, hgrp, owned]
  have hgs (g : ConsoleGroup) : g ∈ gs ↔ renewed g = true := by
    simp only [gs, mem_renewedGroups_iff, hset, hgrp, renewed]
  have addressed : exec (.hold c .addressed [b]) s = .next (replied c 0x35 (holdGroups c set u)) :=
    exec_hold_addressed hready hb
  have broadcast : exec (.hold c .broadcast [b]) s = .next ((holdGroups c set u).1.setPort c .hunting) :=
    exec_hold_broadcast hready hb
  rw [addressed, broadcast, ← howned]
  refine ⟨fun ho => ?notOwner, fun ho hn => ?busy, fun ho hn => ?renewed⟩
  case notOwner => rw [holdGroups_of_not_owned ho]; exact ⟨rfl, rfl⟩
  case busy =>
    have none_renewed : gs = [] := List.eq_nil_iff_forall_not_mem.mpr fun g hg =>
      Bool.false_ne_true ((hn g).symm.trans ((hgs g).mp hg))
    rw [holdGroups_of_none ho none_renewed]
    exact ⟨rfl, rfl⟩
  case renewed =>
    obtain ⟨g, hg⟩ := hn
    have some_renewed : gs ≠ [] := List.ne_nil_of_mem ((hgs g).mpr hg)
    have frame : gs.foldl renewDeadline u = { u with groups := (gs.foldl renewDeadline u).groups } :=
      foldl_renewDeadline_eq gs u
    rw [holdGroups_of_some ho some_renewed, replied_takenWith]
    refine ⟨_, _, rfl, rfl, fun n => ?bits, fun g => ?deadline, ?pendant, ?chans, ?notices, ?part⟩
    case bits =>
      rw [getLsbD_groupSetOf_byte]
      simp only [hgs, Bool.decide_eq_true, gs]
    case deadline =>
      rw [foldl_renewDeadline_console, deadlineRenewed, refreshLink_timebase, refreshLink_settings, hgrp]
      exact if_congr (hgs g) rfl rfl
    case pendant => rw [foldl_renewDeadline_pendant, hgrp]
    case chans => rw [frame]; exact refreshLink_chans
    case notices => rw [frame]
    case part => rw [frame]; exact keepsPart_of_records u.chans _

end Sys2Proof.Machine
end

section
/-! PROOFS. CLEAR_QUEUE and RESET_GROUP (R108, R121): how a request frame that names one console group is answered, what each
request does where it is refused and where it is taken, and their statements. -/

namespace Sys2Proof.Machine

open Sys2Proof.Safety

variable {c : Console} {code : Byte} {g : ConsoleGroup} {r : Group} {s : State}

/-! ### Frames that name one console group (R170, R171, R173) -/

/-- A request frame whose one byte is the number of group `g` is answered as the request on `g` replies. -/
theorem groupFrame_eq (h : Ready c [] s) (g : ConsoleGroup) (f : ConsoleGroup → State → Taken) :
    let p : List Byte := [BitVec.ofNat 8 g.val]
    addressedFrame c code p (withLength 1 p (withField (groupAt p 0) f)) s = replied c code (f g (refreshLink c s)) := by
  intro p
  rw [byteFrame_eq (ready_of_length h (by simp)), groupAt_ofNat, withField_some]

theorem exec_clearQueue (h : Ready c [] s) (g : ConsoleGroup) :
    exec (.clearQueue c [BitVec.ofNat 8 g.val]) s = .next (replied c 0x33 (clearQueue c g (refreshLink c s))) :=
  congrArg Host.Outcome.next (groupFrame_eq h g (clearQueue c))

theorem exec_resetGroup (h : Ready c [] s) (g : ConsoleGroup) :
    exec (.resetGroup c [BitVec.ofNat 8 g.val]) s = .next (replied c 0x38 (resetGroup c g (refreshLink c s))) :=
  congrArg Host.Outcome.next (groupFrame_eq h g (resetGroup c))

/-! ### CLEAR_QUEUE (R108) -/

/-- In a move the head cue stays (R108). -/
theorem clearedQueue_of_inMove (h : r.state = .starting ∨ r.state = .moving ∨ r.state = .holding ∨ r.state = .stopping) :
    clearedQueue r = { r with queue := r.queue.take 1 } := by
  rcases h with h | h | h | h <;> simp [clearedQueue, h]

/-- In IDLE and TRIPPED every cue goes and the state stays (R108). -/
theorem clearedQueue_of_idle_or_tripped (h : r.state = .idle ∨ r.state = .tripped) :
    clearedQueue r = { r with queue := [] } := by
  rcases h with h | h <;> simp [clearedQueue, h]

/-- In PAUSED every cue goes and the group enters IDLE (R108). -/
theorem clearedQueue_of_paused (h : r.state = .paused) : clearedQueue r = { r with queue := [], state := .idle } := by
  simp [clearedQueue, h]

theorem clearQueue_of_not_owned (h : ¬OwnedBy c s g) : clearQueue c g s = refuseWith .notOwner (queueCount g) s :=
  if_neg (mt (owns_iff s c g).mp h)

/-- The answer to the owner: the queue cleared by the group's state, and the number of cues left (R108). -/
theorem replied_clearQueue_of_owned (h : OwnedBy c s g) (hr : clearedQueue (s.grp (.console g)) = r) :
    replied c code (clearQueue c g s) = answered c code .ok (u8 r.queue.length) (s.setGrp (.console g) r) := by
  have taken : clearQueue c g s = takenWith .ok (queueCount g) (s.setGrp (.console g) r) := by
    rw [← hr]
    exact if_pos ((owns_iff s c g).mpr h)
  rw [taken, replied_takenWith, queueCount, State.grp_setGrp, if_pos rfl]

/-- Settles O43: R108's test of the owner, and the rows of its table by the group's state. -/
theorem clearQueueByState : Obligations.ClearQueueByState := by
  intro c g s hready u k r
  have hgrp : u.grp k = r := refreshLink_grp s c k
  have howned : OwnedBy c u g ↔ OwnedBy c s g := by rw [OwnedBy, hgrp]
  rw [exec_clearQueue hready g, ← howned]
  refine ⟨fun n => ?notOwner, fun h st => ?inMove, fun h st => ?emptied, fun h st => ?paused⟩
  case notOwner => rw [clearQueue_of_not_owned n, replied_refuseWith, queueCount, hgrp]
  case inMove => rw [replied_clearQueue_of_owned h (by rw [hgrp, clearedQueue_of_inMove st])]
  case emptied =>
    rw [replied_clearQueue_of_owned h (by rw [hgrp, clearedQueue_of_idle_or_tripped st])]
    rfl
  case paused =>
    rw [replied_clearQueue_of_owned h (by rw [hgrp, clearedQueue_of_paused st])]
    rfl

/-! ### RESET_GROUP (R121) -/

/-- A cause of a trip stands: the E-stop state is not CLEAR or a member is FAULTED (the second test of R121). -/
abbrev ResetCause (k : GroupId) (s : State) : Prop :=
  s.stops.estop ≠ .clear ∨ ∃ i : Channel, (s.chan i).group = some k ∧ (s.chan i).state = .faulted

/-- A member is in motion (the third test of R121). -/
abbrev MemberInMotion (k : GroupId) (s : State) : Prop :=
  ∃ i : Channel, (s.chan i).group = some k ∧ (s.chan i).state.inMotion = true

/-- A test on the records of a group's members finds one exactly where a channel of the group passes it (R103). -/
theorem any_members_iff (k : GroupId) (p : Chan → Bool) :
    ((s.members k).map s.chan).any p = true ↔ ∃ i : Channel, (s.chan i).group = some k ∧ p (s.chan i) = true := by
  simp

theorem resetGroupCheck_of_not_tripped (h : (s.grp (.console g)).state ≠ .tripped) :
    resetGroupCheck g s = some .busy := by
  simp [resetGroupCheck, firstFailure, h]

/-- The tests of R121 on a TRIPPED group: the causes first, then motion. -/
theorem resetGroupCheck_of_tripped (h : (s.grp (.console g)).state = .tripped) [Decidable (ResetCause (.console g) s)]
    [Decidable (MemberInMotion (.console g) s)] :
    resetGroupCheck g s =
      if ResetCause (.console g) s then some .causePresent
      else if MemberInMotion (.console g) s then some .busy else none := by
  let ms := (s.members (.console g)).map s.chan
  have cause : ((ms.any fun c => decide (c.state = .faulted)) || decide (s.stops.estop ≠ .clear)) =
      decide (ResetCause (.console g) s) := by
    rw [Bool.eq_iff_iff, Bool.or_eq_true, any_members_iff, decide_eq_true_iff, decide_eq_true_iff, or_comm]
    simp only [decide_eq_true_iff]
  have moving : (ms.any fun c => c.state.inMotion) = decide (MemberInMotion (.console g) s) := by
    rw [Bool.eq_iff_iff, any_members_iff, decide_eq_true_iff]
  rw [resetGroupCheck, cause, moving, h]
  by_cases hc : ResetCause (.console g) s
  · simp only [firstFailure, hc]; rfl
  · by_cases hm : MemberInMotion (.console g) s <;> simp only [firstFailure, hc, hm] <;> rfl

theorem resetGroup_of_not_owned (h : ¬OwnedBy c s g) : resetGroup c g s = refuseWith .notOwner (fun _ => []) s :=
  if_neg (mt (owns_iff s c g).mp h)

theorem resetGroup_of_refused {x : Result} (h : OwnedBy c s g) (hx : resetGroupCheck g s = some x) :
    resetGroup c g s = refuseWith x (fun _ => []) s := by
  rw [resetGroup, if_pos ((owns_iff s c g).mpr h), hx]

theorem resetGroup_of_passed (h : OwnedBy c s g) (hx : resetGroupCheck g s = none) :
    resetGroup c g s = takenWith .ok (fun _ => []) (resetGroupTaken g s) := by
  rw [resetGroup, if_pos ((owns_iff s c g).mpr h), hx]

/-- The record of a group after a taken RESET_GROUP: no trip record, PAUSED with a head cue and IDLE without (R121). -/
def groupReset (r : Group) : Group := { r with trip := none, state := if r.queue = [] then .idle else .paused }

/-- A taken RESET_GROUP writes the one group record and re-evaluates TRIPOUT (R121, R162). -/
theorem resetGroupTaken_eq :
    resetGroupTaken g s = (s.setGrp (.console g) (groupReset (s.grp (.console g)))).retrip := by
  simp [resetGroupTaken, groupReset]

/-- Settles O48: the tests of R121 in their order, and the group's return to PAUSED or IDLE with TRIPOUT re-evaluated. -/
theorem resetGroupByItsTests : Obligations.ResetGroupByItsTests := by
  classical
  intro c g s hready u k p cause moving
  have hgrp : u.grp k = s.grp k := refreshLink_grp s c k
  have howned : OwnedBy c u g ↔ OwnedBy c s g := by rw [OwnedBy, hgrp]
  have hcause : ResetCause k u ↔ cause := by simp only [ResetCause, u, cause, refreshLink_stops, refreshLink_chan]
  have hmoving : MemberInMotion k u ↔ moving := by simp only [MemberInMotion, u, moving, refreshLink_chan]
  have check (st : (u.grp k).state = .tripped) := resetGroupCheck_of_tripped st
  have exec_eq : exec (.resetGroup c p) s = .next (replied c 0x38 (resetGroup c g u)) := exec_resetGroup hready g
  rw [exec_eq, ← howned, ← hcause, ← hmoving, ← hgrp]
  refine ⟨fun n => ?notOwner, fun h st => ?notTripped, fun h st hc => ?causePresent, fun h st hc hm => ?busy,
    fun h st hc hm => ?taken⟩
  case notOwner => rw [resetGroup_of_not_owned n, replied_refuseWith]
  case notTripped => rw [resetGroup_of_refused h (resetGroupCheck_of_not_tripped st), replied_refuseWith]
  case causePresent => rw [resetGroup_of_refused h (by rw [check st, if_pos hc]), replied_refuseWith]
  case busy => rw [resetGroup_of_refused h (by rw [check st, if_neg hc, if_pos hm]), replied_refuseWith]
  case taken =>
    let v : State := u.setGrp k (groupReset (u.grp k))
    have own : v.grp k = groupReset (u.grp k) := by rw [State.grp_setGrp, if_pos rfl]
    have others (h : GroupId) (hne : h ≠ k) : v.grp h = s.grp h := by
      rw [State.grp_setGrp, if_neg hne, refreshLink_grp]
    have part : KeepsPart u v.retrip := keepsPart_trans (keepsPart_of_records u.chans _) keepsPart_retrip
    rw [resetGroup_of_passed h (by rw [check st, if_neg hc, if_neg hm]), replied_takenWith, resetGroupTaken_eq]
    exact ⟨v.retrip, rfl, own, others, refreshLink_chans, rfl, v.tripoutLaw_retrip, part⟩

end Sys2Proof.Machine
end

section
/-! PROOFS. RESET_ESTOP (R153): how a request frame without a payload is answered, how a broadcast that carries neither GO, HOLD
nor STOP is passed over, what RESET_ESTOP does in each E-stop state, and its statement. -/

namespace Sys2Proof.Machine

open Sys2Proof.Safety

variable {c : Console} {code : Byte} {p : List Byte} {s : State}

/-! ### Frames without a payload, and broadcasts that are ignored (R169, R170, R173) -/

/-- A request frame with the empty payload that its code requires is answered as the request replies. -/
theorem emptyFrame_eq (h : Ready c [] s) (f : State → Taken) :
    addressedFrame c code [] (withLength 0 [] f) s = replied c code (f (refreshLink c s)) := by
  rw [addressedFrame_ready s c code [] _ h, takeAddressed_eq, withLength_of_eq _ _ (by rfl)]
  rfl

theorem exec_resetEstop (h : Ready c [] s) :
    exec (.resetEstop c []) s = .next (replied c 0x41 (resetEstop (refreshLink c s))) :=
  congrArg Host.Outcome.next (emptyFrame_eq h resetEstop)

/-- A code that is not GO, HOLD or STOP makes no request of a broadcast frame (R169). -/
theorem broadcastOf_of_not_broadcastCode (h : broadcastCodes.contains code = false) : broadcastOf c code p = ignored := by
  have hcode : code ≠ 0x34 ∧ code ≠ 0x35 ∧ code ≠ 0x36 := by simpa [broadcastCodes] using h
  obtain ⟨go, hold, stop⟩ := hcode
  unfold broadcastOf
  split
  next e => exact absurd (BitVec.eq_of_toNat_eq e) go
  next e => exact absurd (BitVec.eq_of_toNat_eq e) hold
  next e => exact absurd (BitVec.eq_of_toNat_eq e) stop
  next => rfl

/-- An ignored broadcast refreshes the link and leaves the receiver hunting, with no response (R169). -/
theorem exec_ignoredBroadcast (h : Ready c p s) (hcode : broadcastCodes.contains code = false) :
    exec (.ignoredBroadcast c code p) s = .next ((refreshLink c s).setPort c .hunting) := by
  have taken : broadcastFrame c p (broadcastOf c code p) s = (refreshLink c s).setPort c .hunting := by
    rw [broadcastFrame_ready s c p _ h, broadcastOf_of_not_broadcastCode hcode]
    rfl
  exact congrArg Host.Outcome.next taken

/-! ### RESET_ESTOP by the E-stop state (R153) -/

/-- A latched E-stop unlatched: CLEAR with the cause kept, ESTOP raised and TRIPOUT re-evaluated (R153, R162). -/
def estopUnlatched (s : State) : State := ({ s with stops := { s.stops with estop := .clear } }.raise .estop).retrip

theorem resetEstop_of_active (h : s.stops.estop = .active) : resetEstop s = refuseWith .causePresent estopEcho s := by
  rw [resetEstop, h]

theorem resetEstop_of_clear (h : s.stops.estop = .clear) : resetEstop s = takenWith .ok estopEcho s := by
  rw [resetEstop, h]

theorem resetEstop_of_latched (h : s.stops.estop = .latched) :
    resetEstop s = takenWith .ok estopEcho (estopUnlatched s) := by
  rw [resetEstop, h]
  rfl

theorem pendingBoth_estopUnlatched : PendingBoth .estop (estopUnlatched s) := State.pendingBoth_raise _ _

/-- Unlatching changes the stop unit alone, beside the pending sets and the channel and group records (R153). -/
theorem keepsPart_estopUnlatched : KeepsPart s { estopUnlatched s with stops := s.stops } :=
  ⟨State.keepsNotices_raise _ .estop, rfl, rfl, rfl, rfl, rfl, rfl, rfl, rfl, rfl, rfl, rfl⟩

/-- Settles O50: the rows of R153's table by the E-stop state, and the broadcast, which makes no request. -/
theorem resetEstopByState : Obligations.ResetEstopByState := by
  intro c s hready u cause
  have hstops : u.stops = s.stops := refreshLink_stops s c
  have hecho (v : State) (hcause : v.stops.cause = s.stops.cause) :
      estopEcho v = [BitVec.ofNat 8 (estopCode v.stops.estop), cause] := by rw [estopEcho, hcause]; rfl
  have exec_eq : exec (.resetEstop c []) s = .next (replied c 0x41 (resetEstop u)) := exec_resetEstop hready
  rw [exec_eq, ← hstops]
  refine ⟨fun h => ?active, fun h => ?clear, fun h => ?latched, ?broadcast⟩
  case active =>
    rw [resetEstop_of_active h, replied_refuseWith, hecho u (by rw [hstops]), h]
    rfl
  case clear =>
    rw [resetEstop_of_clear h, replied_takenWith, hecho u (by rw [hstops]), h]
    rfl
  case latched =>
    have kept : (estopUnlatched u).stops.cause = s.stops.cause := by rw [← hstops]; rfl
    rw [resetEstop_of_latched h, replied_takenWith, hecho _ kept]
    exact ⟨estopUnlatched u, rfl, rfl, State.tripoutLaw_retrip _, pendingBoth_estopUnlatched, refreshLink_chans,
      refreshLink_groups, keepsPart_estopUnlatched⟩
  case broadcast => exact exec_ignoredBroadcast hready (by decide)

end Sys2Proof.Machine
end

section
/-! PROOFS. SET_MASK and ACK_NOTICES (R180, R181): how a notice set stands in the seven bytes of a payload, how a request frame
that carries one is answered, and the statement about the two requests. -/

namespace Sys2Proof.Machine

open Sys2Proof.Safety

variable {c : Console} {code : Byte} {p : List Byte} {s : State}

/-! ### A set written in bytes, lowest byte first (R184) -/

@[simp] theorem length_setBytes (n m : Nat) : (setBytes n m).length = n := by
  induction n generalizing m with
  | zero => rfl
  | succ n ih => rw [setBytes, List.length_cons, ih]

theorem getD_setBytes (n m k : Nat) (h : k < n) : (setBytes n m).getD k 0 = BitVec.ofNat 8 (m / 256 ^ k) := by
  induction n generalizing m k with
  | zero => omega
  | succ n ih =>
    cases k with
    | zero => simp [setBytes]
    | succ k => rw [setBytes, List.getD_cons_succ, ih _ k (by omega), Nat.div_div_eq_div_mul, Nat.pow_succ']

/-- The bytes written for a set are the only ones that stand for it. -/
theorem eq_setBytes (m : Nat) (h : ∀ k : Fin p.length, p.getD k.val 0 = BitVec.ofNat 8 (m / 256 ^ k.val)) :
    p = setBytes p.length m := by
  refine List.ext_getElem (length_setBytes _ _).symm fun k hp hq => ?_
  rw [List.getElem_eq_getD 0, List.getElem_eq_getD 0, getD_setBytes _ _ _ hp]
  exact h ⟨k, hp⟩

/-! ### Bytes read as a set (R184) -/

theorem lowFirstAt_cons (b : Byte) (p : List Byte) (k n : Nat) : lowFirstAt (b :: p) (k + 1) n = lowFirstAt p k n := by
  induction n generalizing k with
  | zero => rfl
  | succ n ih => rw [lowFirstAt, lowFirstAt, ih]; rfl

/-- The bytes written for a number spell the part of it that they have room for. -/
theorem lowFirstAt_setBytes (n m : Nat) : lowFirstAt (setBytes n m) 0 n = m % 256 ^ n := by
  induction n generalizing m with
  | zero => simp [lowFirstAt, Nat.mod_one]
  | succ n ih =>
    have low : byteAt (setBytes (n + 1) m) 0 = m % 256 := by simp [byteAt, setBytes]
    have high : lowFirstAt (setBytes (n + 1) m) 1 n = m / 256 % 256 ^ n := by rw [setBytes, lowFirstAt_cons, ih]
    rw [lowFirstAt, low, high, Nat.pow_succ', Nat.mod_mul]

/-- A number spelled lowest byte first is at least its last byte at that byte's weight. -/
theorem le_lowFirstAt (p : List Byte) (k n : Nat) : 256 ^ n * byteAt p (k + n) ≤ lowFirstAt p k (n + 1) := by
  induction n generalizing k with
  | zero => simp [lowFirstAt]
  | succ n ih =>
    have rest := ih (k + 1)
    rw [Nat.add_right_comm k 1 n] at rest
    rw [lowFirstAt, Nat.pow_succ', Nat.mul_assoc]
    exact (Nat.mul_le_mul_left 256 rest).trans (Nat.le_add_left _ _)

/-- A notice set is read back from the seven bytes written for it. -/
theorem noticeSetAt_setBytes (m : NoticeSet) : noticeSetAt (setBytes 7 m.toNat) 0 = some m := by
  have spelled : lowFirstAt (setBytes 7 m.toNat) 0 7 = m.toNat := by
    rw [lowFirstAt_setBytes, Nat.mod_eq_of_lt (m.isLt.trans (by decide))]
  rw [noticeSetAt, spelled, if_pos m.isLt, BitVec.ofNat_toNat, BitVec.setWidth_eq]

/-- A bit above the 53 kinds, bit 5, 6 or 7 of the last byte, makes the bytes no notice set. -/
theorem noticeSetAt_of_outside (h : 32 ≤ (p.getD 6 0).toNat) : noticeSetAt p 0 = none := by
  have last : 32 ≤ byteAt p 6 := h
  have weight : 256 ^ 6 * byteAt p 6 ≤ lowFirstAt p 0 7 := le_lowFirstAt p 0 6
  rw [noticeSetAt, if_neg (by omega)]

/-! ### Frames that carry a notice set (R169, R170, R173) -/

/-- A request frame of seven bytes is answered as the request replies on the notice set in them. -/
theorem noticeFrame_eq (h : Ready c p s) (hlen : p.length = 7) (f : NoticeSet → State → Taken) :
    addressedFrame c code p (withLength 7 p (withField (noticeSetAt p 0) f)) s =
      replied c code (withField (noticeSetAt p 0) f (refreshLink c s)) := by
  rw [addressedFrame_ready s c code p _ h, takeAddressed_eq, withLength_of_eq _ _ hlen]
  rfl

theorem exec_setMask (h : Ready c p s) (hlen : p.length = 7) :
    exec (.setMask c p) s = .next (replied c 0x42 (withField (noticeSetAt p 0) (setMask c) (refreshLink c s))) :=
  congrArg Host.Outcome.next (noticeFrame_eq h hlen (setMask c))

theorem exec_ackNotices (h : Ready c p s) (hlen : p.length = 7) :
    exec (.ackNotices c p) s = .next (replied c 0x43 (withField (noticeSetAt p 0) (ackNotices c) (refreshLink c s))) :=
  congrArg Host.Outcome.next (noticeFrame_eq h hlen (ackNotices c))

/-! ### SET_MASK and ACK_NOTICES (R180, R181) -/

/-- A refresh leaves the notices of the console whose link it is (R85). -/
@[simp] theorem refreshLink_box (s : State) (c : Console) : (refreshLink c s).box c = s.box c := by
  unfold refreshLink; simp only []; split <;> cases c <;> rfl

theorem noticeBox_eq (pending mask : NoticeSet) :
    noticeBox pending mask = { pending := pending, mask := mask, atn := decide (pending &&& mask ≠ 0) } := by
  rw [noticeBox, NoticeBox.mk.injEq]
  exact ⟨rfl, rfl, Bool.eq_iff_iff.mpr ((noticeBox_atn_iff pending mask).trans decide_eq_true_iff.symm)⟩

/-- The answer to SET_MASK: the mask stored, with the requesting console's line set again (R180). -/
theorem replied_setMask (m : NoticeSet) :
    replied c code (setMask c m s) =
      answered c code .ok (setBytes 7 m.toNat) (s.setBox c (noticeBox (s.box c).pending m)) := by
  rw [setMask, replied_takenWith, State.box_setBox, if_pos rfl]
  rfl

/-- The answer to ACK_NOTICES: the kinds left pending, with the requesting console's line set again (R181). -/
theorem replied_ackNotices (m : NoticeSet) :
    replied c code (ackNotices c m s) =
      answered c code .ok (setBytes 7 ((s.box c).pending &&& ~~~m).toNat)
        (s.setBox c (noticeBox ((s.box c).pending &&& ~~~m) (s.box c).mask)) := by
  rw [ackNotices, replied_takenWith, State.box_setBox, if_pos rfl]
  rfl

/-- Settles O51: seven bytes that stand for a notice set are read as that set, and ones with a bit above the 53 kinds as none;
a broadcast makes no request. -/
theorem maskAndAcknowledge : Obligations.MaskAndAcknowledge := by
  intro c m p s hready hlen u box
  have hbox : u.box c = s.box c := refreshLink_box s c
  have fresh (pending mask : NoticeSet) : noticeBox pending mask = box pending mask := noticeBox_eq pending mask
  rw [exec_setMask hready hlen, exec_ackNotices hready hlen]
  refine ⟨fun bytes => ?taken, fun outside => ?refused, ?broadcastMask, ?broadcastAck⟩
  case taken =>
    have hp : p = setBytes 7 m.toNat := hlen ▸ eq_setBytes m.toNat fun k => bytes (k.cast hlen)
    have read : noticeSetAt p 0 = some m := by rw [hp, noticeSetAt_setBytes]
    rw [read, withField_some, withField_some, replied_setMask, replied_ackNotices, fresh, fresh, ← hp, ← hbox]
    exact ⟨rfl, setBytes 7 ((u.box c).pending &&& ~~~m).toNat, length_setBytes _ _,
      fun k => getD_setBytes 7 _ k.val k.isLt, rfl⟩
  case refused =>
    rw [noticeSetAt_of_outside outside]
    exact ⟨rfl, rfl⟩
  case broadcastMask => exact exec_ignoredBroadcast hready (by decide)
  case broadcastAck => exact exec_ignoredBroadcast hready (by decide)

end Sys2Proof.Machine
end

section
/-! PROOFS. What the shared operations of stops, starts, faults, trips and the group sequencer are made of: single moves of one
channel record, of one group record, of TRIPOUT, of the pending sets and of the pendant's selection. Every invariant of the
part is shown of a single move, and every shared operation is a chain of moves. -/

namespace Sys2Proof.Machine

open Sys2Proof.Safety Relation

/-! ### The single moves -/

/-- Nothing forbids a start (steps 1 and 3 of R4): the E-stop is CLEAR, control low does not hold and the supply is ON. -/
abbrev MayStart (s : State) : Prop := s.stops.estop = .clear ∧ s.stops.monitor ≠ .low ∧ s.supply.state = .on

/-- What starts, stops, faults and duties make of one channel record, where `may` says that nothing forbids a start. -/
inductive RunMove (now : Time) (may : Prop) (c : Chan) : Chan → Prop
  | dropped : RunMove now may c { c with startPending := none }
  | pended (d : Dir) (h : c.state = .parked ∨ ∃ f, c.state = .stopping f) :
      RunMove now may c { c with startPending := some d }
  | started (d : Dir) (hm : may) (h : c.state = .parked) : RunMove now may c (chanEnterStarting now d c)
  | completed (h : c.state = .starting) (hb : c.out.brakeTimer ≠ none) : RunMove now may c (chanEnterRunning now c)
  | stopped (form : StopForm) : RunMove now may c (chanStop now form c)
  | faulted (k : FaultKind) : RunMove now may c (chanFault now k c)
  | duty (d : Nat) (hd : d ≤ 255) (hk : c.cfg.kind = .variableSpeed) (hr : c.state = .running) :
      RunMove now may c { c with gen := { c.gen with pendingDuty := some d } }

/-- A profile record freshly planned: no progress and no timer of a move. -/
abbrev FreshPlan (pr : Profile) : Prop := pr.p = 0 ∧ pr.holdTimer = none ∧ pr.finishTimer = none

/-- What the group sequencer, the profile unit and the requests make of one group record; a trip is not among them. -/
inductive GrpMove (g : GroupId) (r : Group) : Group → Prop
  | counted (h : r.state = .tripped) : GrpMove g r (countFurther r)
  | profile (pr : Profile) (hh : pr.holdTimer = r.prof.holdTimer) (hf : pr.finishTimer = r.prof.finishTimer)
      (hp : pr.p = r.prof.p ∨ pr.p ≤ 65536) : GrpMove g r { r with prof := pr }
  | updateTimed (e : Time) (h : r.updateTimer ≠ none) : GrpMove g r { r with updateTimer := some e }
  | moving (h : r.state = .starting) : GrpMove g r { r with state := .moving, startTimer := none }
  | held (q : Nat) (e : Time) (h : r.state = .moving) :
      GrpMove g r { r with state := .holding, prof := { r.prof with q := q, holdTimer := some e } }
  | released (q : Nat) (ph : Phase) (h : r.state = .holding) :
      GrpMove g r { r with state := .moving, prof := { r.prof with q := q, phase := ph, holdTimer := none } }
  | finishing (e : Time) (h : r.state = .moving ∨ r.state = .holding) :
      GrpMove g r { r with prof := { r.prof with finishTimer := some e } }
  | stopped (ph : Phase) (h : r.state.stoppable = true) :
      GrpMove g r { endMoveTimers r with state := .stopping, prof := { (endMoveTimers r).prof with phase := ph } }
  | paused (n : ConsoleGroup) (hg : g = .console n) (h : r.state = .stopping) (hm : r.moveKind = .cue) :
      GrpMove g r { r with state := .paused, updateTimer := none }
  | ended (h : r.state = .stopping) (hg : g = .pendant ∨ r.moveKind = .jog) :
      GrpMove g r { r with state := .idle, updateTimer := none }
  | left (hg : g = .pendant) (h : r.state = .tripped) :
      GrpMove g r { r with trip := none, state := .idle, updateTimer := none }
  | completed (head : Cue) (rest : List Cue) (hs : r.state = .moving ∨ r.state = .starting) (hm : r.moveKind = .cue)
      (hq : r.queue = head :: rest) : GrpMove g r { completedIdle r with queue := rest, deadline := none }
  | followed (head next : Cue) (rest : List Cue) (pr : Profile) (e f : Time)
      (hs : r.state = .moving ∨ r.state = .starting) (hm : r.moveKind = .cue) (hq : r.queue = head :: next :: rest)
      (hd : r.deadline ≠ none) (hpr : FreshPlan pr) :
      GrpMove g r { r with
        queue := next :: rest, moveKind := .cue, prof := pr, state := .starting, startTimer := some e
        updateTimer := some f }
  | gone (n : ConsoleGroup) (hg : g = .console n) (pr : Profile) (d e f : Time) (hs : r.state = .idle ∨ r.state = .paused)
      (hq : r.queue ≠ []) (hpr : FreshPlan pr) :
      GrpMove g r { r with
        deadline := some d, moveKind := .cue, prof := pr, state := .starting, startTimer := some e
        updateTimer := some f }
  | jogged (n : ConsoleGroup) (hg : g = .console n) (pr : Profile) (d e f : Time) (speed ramp : Nat)
      (hs : r.state = .idle) (hpr : FreshPlan pr) :
      GrpMove g r { r with
        jogSpeed := speed, jogRamp := ramp, deadline := some d, moveKind := .jog, prof := pr, state := .starting
        startTimer := some e, updateTimer := some f }
  | pendantJogged (hg : g = .pendant) (pr : Profile) (e f : Time) (hs : r.state = .idle) (hpr : FreshPlan pr) :
      GrpMove g r { r with
        moveKind := .jog, prof := pr, state := .starting, startTimer := some e, updateTimer := some f }
  | renewed (n : ConsoleGroup) (hg : g = .console n) (d : Time) (h : r.state.stoppable = true) :
      GrpMove g r { r with deadline := some d }
  | loaded (n : ConsoleGroup) (hg : g = .console n) (q : Cue) (h : r.queue.length < 4) :
      GrpMove g r { r with queue := r.queue ++ [q] }
  | unqueued : GrpMove g r (clearedQueue r)
  | regrouped (interval : Nat) (w : Windows) (h : r.state = .idle) :
      GrpMove g r { r with interval := interval, windows := w, prof := State.resetProfile }
  | undeadlined (h : r.state.stoppable = false) : GrpMove g r { r with deadline := none }
  /-- A pendant group in a cue move, which R122 excludes, is not followed further than this. -/
  | astray (hg : g = .pendant) (hm : r.moveKind = .cue) (q : Group) (hp : q.prof.p = r.prof.p ∨ q.prof.p ≤ 65536) :
      GrpMove g r q

/-- The record of a group at its entry to TRIPPED (R119). -/
def trippedRecord (cause : TripCause) (ch : Option Channel) (r : Group) : Group :=
  { endMoveTimers r with
    state := .tripped, updateTimer := none, trip := some { cause := cause, channel := ch, further := 0 } }

/-- A single move of the part. -/
inductive Move (s : State) : State → Prop
  | run (i : Channel) (c : Chan) (h : RunMove s.timebase (MayStart s) (s.chan i) c) : Move s (s.setChan i c)
  | group (g : GroupId) (r : Group) (h : GrpMove g (s.grp g) r) : Move s (s.setGrp g r)
  | trip (g : GroupId) (cause : TripCause) (ch : Option Channel) (h : (s.grp g).state.inMove = true) :
      Move s (s.setGrp g (trippedRecord cause ch (s.grp g))).retrip
  | raised (n : Notice) : Move s (s.raise n)
  | retripped : Move s s.retrip
  | taken (i : Channel) (hh : (s.chan i).holder = .none) (ho : (s.chan i).state ≠ .off)
      (hk : ∀ k, s.groupKind .pendant = some k → k = (s.chan i).cfg.kind) :
      Move s (s.setChan i { s.chan i with holder := .pendant, group := some .pendant })
  | given (i : Channel) (hh : (s.chan i).holder = .pendant) :
      Move s (s.setChan i { s.chan i with holder := .none, group := none })

/-- A chain of moves. -/
abbrev Moves (s t : State) : Prop := ReflTransGen Move s t

/-! ### Writes that follow one another -/

theorem chans_set_set {α : Type} (v : Chans α) (i : Channel) (x y : α) : (v.set i x).set i y = v.set i y :=
  Chans.ext_get fun j => by by_cases h : j = i <;> simp [h]

theorem groups_set_set (v : Groups) (g : GroupId) (x y : Group) : (v.set g x).set g y = v.set g y :=
  Groups.ext_get fun h => by by_cases hg : h = g <;> simp [hg]

theorem chans_set_get {α : Type} (v : Chans α) (i : Channel) : v.set i (v.get i) = v :=
  Chans.ext_get fun j => by by_cases h : j = i <;> simp [h]

theorem groups_set_get (v : Groups) (g : GroupId) : v.set g (v.get g) = v :=
  Groups.ext_get fun h => by by_cases hg : h = g <;> simp [hg]

variable (s : State)

@[simp] theorem State.setChan_setChan (i : Channel) (c d : Chan) : (s.setChan i c).setChan i d = s.setChan i d := by
  simp [State.setChan, chans_set_set]

@[simp] theorem State.setGrp_setGrp (g : GroupId) (r q : Group) : (s.setGrp g r).setGrp g q = s.setGrp g q := by
  simp [State.setGrp, groups_set_set]

@[simp] theorem State.setChan_chan (i : Channel) : s.setChan i (s.chan i) = s := by
  simp [State.setChan, State.chan, chans_set_get]

@[simp] theorem State.setGrp_grp (g : GroupId) : s.setGrp g (s.grp g) = s := by
  simp [State.setGrp, State.grp, groups_set_get]

/-- The quick stops of a trip stand before or after the write of the group's record alike. -/
theorem foldl_stopMember_setGrp (form : StopForm) (g : GroupId) (r : Group) (l : List Channel) :
    l.foldl (stopMember form) (s.setGrp g r) = (l.foldl (stopMember form) s).setGrp g r := by
  induction l generalizing s with
  | nil => rfl
  | cons i l ih => exact ih (stopMember form s i)

end Sys2Proof.Machine
end

section
/-! PROOFS. The shared operations as chains of moves. -/

namespace Sys2Proof.Machine

open Sys2Proof.Safety Relation

variable {s t u : State} {i : Channel} {g : GroupId}

/-! ### Chains -/

theorem Moves.run {c : Chan} (h : RunMove s.timebase (MayStart s) (s.chan i) c) : Moves s (s.setChan i c) :=
  .single (.run i c h)

theorem Moves.group {r : Group} (h : GrpMove g (s.grp g) r) : Moves s (s.setGrp g r) := .single (.group g r h)

theorem Moves.raised (n : Notice) : Moves s (s.raise n) := .single (.raised n)

theorem Moves.retripped : Moves s s.retrip := .single .retripped

/-- An operation that makes moves makes moves over a list. -/
theorem Moves.foldl {α : Type} {f : State → α → State} (h : ∀ s a, Moves s (f s a)) (l : List α) (s : State) :
    Moves s (l.foldl f s) := by
  induction l generalizing s with
  | nil => exact .refl
  | cons a l ih => exact (h s a).trans (ih (f s a))

/-- What every move keeps, every chain of moves keeps. -/
theorem Moves.induct {P : State → Prop} (h : Moves s t) (hs : P s) (keep : ∀ s t, Move s t → P s → P t) : P t := by
  induction h with
  | refl => exact hs
  | tail _ m ih => exact keep _ _ m ih

/-! ### The profile record -/

/-- Writing the items of a member is a move of the group's profile record. -/
theorem modMember_moves (f : Member → Member) : Moves s (s.modMember g i f) := .group (.profile _ rfl rfl (.inl rfl))

theorem formErrors_moves (g : GroupId) (s : State) : Moves s (formErrors g s) := .group (.profile _ rfl rfl (.inl rfl))

/-! ### The pendant's selection (R95, R100, R122) -/

theorem releasePendant_moves (s : State) (i : Channel) : Moves s (releasePendant s i) := by
  unfold releasePendant
  dsimp only
  split
  next h => exact .single (.given i h)
  next => exact .refl

theorem evalChannel_moves (s : State) (i : Channel) : Moves s (evalChannel s i) := by
  unfold evalChannel
  dsimp only
  split_ifs with _ h h
  · obtain ⟨hh, ho, hk⟩ := h
    exact .single (.taken i hh ho fun k e => by simpa [e] using hk)
  · exact .refl
  · exact .single (.given i h)
  · exact .refl

theorem pendantEval_moves (s : State) : Moves s (pendantEval s) := by
  unfold pendantEval
  split
  · exact .foldl evalChannel_moves _ _
  · exact .foldl releasePendant_moves _ _

theorem pendantIdle_moves (h : (s.grp .pendant).state = .stopping) : Moves s (pendantIdle s) :=
  (Moves.group (.ended h (.inl rfl))).trans (pendantEval_moves _)

theorem pendantExit_moves (s : State) : Moves s (pendantExit s) := by
  rcases pendantExit_cases s with h | ⟨ht, -, -, h⟩
  · rw [h]
  · have left : Moves s (s.setGrp .pendant { s.grp .pendant with trip := none, state := .idle, updateTimer := none }) :=
      .group (.left rfl ht)
    rw [h]
    refine left.trans ?_
    have written := pendantEval_moves
      (s.setGrp .pendant { s.grp .pendant with trip := none, state := .idle, updateTimer := none })
    simpa [pendantIdle] using written

/-! ### Trips (R119) -/

theorem stopMember_moves (form : StopForm) (s : State) (i : Channel) : Moves s (stopMember form s i) :=
  .run (.stopped form)

theorem foldl_stopMember_moves (form : StopForm) (l : List Channel) (s : State) :
    Moves s (l.foldl (stopMember form) s) := .foldl (stopMember_moves form) l s

/-- The records of entry to TRIPPED are the members' quick stops and one write of the group's record. -/
theorem tripRecords_eq_setGrp (g : GroupId) (cause : TripCause) (ch : Option Channel) (s : State) :
    tripRecords g cause ch s =
      ((s.members g).foldl (stopMember .quick) s).setGrp g (trippedRecord cause ch (s.grp g)) := by
  have kept : (s.setGrp g { endMoveTimers (s.grp g) with state := .tripped, updateTimer := none }).members g = s.members g :=
    s.members_congr g fun _ => rfl
  simp [tripRecords, kept, foldl_stopMember_setGrp, trippedRecord]

theorem tripRecords_moves (cause : TripCause) (ch : Option Channel) (h : (s.grp g).state.inMove = true) :
    Moves s (tripRecords g cause ch s).retrip := by
  have same : ((s.members g).foldl (stopMember .quick) s).grp g = s.grp g := by rw [foldl_stopMember_eq]; rfl
  rw [tripRecords_eq_setGrp, ← same]
  exact (foldl_stopMember_moves .quick _ s).tail (.trip g cause ch (by rwa [same]))

theorem enterTripped_moves (cause : TripCause) (ch : Option Channel) (h : (s.grp g).state.inMove = true) :
    Moves s (enterTripped g cause ch s) := by
  have records := tripRecords_moves cause ch h
  cases g with
  | console n => exact records.trans (Moves.raised _)
  | pendant => exact records.trans (pendantExit_moves _)

theorem tripGroup_moves (cause : TripCause) (ch : Option Channel) (g : GroupId) (s : State) :
    Moves s (tripGroup cause ch g s) := by
  obtain ⟨rest, tripped, move⟩ := tripGroup_cases s cause ch g
  cases hs : (s.grp g).state with
  | idle => rw [rest (.inl hs)]
  | paused => rw [rest (.inr hs)]
  | tripped => rw [tripped hs]; exact .group (.counted hs)
  | starting => rw [move (by simp [hs, GroupState.inMove])]; exact enterTripped_moves _ _ (by simp [hs, GroupState.inMove])
  | moving => rw [move (by simp [hs, GroupState.inMove])]; exact enterTripped_moves _ _ (by simp [hs, GroupState.inMove])
  | holding => rw [move (by simp [hs, GroupState.inMove])]; exact enterTripped_moves _ _ (by simp [hs, GroupState.inMove])
  | stopping => rw [move (by simp [hs, GroupState.inMove])]; exact enterTripped_moves _ _ (by simp [hs, GroupState.inMove])

theorem tripGroupOf_moves (cause : TripCause) (i : Channel) (s : State) : Moves s (tripGroupOf cause i s) := by
  unfold tripGroupOf
  split
  · exact .refl
  · exact tripGroup_moves _ _ _ _

theorem tripAll_moves (cause : TripCause) (s : State) : Moves s (tripAll cause s) :=
  .foldl (fun s g => tripGroup_moves cause none g s) _ _

/-! ### Fault reports and starts (R4, R5, R10, R11, R16) -/

theorem faultReport_moves (i : Channel) (k : FaultKind) (s : State) : Moves s (faultReport i k s) := by
  unfold faultReport
  split
  · exact .refl
  · exact (Moves.run (.faulted k)).trans ((Moves.raised _).trans ((tripGroupOf_moves _ _ _).trans Moves.retripped))

theorem limitRefused_moves (i : Channel) (s : State) : Moves s (limitRefused i s) :=
  (Moves.run .dropped).trans ((Moves.raised _).trans (tripGroupOf_moves _ _ _))

theorem startTry_moves (d : Dir) (h : (s.chan i).state = .parked) : Moves s (startTry i d s) := by
  rcases startTry_cases s i d with ⟨-, e⟩ | ⟨-, e⟩ | ⟨-, e⟩ | ⟨he, hm, -, hs, e⟩ <;> rw [e]
  · exact .run .dropped
  · exact limitRefused_moves i s
  · exact .run (.pended d (.inl h))
  · exact .run (.started d ⟨he, hm, hs⟩ h)

theorem startRequest_moves (i : Channel) (d : Dir) (s : State) : Moves s (startRequest i d s) := by
  obtain ⟨parked, stopping, other⟩ := startRequest_cases s i d
  cases hs : (s.chan i).state with
  | parked => rw [parked hs]; exact startTry_moves d hs
  | stopping f => rw [stopping ⟨f, hs⟩]; exact .run (.pended d (.inr ⟨f, hs⟩))
  | starting => rw [other (.inl hs)]
  | running => rw [other (.inr (.inl hs))]
  | faulted => rw [other (.inr (.inr (.inl hs)))]
  | off => rw [other (.inr (.inr (.inr hs)))]

theorem retestPending_moves (i : Channel) (s : State) : Moves s (retestPending i s) := by
  unfold retestPending
  dsimp only
  split
  · exact .refl
  · split
    next h => exact startTry_moves _ h
    next => exact .refl

/-! ### Entry to STARTING, completion and auto-follow (R111 to R117) -/

theorem sendStart_moves (g : GroupId) (s : State) (i : Channel) : Moves s (sendStart g s i) := by
  unfold sendStart
  dsimp only
  split
  · exact .refl
  · split
    · exact startRequest_moves _ _ _
    · exact .refl

/-- The record of a group at its entry to STARTING (R113). -/
def startedRecord (now : Time) (r : Group) : Group :=
  { r with
    state := .starting, startTimer := startMs now 3000, updateTimer := startMs now (intervalMs r.interval) }

theorem enterStarting_eq (g : GroupId) (s : State) :
    enterStarting g s = (s.members g).foldl (sendStart g) (s.setGrp g (startedRecord s.timebase (s.grp g))) := rfl

theorem startCue_eq (g : GroupId) (cue : Cue) (s : State) :
    startCue g cue s =
      (s.members g).foldl (sendStart g)
        (s.setGrp g (startedRecord s.timebase { s.grp g with moveKind := .cue, prof := planCue g cue s })) := by
  simp only [startCue, State.modGrp_eq, enterStarting_eq, State.grp_setGrp, if_pos, State.setGrp_timebase,
    State.setGrp_setGrp]
  rfl

theorem startJog_eq (g : GroupId) (d : Dir) (f ramp : Nat) (s : State) :
    startJog g d f ramp s =
      (s.members g).foldl (sendStart g)
        (s.setGrp g (startedRecord s.timebase { s.grp g with moveKind := .jog, prof := planJog g d f ramp s })) := by
  simp only [startJog, State.modGrp_eq, enterStarting_eq, State.grp_setGrp, if_pos, State.setGrp_timebase,
    State.setGrp_setGrp]
  rfl

theorem freshPlan_planCue (g : GroupId) (cue : Cue) (s : State) : FreshPlan (planCue g cue s) := ⟨rfl, rfl, rfl⟩

theorem freshPlan_planJog (g : GroupId) (d : Dir) (f ramp : Nat) (s : State) : FreshPlan (planJog g d f ramp s) :=
  ⟨rfl, rfl, rfl⟩

/-- Members that are arrived are sent no start request (R113). -/
theorem foldl_sendStart_of_arrived (l : List Channel) (h : ∀ i ∈ l, (s.member g i).arrived = true) :
    l.foldl (sendStart g) s = s := by
  induction l with
  | nil => rfl
  | cons i l ih =>
    have same : sendStart g s i = s := by
      unfold sendStart
      dsimp only
      split
      · rfl
      · rw [if_neg (by simp [h i (by simp)])]
    rw [List.foldl_cons, same]
    exact ih fun j hj => h j (by simp [hj])

end Sys2Proof.Machine
end

section
/-! PROOFS. What trips and starts keep of the group records, and completion, stops and the tellings as chains of moves. -/

namespace Sys2Proof.Machine

open Sys2Proof.Safety Relation

variable {s t u : State} {i : Channel} {g : GroupId}

/-! ### What a trip or a start keeps of a group record -/

/-- The items of a group record that no trip, start or end of a stop touches: `b` has those of `a`. -/
structure GrpKept (a b : Group) : Prop where
  owner    : b.owner = a.owner
  interval : b.interval = a.interval
  windows  : b.windows = a.windows
  moveKind : b.moveKind = a.moveKind
  queue    : b.queue = a.queue
  members  : b.prof.members = a.prof.members
  loads    : b.prof.loadCheck = a.prof.loadCheck

theorem GrpKept.rfl' (a : Group) : GrpKept a a := ⟨rfl, rfl, rfl, rfl, rfl, rfl, rfl⟩

theorem GrpKept.trans {a b c : Group} (h : GrpKept a b) (k : GrpKept b c) : GrpKept a c :=
  ⟨k.owner.trans h.owner, k.interval.trans h.interval, k.windows.trans h.windows, k.moveKind.trans h.moveKind,
   k.queue.trans h.queue, k.members.trans h.members, k.loads.trans h.loads⟩

/-- A write of a record that keeps these items keeps them of every group. -/
theorem grpKept_setGrp {r : Group} (h : GrpKept (s.grp g) r) (k : GroupId) : GrpKept (s.grp k) ((s.setGrp g r).grp k) := by
  by_cases hk : k = g
  · subst hk; simpa using h
  · simpa [hk] using GrpKept.rfl' _

theorem pendantEval_grp (s : State) (k : GroupId) : (pendantEval s).grp k = s.grp k := by
  rw [(pendantEval_eq s).1]; rfl

theorem pendantExit_grpKept (s : State) (k : GroupId) : GrpKept (s.grp k) ((pendantExit s).grp k) := by
  rcases pendantExit_cases s with h | ⟨-, -, -, h⟩ <;> rw [h]
  · exact .rfl' _
  · rw [pendantIdle, pendantEval_grp]
    refine grpKept_setGrp (s := s) (g := .pendant)
      (r := { s.grp .pendant with trip := none, state := .idle, updateTimer := none }) ⟨rfl, rfl, rfl, rfl, rfl, rfl, rfl⟩ k
      |>.trans ?_
    simpa using GrpKept.rfl' _

theorem tripRecords_grpKept (cause : TripCause) (ch : Option Channel) (k : GroupId) :
    GrpKept (s.grp k) ((tripRecords g cause ch s).grp k) := by
  rw [tripRecords_grp]
  split
  next h => subst h; exact ⟨rfl, rfl, rfl, rfl, rfl, rfl, rfl⟩
  next => exact .rfl' _

theorem enterTripped_grpKept (cause : TripCause) (ch : Option Channel) (k : GroupId) :
    GrpKept (s.grp k) ((enterTripped g cause ch s).grp k) := by
  cases g with
  | console n =>
    rw [enterTripped_console_eq, State.retrip_grp, State.raise_grp]
    exact tripRecords_grpKept cause ch k
  | pendant =>
    rw [enterTripped_pendant_eq]
    exact (tripRecords_grpKept cause ch k).trans (pendantExit_grpKept (tripRecords .pendant cause ch s).retrip k)

theorem tripGroup_grpKept (cause : TripCause) (ch : Option Channel) (g k : GroupId) (s : State) :
    GrpKept (s.grp k) ((tripGroup cause ch g s).grp k) := by
  unfold tripGroup
  split <;> first
    | exact .rfl' _
    | exact enterTripped_grpKept cause ch k
    | exact grpKept_setGrp (s := s) (r := countFurther (s.grp g)) ⟨rfl, rfl, rfl, rfl, rfl, rfl, rfl⟩ k

theorem tripGroupOf_grpKept (cause : TripCause) (i : Channel) (s : State) (k : GroupId) :
    GrpKept (s.grp k) ((tripGroupOf cause i s).grp k) := by
  unfold tripGroupOf
  split
  · exact .rfl' _
  · exact tripGroup_grpKept _ _ _ _ _

theorem startTry_grpKept (i : Channel) (d : Dir) (s : State) (k : GroupId) :
    GrpKept (s.grp k) ((startTry i d s).grp k) := by
  rcases startTry_cases s i d with ⟨-, e⟩ | ⟨-, e⟩ | ⟨-, e⟩ | ⟨-, -, -, -, e⟩ <;> rw [e]
  · exact .rfl' _
  · exact tripGroupOf_grpKept .limitSwitch i
      ((s.setChan i { s.chan i with startPending := none }).raise (.chan i .limit)) k
  · exact .rfl' _
  · exact .rfl' _

theorem startRequest_grpKept (i : Channel) (d : Dir) (s : State) (k : GroupId) :
    GrpKept (s.grp k) ((startRequest i d s).grp k) := by
  obtain ⟨parked, stopping, other⟩ := startRequest_cases s i d
  cases hs : (s.chan i).state with
  | parked => rw [parked hs]; exact startTry_grpKept _ _ _ _
  | stopping f => rw [stopping ⟨f, hs⟩]; exact .rfl' _
  | starting => rw [other (.inl hs)]; exact .rfl' _
  | running => rw [other (.inr (.inl hs))]; exact .rfl' _
  | faulted => rw [other (.inr (.inr (.inl hs)))]; exact .rfl' _
  | off => rw [other (.inr (.inr (.inr hs)))]; exact .rfl' _

theorem sendStart_grpKept (s : State) (i : Channel) (k : GroupId) : GrpKept (s.grp k) ((sendStart g s i).grp k) := by
  unfold sendStart
  dsimp only
  split
  · exact .rfl' _
  · split
    · exact startRequest_grpKept _ _ _ _
    · exact .rfl' _

theorem foldl_sendStart_grpKept (l : List Channel) (s : State) (k : GroupId) :
    GrpKept (s.grp k) ((l.foldl (sendStart g) s).grp k) := by
  induction l generalizing s with
  | nil => exact .rfl' _
  | cons i l ih => exact (sendStart_grpKept s i k).trans (ih _)

/-! ### What a trip or a start in a console group keeps of the channel records -/

/-- A trip of a console group keeps what no stop touches of every channel record. -/
theorem tripGroup_console_chanKept (cause : TripCause) (ch : Option Channel) (n : ConsoleGroup) (s : State) (j : Channel) :
    ChanKept (s.chan j) ((tripGroup cause ch (.console n) s).chan j) := by
  have entered : ChanKept (s.chan j) ((enterTripped (.console n) cause ch s).chan j) := by
    rw [enterTripped_console_eq, State.retrip_chan, State.raise_chan, tripRecords_chan]
    split
    · exact chanStop_kept _ _ _
    · exact .rfl' _
  unfold tripGroup
  split <;> first
    | exact .rfl' _
    | exact entered

/-- The write of a record that keeps these items keeps them of every channel. -/
theorem chanKept_setChan {c : Chan} (h : ChanKept (s.chan i) c) (j : Channel) :
    ChanKept (s.chan j) ((s.setChan i c).chan j) := by
  by_cases hj : j = i
  · subst hj; simpa using h
  · simpa [hj] using ChanKept.rfl' _

theorem chanKept_startPending (c : Chan) (p : Option Dir) : ChanKept c { c with startPending := p } :=
  ⟨rfl, rfl, rfl, rfl, rfl, rfl, rfl, rfl, rfl, rfl, rfl, rfl, rfl, rfl, rfl⟩

theorem limitRefused_chanKept (h : (s.chan i).group ≠ some .pendant) (j : Channel) :
    ChanKept (s.chan j) ((limitRefused i s).chan j) := by
  have written := chanKept_setChan (s := s) (chanKept_startPending (s.chan i) none) j
  simp only [limitRefused, State.modChan_eq, tripGroupOf, State.raise_chan, State.chan_setChan, if_pos]
  split
  · exact written
  next g hg =>
    cases g with
    | pendant => exact absurd hg h
    | console n =>
      have told := tripGroup_console_chanKept .limitSwitch (some i) n
        ((s.setChan i { s.chan i with startPending := none }).raise (.chan i .limit)) j
      exact written.trans told

theorem startTry_chanKept (d : Dir) (h : (s.chan i).group ≠ some .pendant) (j : Channel) :
    ChanKept (s.chan j) ((startTry i d s).chan j) := by
  rcases startTry_cases s i d with ⟨-, e⟩ | ⟨-, e⟩ | ⟨-, e⟩ | ⟨-, -, -, -, e⟩ <;> rw [e]
  · exact chanKept_setChan (chanKept_startPending _ _) j
  · exact limitRefused_chanKept h j
  · exact chanKept_setChan (chanKept_startPending _ _) j
  · exact chanKept_setChan (chanEnterStarting_kept _ _ _) j

theorem startRequest_chanKept (d : Dir) (h : (s.chan i).group ≠ some .pendant) (j : Channel) :
    ChanKept (s.chan j) ((startRequest i d s).chan j) := by
  obtain ⟨parked, stopping, other⟩ := startRequest_cases s i d
  cases hs : (s.chan i).state with
  | parked => rw [parked hs]; exact startTry_chanKept d h j
  | stopping f => rw [stopping ⟨f, hs⟩]; exact chanKept_setChan (chanKept_startPending _ _) j
  | starting => rw [other (.inl hs)]; exact .rfl' _
  | running => rw [other (.inr (.inl hs))]; exact .rfl' _
  | faulted => rw [other (.inr (.inr (.inl hs)))]; exact .rfl' _
  | off => rw [other (.inr (.inr (.inr hs)))]; exact .rfl' _

theorem foldl_sendStart_chanKept (l : List Channel) (h : ∀ i ∈ l, (s.chan i).group ≠ some .pendant) (j : Channel) :
    ChanKept (s.chan j) ((l.foldl (sendStart g) s).chan j) := by
  induction l generalizing s with
  | nil => exact .rfl' _
  | cons i l ih =>
    have first (k : Channel) : ChanKept (s.chan k) ((sendStart g s i).chan k) := by
      unfold sendStart
      dsimp only
      split
      · exact .rfl' _
      · split
        · exact startRequest_chanKept _ (h i (by simp)) k
        · exact .rfl' _
    exact (first j).trans (ih fun k hk => by rw [(first k).group]; exact h k (by simp [hk]))

/-- Where nothing moves after the start of a console group, each of its members was planned as arrived, and no start request
was sent (R113). -/
theorem foldl_sendStart_of_nothingMoves {n : ConsoleGroup}
    (h : nothingMoves (.console n) ((s.members (.console n)).foldl (sendStart (.console n)) s) = true) :
    (s.members (.console n)).foldl (sendStart (.console n)) s = s := by
  refine foldl_sendStart_of_arrived _ fun i hi => ?_
  have kept := foldl_sendStart_chanKept (g := .console n) (s := s) (s.members (.console n))
    fun j hj => by simp [(s.mem_members _ _).mp hj]
  have items := foldl_sendStart_grpKept (g := .console n) (s.members (.console n)) s (.console n)
  have arrived := List.all_eq_true.mp h i (by simpa [(kept i).group] using (s.mem_members _ _).mp hi)
  simpa only [State.member, items.members] using arrived

/-! ### Completion and auto-follow (R113, R116, R117, R135) -/

theorem missCheck_moves (g : GroupId) (s : State) : Moves s (missCheck g s) := by
  unfold missCheck
  split
  · cases g <;> [exact .raised _; exact .refl]
  · exact .refl

theorem raiseGroup_moves (g : GroupId) (k : GroupNotice) (s : State) : Moves s (raiseGroup g k s) := by
  cases g <;> [exact .raised _; exact .refl]

@[simp] theorem raiseGroup_grp (g : GroupId) (k : GroupNotice) (s : State) (h : GroupId) :
    (raiseGroup g k s).grp h = s.grp h := by cases g <;> rfl

@[simp] theorem raiseGroup_setGrp (g h : GroupId) (k : GroupNotice) (r : Group) (s : State) :
    raiseGroup g k (s.setGrp h r) = (raiseGroup g k s).setGrp h r := by cases g <;> rfl

@[simp] theorem missCheck_grp (g : GroupId) (s : State) (h : GroupId) : (missCheck g s).grp h = s.grp h := by
  unfold missCheck; split <;> simp

/-- What a completion tells: MISS where a member rests outside its band, and DONE (R116, R135). -/
def completionTold (g : GroupId) (s : State) : State := raiseGroup g .done (missCheck g s)

theorem completionTold_moves (g : GroupId) (s : State) : Moves s (completionTold g s) :=
  (missCheck_moves g s).trans (raiseGroup_moves g _ _)

@[simp] theorem completionTold_grp (g : GroupId) (s : State) (h : GroupId) : (completionTold g s).grp h = s.grp h := by
  simp [completionTold]

/-- The record of a group whose cue has completed, before the next cue is looked at (R116). -/
def completedRecord (rest : List Cue) (r : Group) : Group := { completedIdle r with queue := rest }

/-- A completion tells, writes the group's record, and starts the next cue or drops the deadline (R116, R117). -/
theorem completeFrom_cons (g : GroupId) (head : Cue) (rest : List Cue) (s : State) :
    completeFrom g (head :: rest) s =
      let u := (completionTold g s).setGrp g (completedRecord rest (s.grp g))
      if head.follow = .autoNext ∧ (s.grp g).deadline.isSome then
        match rest with
        | [] => dropDeadline g u
        | next :: _ =>
          match goCheck g next u with
          | some _ => dropDeadline g u
          | none =>
            if nothingMoves g (startCue g next u) then completeFrom g rest (startCue g next u) else startCue g next u
      else dropDeadline g u := by
  have record : completedIdle { s.grp g with queue := rest } = completedRecord rest (s.grp g) := rfl
  have deadline : (completedRecord rest (s.grp g)).deadline = (s.grp g).deadline := rfl
  rw [completeFrom.eq_def]
  simp only [State.modGrp_eq, missCheck_grp, raiseGroup_setGrp, State.grp_setGrp, if_pos, State.setGrp_setGrp, record,
    deadline]
  rfl

end Sys2Proof.Machine
end

section
/-! PROOFS. Completion, the starts of cues and jogs, controlled stops and the tellings of a member's group as chains of moves. -/

namespace Sys2Proof.Machine

open Sys2Proof.Safety Relation

variable {s t u : State} {i : Channel} {g : GroupId}

/-- Group `g` is a pendant group, or a console group in a move under the head of this queue. -/
abbrev CueRuns (g : GroupId) (q : List Cue) (s : State) : Prop :=
  (s.grp g).moveKind = .cue ∧
    (g = .pendant ∨
      (∃ n, g = .console n) ∧ ((s.grp g).state = .moving ∨ (s.grp g).state = .starting) ∧ (s.grp g).queue = q)

/-- The start of a cue from a state with the group's record just written. -/
theorem startCue_setGrp (g : GroupId) (cue : Cue) (r : Group) (s : State) :
    startCue g cue (s.setGrp g r) =
      ((s.setGrp g r).members g).foldl (sendStart g)
        (s.setGrp g (startedRecord s.timebase { r with moveKind := .cue, prof := planCue g cue (s.setGrp g r) })) := by
  rw [startCue_eq, State.setGrp_setGrp, State.grp_setGrp, if_pos rfl, State.setGrp_timebase]

/-- The start of a jog from a state with the group's record just written. -/
theorem startJog_setGrp (g : GroupId) (d : Dir) (f ramp : Nat) (r : Group) (s : State) :
    startJog g d f ramp (s.setGrp g r) =
      ((s.setGrp g r).members g).foldl (sendStart g)
        (s.setGrp g (startedRecord s.timebase { r with moveKind := .jog, prof := planJog g d f ramp (s.setGrp g r) })) := by
  rw [startJog_eq, State.setGrp_setGrp, State.grp_setGrp, if_pos rfl, State.setGrp_timebase]

theorem foldl_sendStart_moves (g : GroupId) (l : List Channel) (s : State) : Moves s (l.foldl (sendStart g) s) :=
  .foldl (sendStart_moves g) l s

/-- A cue that completes and is the last to run is one move of the record (R116). -/
theorem dropDeadline_moves {head : Cue} {rest : List Cue} (h : CueRuns g (head :: rest) s) :
    Moves s (dropDeadline g (s.setGrp g (completedRecord rest (s.grp g)))) := by
  obtain ⟨hm, hg⟩ := h
  have move : GrpMove g (s.grp g) { completedIdle (s.grp g) with queue := rest, deadline := none } := by
    rcases hg with rfl | ⟨-, hs, hq⟩
    · exact .astray rfl hm _ (.inl rfl)
    · exact .completed head rest hs hm hq
  simpa [dropDeadline, completedRecord] using Moves.group move

/-- A cue that completes and is followed by the next one is one move of the record, and the start requests (R117). -/
theorem followCue_moves {head next : Cue} {more : List Cue} (h : CueRuns g (head :: next :: more) s)
    (hd : (s.grp g).deadline ≠ none) :
    Moves s (startCue g next (s.setGrp g (completedRecord (next :: more) (s.grp g)))) := by
  obtain ⟨hm, hg⟩ := h
  rw [startCue_setGrp]
  refine (Moves.group ?_).trans (foldl_sendStart_moves _ _ _)
  rcases hg with rfl | ⟨-, hs, hq⟩
  · exact .astray rfl hm _ (.inr (by simp [startedRecord, planCue, freshProfile]))
  · exact .followed head next more _ _ _ hs hm hq hd (freshPlan_planCue _ _ _)

/-- A group whose next cue has started, and has nothing to move, completes that cue in its turn. -/
theorem cueRuns_startCue {cue : Cue} {q : List Cue} (hg : g = .pendant ∨ ∃ n, g = .console n) (hq : (s.grp g).queue = q)
    (hn : nothingMoves g (startCue g cue s) = true) : CueRuns g q (startCue g cue s) := by
  rw [startCue_eq] at hn ⊢
  refine ⟨?_, ?_⟩
  · rw [(foldl_sendStart_grpKept _ _ g).moveKind]; simp [startedRecord]
  · rcases hg with rfl | ⟨n, rfl⟩
    · exact .inl rfl
    · have same : s.members (.console n) = (s.setGrp (.console n) (startedRecord s.timebase
          { s.grp (.console n) with moveKind := .cue, prof := planCue (.console n) cue s })).members (.console n) :=
        (State.members_congr _ fun _ => rfl).symm
      rw [same] at hn ⊢
      rw [foldl_sendStart_of_nothingMoves hn]
      exact .inr ⟨⟨n, rfl⟩, by simp [startedRecord], by simpa [startedRecord] using hq⟩

/-- A completion and the auto-follow starts after it are moves (R116, R117). -/
theorem completeFrom_moves (q : List Cue) (h : CueRuns g q s) : Moves s (completeFrom g q s) := by
  induction q generalizing s with
  | nil => exact .refl
  | cons head rest ih =>
    rw [completeFrom_cons]
    set v := completionTold g s with hv
    have same : v.grp g = s.grp g := completionTold_grp g s g
    have hv : CueRuns g (head :: rest) v := by simpa only [CueRuns, same] using h
    have dropped : Moves s (dropDeadline g (v.setGrp g (completedRecord rest (s.grp g)))) :=
      (completionTold_moves g s).trans (same ▸ dropDeadline_moves hv)
    dsimp only
    split
    next hd =>
      cases rest with
      | nil => exact dropped
      | cons next more =>
        dsimp only
        split
        · exact dropped
        · have followed : Moves s (startCue g next (v.setGrp g (completedRecord (next :: more) (s.grp g)))) :=
            (completionTold_moves g s).trans
              (same ▸ followCue_moves hv (by rw [same]; exact Option.isSome_iff_ne_none.mp hd.2))
          split
          next hn =>
            have hg : g = .pendant ∨ ∃ n, g = .console n := by cases g <;> simp
            exact followed.trans (ih (cueRuns_startCue hg (by simp [completedRecord]) hn))
          next => exact followed
    next => exact dropped

theorem completionTest_moves (g : GroupId) (s : State) : Moves s (completionTest g s) := by
  rcases completionTest_cases s g with h | ⟨hs, hm, -, h⟩ <;> rw [h]
  refine completeFrom_moves _ ⟨hm, ?_⟩
  cases g with
  | pendant => exact .inl rfl
  | console n => exact .inr ⟨⟨n, rfl⟩, .inl hs, rfl⟩

/-- A GO taken on a console group with a queue is its record's move to STARTING, and the start requests or the completion of a
cue in which nothing moves (R111, R113). -/
theorem goStart_moves (n : ConsoleGroup) (h : (s.grp (.console n)).state = .idle ∨ (s.grp (.console n)).state = .paused) :
    Moves s (goStart (.console n) s) := by
  unfold goStart
  split
  · exact .refl
  next head rest hq =>
    set v := s.setGrp (.console n) { s.grp (.console n) with deadline := startMs s.timebase s.settings.holdWindow } with hv
    have started : Moves s (startCue (.console n) head v) := by
      rw [hv, startCue_setGrp]
      exact (Moves.group (.gone n rfl _ _ _ _ h (by simp [hq]) (freshPlan_planCue _ _ _))).trans
        (foldl_sendStart_moves _ _ _)
    dsimp only [State.modGrp_eq]
    split
    next hn =>
      exact started.trans (completeFrom_moves _ (cueRuns_startCue (.inr ⟨n, rfl⟩) (by simp [hv, hq]) hn))
    next => exact started

/-- A jog taken on a console group (R112, R143). -/
theorem jogTaken_moves (n : ConsoleGroup) (d : Dir) (f ramp : Nat) (h : (s.grp (.console n)).state = .idle) :
    Moves s (jogTaken n d f ramp s) := by
  rw [jogTaken, State.modGrp_eq, startJog_setGrp]
  exact (Moves.group (.jogged n rfl _ _ _ _ _ _ h (freshPlan_planJog _ _ _ _ _))).trans (foldl_sendStart_moves _ _ _)

/-- A pendant jog (R98, R143). -/
theorem startJog_pendant_moves (d : Dir) (f ramp : Nat) (h : (s.grp .pendant).state = .idle) :
    Moves s (startJog .pendant d f ramp s) := by
  rw [startJog_eq]
  exact (Moves.group (.pendantJogged rfl _ _ _ h (freshPlan_planJog _ _ _ _ _))).trans (foldl_sendStart_moves _ _ _)

/-! ### Controlled stops of a group (R115) -/

theorem stopTest_moves (g : GroupId) (s : State) : Moves s (stopTest g s) := by
  rcases stopTest_cases s g with h | ⟨hs, -, ⟨rfl, h⟩ | ⟨n, hg, hm, h⟩ | ⟨n, -, hm, h⟩⟩ <;> rw [h]
  · exact pendantIdle_moves hs
  · exact (Moves.group (.paused n hg hs hm)).trans (Moves.raised _)
  · exact .group (.ended hs (.inr hm))

theorem stopAtEntry_moves (fixed : Bool) (s : State) (i : Channel) : Moves s (stopAtEntry fixed s i) := by
  unfold stopAtEntry
  split
  · exact .refl
  · exact stopMember_moves _ _ _

/-- The record of a group at its entry to STOPPING (R115). -/
def stoppingRecord (r : Group) : Group :=
  { endMoveTimers r with state := .stopping, prof := { (endMoveTimers r).prof with phase := .stopping } }

theorem controlledStop_of_stoppable (h : (s.grp g).state.stoppable = true) :
    controlledStop g s =
      stopTest g ((s.members g).foldl (stopAtEntry (s.groupFixed g)) (s.setGrp g (stoppingRecord (s.grp g)))) := by
  simp only [controlledStop, h, if_pos]
  rfl

theorem controlledStop_moves (g : GroupId) (s : State) : Moves s (controlledStop g s) := by
  cases h : (s.grp g).state.stoppable with
  | false => rw [controlledStop_of_not_stoppable s g h]
  | true =>
    rw [controlledStop_of_stoppable h]
    exact (Moves.group (.stopped .stopping h)).trans ((Moves.foldl (stopAtEntry_moves _) _ _).trans (stopTest_moves _ _))

/-! ### What a member's RUNNING or PARKED makes of its group (R6, R8, R113) -/

theorem tellRunning_moves (i : Channel) (s : State) : Moves s (tellRunning i s) := by
  rcases tellRunning_cases s i with h | ⟨g, -, hs, h⟩ <;> rw [h]
  exact .group (.moving hs)

theorem startCompletion_moves (h : (s.chan i).state = .starting) (hb : (s.chan i).out.brakeTimer ≠ none) :
    Moves s (startCompletion i s) :=
  (Moves.run (.completed h hb)).trans (tellRunning_moves _ _)

theorem trimRestart_moves (g : GroupId) (i : Channel) (err : Int) (s : State) : Moves s (trimRestart g i err s) := by
  rcases trimRestart_cases s g i err with h | ⟨m, -, -, -, -, -, h⟩ <;> rw [h]
  exact (modMember_moves _).trans (startRequest_moves _ _ _)

theorem trimAtPark_moves (g : GroupId) (i : Channel) (s : State) : Moves s (trimAtPark g i s) := by
  unfold trimAtPark
  split
  · exact .refl
  · exact trimRestart_moves _ _ _ _

theorem tellParked_moves (i : Channel) (s : State) : Moves s (tellParked i s) := by
  unfold tellParked
  split
  · exact .refl
  next g _ =>
    split
    · exact stopTest_moves _ _
    · exact (trimAtPark_moves _ _ _).trans (completionTest_moves _ _)
    · exact trimAtPark_moves _ _ _
    · split
      · exact pendantExit_moves _
      · exact .refl
    · exact .refl
    · exact .refl
    · exact .refl

theorem afterPark_moves (before : ChanState) (i : Channel) (s : State) : Moves s (afterPark before i s) := by
  unfold afterPark
  split
  · exact (tellParked_moves _ _).trans (retestPending_moves _ _)
  · exact .refl

theorem stopTold_moves (form : StopForm) (s : State) (i : Channel) : Moves s (stopTold form s i) :=
  (Moves.run (.stopped form)).trans (afterPark_moves _ _ _)

theorem quickStopAll_moves (s : State) : Moves s (quickStopAll s) := .foldl (stopTold_moves .quick) _ _

end Sys2Proof.Machine
end

section
/-! PROOFS. Every step of a group update and every expiry of a group's own timers as chains of moves. -/

namespace Sys2Proof.Machine

open Sys2Proof.Safety Relation

variable {s t u : State} {i : Channel} {g : GroupId}

/-! ### The group update and the expiries of a group's timers (R92, R120, R125, R136, R140) -/

theorem markArrived_moves (g : GroupId) (i : Channel) (s : State) : Moves s (markArrived g i s) := modMember_moves _

theorem arrivalOf_moves (g : GroupId) (fixed : Bool) (s : State) (i : Channel) : Moves s (arrivalOf g fixed s i) := by
  unfold arrivalOf
  dsimp only
  split
  · exact .refl
  · split_ifs
    · exact .refl
    · exact (markArrived_moves _ _ _).trans (stopMember_moves _ _ _)
    · exact markArrived_moves _ _ _
    · exact .refl
    · exact (markArrived_moves _ _ _).trans (stopMember_moves _ _ _)
    · exact .refl

theorem arrivals_moves (g : GroupId) (s : State) : Moves s (arrivals g s) := by
  unfold arrivals
  split
  · exact .foldl (arrivalOf_moves g _) _ _
  · exact .refl

/-- A write of a member's items keeps the state of its group. -/
theorem modMember_state (f : Member → Member) (h : GroupId) : ((s.modMember g i f).grp h).state = (s.grp h).state := by
  by_cases hh : h = g
  · subst hh; simp [State.modMember]
  · simp [State.modMember, hh]

theorem arrivalOf_state (fixed : Bool) (s : State) (i : Channel) (h : GroupId) :
    ((arrivalOf g fixed s i).grp h).state = (s.grp h).state := by
  unfold arrivalOf markArrived
  dsimp only
  split
  · rfl
  · split_ifs <;> simp [modMember_state]

theorem arrivals_state (g : GroupId) (s : State) (h : GroupId) : ((arrivals g s).grp h).state = (s.grp h).state := by
  have fold (fixed : Bool) (l : List Channel) (s : State) :
      ((l.foldl (arrivalOf g fixed) s).grp h).state = (s.grp h).state := by
    induction l generalizing s with
    | nil => rfl
    | cons i l ih => exact (ih _).trans (arrivalOf_state fixed s i h)
  unfold arrivals
  split
  · exact fold _ _ _
  · rfl

theorem formErrors_state (g : GroupId) (s : State) (h : GroupId) : ((formErrors g s).grp h).state = (s.grp h).state := by
  by_cases hh : h = g
  · subst hh; simp [formErrors]
  · simp [formErrors, hh]

/-- A write of a profile record keeps the state of its group. -/
theorem modProf_state (f : Profile → Profile) (h : GroupId) : ((s.modProf g f).grp h).state = (s.grp h).state := by
  by_cases hh : h = g
  · subst hh; simp [State.modProf]
  · simp [State.modProf, hh]

theorem decideShares_moves (g : GroupId) (s : State) : Moves s (decideShares g s) := by
  unfold decideShares
  dsimp only
  split <;> exact .group (.profile _ rfl rfl (.inl rfl))

theorem compareShares_moves (g : GroupId) (s : State) : Moves s (compareShares g s) :=
  .group (.profile _ rfl rfl (.inl rfl))

theorem decideShares_state (g : GroupId) (s : State) (h : GroupId) :
    ((decideShares g s).grp h).state = (s.grp h).state := by
  unfold decideShares
  dsimp only
  split <;> exact modProf_state _ _

theorem compareShares_state (g : GroupId) (s : State) (h : GroupId) :
    ((compareShares g s).grp h).state = (s.grp h).state := modProf_state _ _

theorem loadStep_moves (g : GroupId) (s : State) : Moves s (loadStep g s).1 := by
  unfold loadStep
  split
  · exact decideShares_moves _ _
  · exact compareShares_moves _ _
  · exact .refl

theorem loadStep_state (g : GroupId) (s : State) (h : GroupId) : ((loadStep g s).1.grp h).state = (s.grp h).state := by
  unfold loadStep
  split
  · exact decideShares_state _ _ _
  · exact compareShares_state _ _ _
  · rfl

/-- Steps 4 and 5 trip the group, or the rest of the update follows on a state in which the group is as it was. -/
theorem updateTests_moves {next : State → State}
    (h : ∀ u : State, (u.grp g).state = (s.grp g).state → Moves u (next u)) : Moves s (updateTests g s next) := by
  have steps := loadStep_moves g s
  have state := loadStep_state g s g
  unfold updateTests
  split
  · exact tripGroup_moves _ _ _ _
  · split
    next u i e => rw [e] at steps; exact steps.trans (tripGroup_moves _ _ _ _)
    next u e => rw [e] at steps state; exact steps.trans (h u state)

theorem writeDuty_moves (d : Nat) (hd : d ≤ 255) (i : Channel) (s : State) : Moves s (writeDuty d i s) := by
  unfold writeDuty
  simp only [State.modChan_eq]
  split
  next h => exact .run (.duty d hd h.1 h.2)
  next => rw [State.setChan_chan]

theorem dutyOf_le (ff corr : Nat) (err : Int) : dutyOf ff corr err ≤ 255 := by
  unfold dutyOf; split_ifs <;> exact Nat.min_le_left _ _

theorem dutyFor_moves (g : GroupId) (qd : Nat) (s : State) (i : Channel) : Moves s (dutyFor g qd s i) := by
  unfold dutyFor
  dsimp only
  split
  · exact .refl
  · split
    · exact writeDuty_moves _ (dutyOf_le _ _ _) _ _
    · exact .refl

theorem dutyStep_moves (g : GroupId) (qd : Nat) (s : State) : Moves s (dutyStep g qd s) := .foldl (dutyFor_moves g qd) _ _

theorem finishStep_moves (g : GroupId) (s : State) : Moves s (finishStep g s) := by
  unfold finishStep
  dsimp only
  split
  next h => exact .group (.finishing _ h.1)
  next => exact .refl

theorem trimOf_moves (g : GroupId) (s : State) (i : Channel) : Moves s (trimOf g s i) := by
  unfold trimOf
  dsimp only
  split_ifs
  · exact (modMember_moves _).trans (stopMember_moves _ _ _)
  · exact trimRestart_moves _ _ _ _
  · exact .refl

theorem updateTail_moves (g : GroupId) (qd : Nat) (s : State) : Moves s (updateTail g qd s) := by
  have driven : Moves s (if s.groupFixed g then (s.members g).foldl (trimOf g) s else dutyStep g qd s) := by
    split
    · exact .foldl (trimOf_moves g) _ _
    · exact dutyStep_moves _ _ _
  unfold updateTail
  dsimp only
  split
  · exact driven
  · exact driven.trans ((finishStep_moves _ _).trans (completionTest_moves _ _))

theorem advanceBy_kept (mk : MoveKind) (pr : Profile) :
    (advanceBy mk pr).holdTimer = pr.holdTimer ∧ (advanceBy mk pr).finishTimer = pr.finishTimer ∧
      ((advanceBy mk pr).p = pr.p ∨ (advanceBy mk pr).p ≤ 65536) := by
  unfold advanceBy
  cases mk with
  | cue => exact ⟨rfl, rfl, .inr (Nat.min_le_left _ _)⟩
  | jog => cases pr.jMax <;> exact ⟨rfl, rfl, .inl rfl⟩

theorem advanceMoving_kept (fixed : Bool) (mk : MoveKind) (pr : Profile) :
    (advanceMoving fixed mk pr).holdTimer = pr.holdTimer ∧ (advanceMoving fixed mk pr).finishTimer = pr.finishTimer ∧
      ((advanceMoving fixed mk pr).p = pr.p ∨ (advanceMoving fixed mk pr).p ≤ 65536) := by
  unfold advanceMoving
  cases fixed with
  | true => exact advanceBy_kept mk { pr with q := pr.qCruise }
  | false =>
    have ramped := rampPhase_kept (remainingOf mk pr) pr
    have kept := advanceBy_kept mk (rampPhase (remainingOf mk pr) pr)
    rw [ramped] at kept
    rw [ramped]
    exact kept

theorem updateMoving_moves (h : (s.grp g).state = .moving) : Moves s (updateMoving g s) := by
  obtain ⟨hh, hf, hp⟩ := advanceMoving_kept (s.groupFixed g) (s.grp g).moveKind (s.grp g).prof
  have advanced : Moves s (s.modProf g fun _ => advanceMoving (s.groupFixed g) (s.grp g).moveKind (s.grp g).prof) :=
    .group (.profile _ hh hf hp)
  unfold updateMoving
  dsimp only
  refine (advanced.trans ((formErrors_moves _ _).trans (arrivals_moves _ _))).trans (updateTests_moves fun u hu => ?_)
  rw [arrivals_state, formErrors_state, modProf_state, h] at hu
  split_ifs
  · exact (controlledStop_moves _ _).trans (updateTail_moves _ _ _)
  · exact (Moves.group (.held 0 _ hu)).trans (updateTail_moves _ _ _)
  · exact updateTail_moves _ _ _

theorem updateHolding_moves (h : (s.grp g).state = .holding) : Moves s (updateHolding g s) := by
  unfold updateHolding
  dsimp only
  refine ((formErrors_moves _ _).trans (arrivals_moves _ _)).trans (updateTests_moves fun u hu => ?_)
  rw [arrivals_state, formErrors_state, h] at hu
  split_ifs
  · exact (Moves.group (.released 0 _ hu)).trans (updateTail_moves _ _ _)
  · exact updateTail_moves _ _ _

theorem updateStarting_moves (g : GroupId) (s : State) : Moves s (updateStarting g s) := by
  unfold updateStarting
  dsimp only
  split
  · exact formErrors_moves _ _
  · exact (formErrors_moves _ _).trans (dutyStep_moves _ _ _)

theorem stopRunning_moves (s : State) (i : Channel) : Moves s (stopRunning s i) := by
  unfold stopRunning
  split
  · exact stopMember_moves _ _ _
  · exact .refl

theorem updateStopping_moves (g : GroupId) (s : State) : Moves s (updateStopping g s) := by
  unfold updateStopping
  split
  · exact formErrors_moves _ _
  · obtain ⟨hh, hf, hp⟩ := advanceBy_kept (s.grp g).moveKind
      { (s.grp g).prof with q := (s.grp g).prof.q - (s.grp g).prof.a }
    have ramped : Moves s (s.modProf g fun _ => stopRamp (s.grp g).moveKind (s.grp g).prof) :=
      .group (.profile _ hh hf hp)
    have formed := ramped.trans (formErrors_moves g _)
    refine ReflTransGen.trans ?_ ((dutyStep_moves _ _ _).trans (stopTest_moves _ _))
    split
    · exact formed.trans (Moves.foldl stopRunning_moves _ _)
    · exact formed

theorem groupUpdate_moves (g : GroupId) (s : State) : Moves s (groupUpdate g s) := by
  unfold groupUpdate
  split
  · exact .refl
  next e he =>
    set v := s.setGrp g { s.grp g with updateTimer := startMs e (intervalMs (s.grp g).interval) } with hv
    have timed : Moves s v := .group (.updateTimed _ (by simp [he]))
    have state : (v.grp g).state = (s.grp g).state := by simp [hv]
    show Moves s (match (v.grp g).state with
      | .starting => updateStarting g v
      | .moving => updateMoving g v
      | .holding => updateHolding g v
      | .stopping => updateStopping g v
      | .idle => v
      | .paused => v
      | .tripped => v)
    refine timed.trans ?_
    split
    next => exact updateStarting_moves _ _
    next h => exact updateMoving_moves h
    next h => exact updateHolding_moves h
    next => exact updateStopping_moves _ _
    all_goals exact .refl

theorem startTimeout_moves (g : GroupId) (s : State) : Moves s (startTimeout g s) := by
  unfold startTimeout; split <;> [exact tripGroup_moves _ _ _ _; exact .refl]

theorem holdTimeout_moves (g : GroupId) (s : State) : Moves s (holdTimeout g s) := by
  unfold holdTimeout; split <;> [exact tripGroup_moves _ _ _ _; exact .refl]

theorem finishTimeout_moves (g : GroupId) (s : State) : Moves s (finishTimeout g s) := by
  unfold finishTimeout; split <;> [exact tripGroup_moves _ _ _ _; exact .refl]

/-- The end of a group stop leaves the group's state, or ends it in PAUSED or IDLE. -/
theorem stopTest_state (g : GroupId) (s : State) :
    ((stopTest g s).grp g).state = (s.grp g).state ∨ ((stopTest g s).grp g).state = .paused ∨
      ((stopTest g s).grp g).state = .idle := by
  rcases stopTest_cases s g with h | ⟨-, -, ⟨rfl, h⟩ | ⟨n, -, -, h⟩ | ⟨n, -, -, h⟩⟩ <;> rw [h]
  · exact .inl rfl
  · refine .inr (.inr ?_); rw [pendantIdle, pendantEval_grp]; simp
  · refine .inr (.inl ?_); simp
  · refine .inr (.inr ?_); simp

theorem foldl_stopAtEntry_grp (fixed : Bool) (l : List Channel) (s : State) (h : GroupId) :
    (l.foldl (stopAtEntry fixed) s).grp h = s.grp h := by
  induction l generalizing s with
  | nil => rfl
  | cons i l ih =>
    rw [List.foldl_cons, ih]
    unfold stopAtEntry
    split <;> rfl

/-- After a controlled stop the group is not STARTING, MOVING or HOLDING (R115). -/
theorem controlledStop_not_stoppable (g : GroupId) (s : State) : ((controlledStop g s).grp g).state.stoppable = false := by
  cases h : (s.grp g).state.stoppable with
  | false => rw [controlledStop_of_not_stoppable s g h]; exact h
  | true =>
    rw [controlledStop_of_stoppable h]
    set v := (s.members g).foldl (stopAtEntry (s.groupFixed g)) (s.setGrp g (stoppingRecord (s.grp g))) with hv
    have stopping : (v.grp g).state = .stopping := by rw [hv, foldl_stopAtEntry_grp]; simp [stoppingRecord]
    rcases stopTest_state g v with e | e | e <;> simp [e, stopping, GroupState.stoppable]

theorem deadlineExpired_moves (n : ConsoleGroup) (s : State) : Moves s (deadlineExpired n s) := by
  rcases deadlineExpired_cases s n with h | ⟨e, -, -, h⟩ <;> rw [h]
  exact (controlledStop_moves _ _).trans (Moves.group (.undeadlined (controlledStop_not_stoppable _ _)))

end Sys2Proof.Machine
end

section
/-! PROOFS. What a command does: chains of moves, writes of the channel records by lines, timers and requests, and the writes of
the other parts. `exec_acts` says it once of all 76 commands. -/

namespace Sys2Proof.Machine

open Sys2Proof.Safety Relation

/-! ### The acts of the commands -/

/-- What a line, a timer, a conversion or a request writes in one channel record, beside its runs and its authority. -/
inductive ChanWrite (now : Time) (enable : EightSet) (c : Chan) : Chan → Prop
  | conditions (th up lo : Bool) : ChanWrite now enable c { c with thermal := th, upperOpen := up, lowerOpen := lo }
  | current (active : Bool) : ChanWrite now enable c (watchStuck now { c with out := { c.out with cs := active } })
  | stuckReported (e : Time) (h : c.out.stuck = .timing e) :
      ChanWrite now enable c { c with out := { c.out with stuck := .reported } }
  | feedback (released : Bool) : ChanWrite now enable c (feedbackChan now released c)
  | feedbackLevel (released : Bool) : ChanWrite now enable c { c with out := { c.out with bfb := released } }
  | brakeReleased (h : c.state = .starting) (ht : c.out.torqueTimer ≠ none) :
      ChanWrite now enable c (chanReleaseBrake now c)
  | torqueEnded : ChanWrite now enable c { c with out := { c.out with torqueTimer := none } }
  | brakeEnded : ChanWrite now enable c { c with out := { c.out with brakeTimer := none } }
  | confirmEnded : ChanWrite now enable c { c with out := { c.out with confirmTimer := none } }
  | confirmArmed (h : c.state = .faulted) :
      ChanWrite now enable c
        { c with out := { c.out with confirmTimer := none }, pos := { c.pos with slipArmed := true } }
  | confirmDone : ChanWrite now enable c (chanFinishStop now { c with out := { c.out with confirmTimer := none } })
  | lineDropped (h : c.out.stopHoldTimer ≠ none) :
      ChanWrite now enable c
        (chanFinishStop now { c with out := { c.out with raise := false, lower := false, stopHoldTimer := none } })
  | dwellEnded : ChanWrite now enable c { c with out := { c.out with dwellTimer := none } }
  | period : ChanWrite now enable c (periodStarts now c)
  | encoder (u : PosUnit) (ha : u.slipArmed = c.pos.slipArmed) (hb : u.bound = c.pos.bound) :
      ChanWrite now enable c { c with pos := u }
  | counted (x : Nat) (h : c.position ≤ 65535 → x ≤ 65535) :
      ChanWrite now enable c { c with position := x, pos := { c.pos with bound := .none } }
  | saturated (d : Dir) (h : pastBound d c.position = true) :
      ChanWrite now enable c { c with pos := { c.pos with bound := boundOf d } }
  | unreferenced : ChanWrite now enable c { c with referenced := false }
  | reading (raw : Nat) : ChanWrite now enable c { c with load := takeReading enable raw c.load }
  | overCounted (n : Nat) (h : n ≤ 3) : ChanWrite now enable c { c with load := { c.load with overCount := n } }
  | underCounted (n : Nat) (h : n ≤ 3) : ChanWrite now enable c { c with load := { c.load with underCount := n } }
  | calibrated (zeroPoint gain : Nat) : ChanWrite now enable c (storeCal enable zeroPoint gain c)
  | enveloped (lo hi : Nat) : ChanWrite now enable c (storeEnvelope lo hi c)
  | limited (side : Side) (v : Nat) (b : Chan) (h : writeLimit side v c = some b) : ChanWrite now enable c b
  | positioned (x : Nat) (h : x ≤ 65535) : ChanWrite now enable c (placed x c)
  | configured (f : ChanConfig) (hg : c.group = none) (hs : c.state = .parked ∨ c.state = .off) :
      ChanWrite now enable c (configured now f c)
  | faultsCleared : ChanWrite now enable c (chanClearFaults now enable c)

/-- The record of a channel with its holder and its group written. -/
def withAuthority (h : Holder) (k : Option GroupId) (b : Chan) : Chan := { b with holder := h, group := k }

/-- `s` with the holder and the group of every channel written, and with these group records. -/
def State.reheld (s : State) (held : Channel → Holder) (grouped : Channel → Option GroupId) (gs : Groups) : State :=
  { s with chans := s.chans.mapIdx fun i => withAuthority (held i) (grouped i), groups := gs }

/-- A console group's record emptied by DISBAND, RESET_GROUP or RESTART (R106, R121, R177). -/
def GroupCleared (r q : Group) : Prop :=
  r.state.inMove = false ∧ ∃ st queue pr, (st = .idle ∨ st = .paused ∧ queue ≠ []) ∧ (queue = [] ∨ queue = r.queue) ∧
    (pr = r.prof ∨ pr = State.resetProfile) ∧ q = { r with state := st, queue := queue, trip := none, prof := pr }

/-- The drive supply's lines and timers stand as its state requires. -/
abbrev SupplySound (u : Supply) : Prop :=
  (u.mains = true ↔ u.state = .closing ∨ u.state = .settling ∨ u.state = .on) ∧
  (u.closingTimer ≠ none ↔ u.state = .closing) ∧ (u.settlingTimer ≠ none ↔ u.state = .settling)

/-- The low timer runs exactly in DIP. -/
abbrev LowTimerSound (st : StopUnit) : Prop := st.lowTimer ≠ none ↔ st.monitor = .dip

/-- What one act of a command does to the part. -/
inductive Act (s : State) : State → Prop
  | move (t : State) (h : Move s t) : Act s t
  | write (cs : Chans Chan)
      (h : ∀ i, cs.get i = s.chan i ∨ ChanWrite s.timebase s.settings.enable (s.chan i) (cs.get i)) :
      Act s { s with chans := cs }
  | assigned (i : Channel) (new : Option LoadInput) (h : new.any (inputElsewhere s i) = false) :
      Act s (assignInput i new s)
  | enabled (new : EightSet) : Act s (storeEnable new s)
  | set (v : Settings) (h : v.enable = s.settings.enable) : Act s { s with settings := v }.retrip
  | cleared (gs : Groups) (h : ∀ n, gs.get (.console n) = s.grp (.console n) ∨
        GroupCleared (s.grp (.console n)) (gs.get (.console n))) (hp : gs.get .pendant = s.grp .pendant) :
      Act s { s with groups := gs }.retrip
  | owners (held : Channel → Holder) (grouped : Channel → Option GroupId) (gs : Groups)
      (hg : ∀ g, gs.get g = { s.grp g with owner := (gs.get g).owner }) (hp : gs.get .pendant = s.grp .pendant)
      (ha : AuthorityLaw s → AuthorityLaw (s.reheld held grouped gs)) : Act s (s.reheld held grouped gs)
  | inputs (a : Arbiter) (h : a.links = s.arb.links) : Act s { s with arb := a }
  | linked (c : Console) (l : Link) (h : l.timer ≠ none ↔ l.state = .active) : Act s (s.setLink c l)
  | boxed (c : Console) (pending mask : NoticeSet) : Act s (s.setBox c (noticeBox pending mask))
  | supplied (u : Supply) (h : SupplySound s.supply → SupplySound u)
      (hr : u.state = .on ∨ s.supply.state ≠ .on ∨ NothingRuns s) : Act s { s with supply := u }
  | watched (st : StopUnit) (he : st.estop = s.stops.estop) (hm : st.monitor = .low ↔ s.stops.monitor = .low)
      (ht : st.tripout = s.stops.tripout) (hl : LowTimerSound s.stops → LowTimerSound st) : Act s { s with stops := st }
  | eased (st : StopUnit) (he : s.stops.estop = .clear → st.estop = .clear)
      (hm : s.stops.monitor ≠ .low → st.monitor ≠ .low) (hl : LowTimerSound s.stops → LowTimerSound st) :
      Act s { s with stops := st }.retrip
  | halted (st : StopUnit) (t : State) (hl : LowTimerSound s.stops → LowTimerSound st) (h : Moves { s with stops := st } t)
      (hr : NothingRuns t) : Act s t.retrip
  | unpowered (u : Supply) (t : State) (hu : SupplySound s.supply → SupplySound u) (h : Moves { s with supply := u } t)
      (hr : NothingRuns t) : Act s t
  | rest (sc : Option Conversion) (po : ByConsole Receiver) (ti : Time) (fl fr : Nat) :
      Act s { s with scanner := sc, ports := po, timebase := ti, flash := fl, freeCount := fr }
  | reset (pins : ResetPins) : Act s (powerOnReset pins s)

/-- A chain of acts. -/
abbrev Acts (s t : State) : Prop := ReflTransGen Act s t

variable {s t u : State} {i : Channel} {g : GroupId} {c : Console}

/-- A chain of moves is a chain of acts. -/
theorem acts_of_moves (h : Moves s t) : Acts s t := by
  induction h with
  | refl => exact .refl
  | tail _ m ih => exact ih.tail (.move _ m)

theorem Acts.one (h : Act s t) : Acts s t := .single h

/-- What every act keeps, every chain of acts keeps. -/
theorem Acts.induct {P : State → Prop} (h : Acts s t) (hs : P s) (keep : ∀ s t, Act s t → P s → P t) : P t := by
  induction h with
  | refl => exact hs
  | tail _ m ih => exact keep _ _ m ih

/-- The write of one channel record. -/
theorem Acts.write {b : Chan} (h : ChanWrite s.timebase s.settings.enable (s.chan i) b) : Acts s (s.setChan i b) := by
  refine .one (.write _ fun j => ?_)
  by_cases hj : j = i
  · subst hj; simpa using .inr h
  · left; simp [hj, State.chan]

theorem Acts.rest (sc : Option Conversion) (po : ByConsole Receiver) :
    Acts s { s with scanner := sc, ports := po } := .one (.rest sc po s.timebase s.flash s.freeCount)

theorem Acts.foldl {α : Type} {f : State → α → State} (h : ∀ s a, Acts s (f s a)) (l : List α) (s : State) :
    Acts s (l.foldl f s) := by
  induction l generalizing s with
  | nil => exact .refl
  | cons a l ih => exact (h s a).trans (ih (f s a))

/-! ### The lines and sequence timers of a channel -/

theorem initialSettle_acts (thr ulim llim : EightSet) (s : State) : Acts s (initialSettle thr ulim llim s) := by
  unfold initialSettle
  split
  · exact .refl
  · refine (Acts.one (.inputs { s.arb with settled := true } rfl)).trans (Acts.one (.write _ fun i => .inr ?_))
    rw [Chans.get_mapIdx]
    exact .conditions _ _ _

theorem thermalTo_acts (i : Channel) (isOpen : Bool) (s : State) : Acts s (thermalTo i isOpen s) := by
  have written : Acts s (s.setChan i { s.chan i with thermal := isOpen }) := .write (.conditions _ _ _)
  unfold thermalTo
  dsimp only
  split_ifs
  · exact .refl
  · exact written.trans (acts_of_moves (Moves.raised _))
  · exact written

theorem switchTo_acts (i : Channel) (side : Side) (isOpen : Bool) (s : State) : Acts s (switchTo i side isOpen s) := by
  have written : Acts s (s.setChan i (setSwitch side isOpen (s.chan i))) := by
    cases side <;> exact .write (.conditions _ _ _)
  unfold switchTo
  dsimp only
  split_ifs
  · exact .refl
  · exact written.trans (acts_of_moves ((stopTold_moves _ _ _).trans ((Moves.raised _).trans (tripGroupOf_moves _ _ _))))
  · exact written

theorem currentTo_acts (i : Channel) (active : Bool) (s : State) : Acts s (currentTo i active s) :=
  .write (.current active)

theorem stuckTimeout_acts (i : Channel) (s : State) : Acts s (stuckTimeout i s) := by
  unfold stuckTimeout
  split
  next e h => exact (Acts.write (.stuckReported e h)).trans (acts_of_moves (faultReport_moves _ _ _))
  · exact .refl
  · exact .refl

/-- In STARTING a change of the feedback of the brake is held and not acted on (R24, R28). -/
theorem feedbackChan_of_starting {b : Chan} (now : Time) (released : Bool) (h : b.state = .starting) :
    feedbackChan now released b = { b with out := { b.out with bfb := released } } := by
  simp [feedbackChan, h]

theorem feedbackTo_acts (i : Channel) (released : Bool) (s : State) : Acts s (feedbackTo i released s) := by
  have written : Acts s (s.setChan i (feedbackChan s.timebase released (s.chan i))) := .write (.feedback released)
  unfold feedbackTo
  dsimp only
  split
  · split
    next h =>
      obtain ⟨-, hs, hb⟩ := h
      refine written.trans (acts_of_moves (startCompletion_moves ?_ ?_))
      · simp [feedbackChan_of_starting _ _ hs, hs]
      · simpa [feedbackChan_of_starting _ _ hs, Option.isSome_iff_ne_none] using hb
    next => exact written.trans (acts_of_moves (afterPark_moves _ _ _))
  · exact .write (.feedbackLevel released)

theorem torqueExpired_acts (i : Channel) (s : State) : Acts s (torqueExpired i s) := by
  unfold torqueExpired
  dsimp only
  split
  next h =>
    obtain ⟨hs, ht⟩ := h
    have released : Acts s (s.setChan i (chanReleaseBrake s.timebase (s.chan i))) :=
      .write (.brakeReleased hs (Option.isSome_iff_ne_none.mp ht))
    split
    · split
      · exact released.trans (acts_of_moves (startCompletion_moves (by simpa [chanReleaseBrake] using hs)
          (by simp [chanReleaseBrake, startMs])))
      · exact released
    · exact (Acts.write .torqueEnded).trans (acts_of_moves (faultReport_moves _ _ _))
  next => exact .refl

/-- Entry to RUNNING stops the brake timer, whether it was stopped before or not. -/
theorem chanEnterRunning_brakeTimer (now : Time) (b : Chan) :
    chanEnterRunning now { b with out := { b.out with brakeTimer := none } } = chanEnterRunning now b := rfl

theorem brakeExpired_acts (i : Channel) (s : State) : Acts s (brakeExpired i s) := by
  unfold brakeExpired
  dsimp only
  split
  next h =>
    obtain ⟨hs, hb⟩ := h
    split
    · exact (Acts.write .brakeEnded).trans (acts_of_moves (faultReport_moves _ _ _))
    · have completed := startCompletion_moves (i := i) hs (Option.isSome_iff_ne_none.mp hb)
      have same : startCompletion i
          (s.setChan i { s.chan i with out := { (s.chan i).out with brakeTimer := none } }) = startCompletion i s := by
        simp [startCompletion, chanEnterRunning_brakeTimer]
      rw [same]
      exact acts_of_moves completed
  next => exact .refl

theorem confirmExpired_acts (i : Channel) (s : State) : Acts s (confirmExpired i s) := by
  unfold confirmExpired
  dsimp only
  split
  · split
    · exact (Acts.write .confirmEnded).trans (acts_of_moves (faultReport_moves _ _ _))
    · split
      next h => exact .write (.confirmArmed h)
      next => exact (Acts.write .confirmDone).trans (acts_of_moves (afterPark_moves _ _ _))
  · exact .refl

theorem holdLineExpired_acts (i : Channel) (s : State) : Acts s (holdLineExpired i s) := by
  unfold holdLineExpired
  dsimp only
  split
  next h => exact (Acts.write (.lineDropped (Option.isSome_iff_ne_none.mp h))).trans (acts_of_moves (afterPark_moves _ _ _))
  next => exact .refl

theorem dwellExpired_acts (i : Channel) (s : State) : Acts s (dwellExpired i s) := by
  unfold dwellExpired
  split
  · exact (Acts.write .dwellEnded).trans (acts_of_moves (retestPending_moves _ _))
  · exact .refl

/-! ### The position unit -/

theorem loseReference_acts (i : Channel) (s : State) : Acts s (loseReference i s) := by
  unfold loseReference
  split
  · exact (Acts.write .unreferenced).trans (acts_of_moves (Moves.raised _))
  · exact .refl

/-- A write of the position unit's items that leaves the slip check's arming and the bound flag. -/
theorem Acts.encoder {v : PosUnit} (ha : v.slipArmed = (s.chan i).pos.slipArmed) (hb : v.bound = (s.chan i).pos.bound) :
    Acts s (s.setChan i { s.chan i with pos := v }) := .write (.encoder v ha hb)

theorem captureEdge_kept (now : Time) (d : Dir) (v : PosUnit) :
    (captureEdge now d v).slipArmed = v.slipArmed ∧ (captureEdge now d v).bound = v.bound := by
  unfold captureEdge
  dsimp only
  split <;> exact ⟨rfl, rfl⟩

theorem edgePosition_acts (i : Channel) (d : Dir) (s : State) : Acts s (edgePosition i d s) := by
  unfold edgePosition
  dsimp only
  split
  next h =>
    split
    · exact .refl
    · exact (Acts.write (.saturated d h)).trans ((loseReference_acts _ _).trans (acts_of_moves (faultReport_moves _ _ _)))
  next h =>
    refine Acts.write (.counted _ fun hp => ?_)
    cases d <;> simp [pastBound] at h ⊢ <;> omega

end Sys2Proof.Machine
end

section
/-! PROOFS. The commands of the position unit, of the load unit and of the drive supply as chains of acts; and that a stop of every channel,
where nothing may start, leaves nothing that starts or runs. -/

namespace Sys2Proof.Machine

open Sys2Proof.Safety Relation

variable {s t u : State} {i : Channel} {g : GroupId} {c : Console}

theorem faultReport_acts (i : Channel) (k : FaultKind) (s : State) : Acts s (faultReport i k s) :=
  acts_of_moves (faultReport_moves i k s)

theorem edgeSlip_acts (i : Channel) (d : Dir) (s : State) : Acts s (edgeSlip i d s) := by
  unfold edgeSlip
  dsimp only
  split
  · split
    · exact (Acts.encoder (by rfl) (by rfl)).trans (faultReport_acts _ _ _)
    · exact Acts.encoder rfl rfl
  · exact .refl

theorem edgeWrong_acts (i : Channel) (d : Dir) (s : State) : Acts s (edgeWrong i d s) := by
  unfold edgeWrong
  dsimp only
  split
  · split
    · exact (Acts.encoder (by rfl) (by rfl)).trans (faultReport_acts _ _ _)
    · exact Acts.encoder rfl rfl
  · exact .refl

theorem edgeMotion_acts (i : Channel) (s : State) : Acts s (edgeMotion i s) := by
  unfold edgeMotion State.modChan
  dsimp only
  split
  · exact Acts.encoder rfl rfl
  · rw [State.setChan_chan]

theorem legalEdge_acts (i : Channel) (d : Dir) (s : State) : Acts s (legalEdge i d s) := by
  have captured (s : State) :
      Acts s (s.modChan i fun c => { c with pos := captureEdge s.timebase d c.pos }) :=
    Acts.encoder (captureEdge_kept _ _ _).1 (captureEdge_kept _ _ _).2
  exact (edgePosition_acts i d s).trans ((captured _).trans
    ((edgeSlip_acts i d _).trans ((edgeWrong_acts i d _).trans (edgeMotion_acts i _))))

theorem illegalEdge_acts (i : Channel) (s : State) : Acts s (illegalEdge i s) :=
  (loseReference_acts i s).trans ((Acts.encoder (by rfl) (by rfl)).trans (faultReport_acts _ _ _))

theorem encoderTo_acts (i : Channel) (seen : EncPair) (s : State) : Acts s (encoderTo i seen s) := by
  have held : Acts s (s.setChan i { s.chan i with pos := { (s.chan i).pos with held := seen } }) := Acts.encoder rfl rfl
  unfold encoderTo
  dsimp only
  split
  · exact held
  · split
    · exact held
    · exact held.trans (legalEdge_acts _ _ _)
    · exact held.trans (illegalEdge_acts _ _)

theorem speedExpired_acts (i : Channel) (s : State) : Acts s (speedExpired i s) := by
  unfold speedExpired
  split
  · exact Acts.encoder rfl rfl
  · exact .refl

theorem motionExpired_acts (i : Channel) (s : State) : Acts s (motionExpired i s) := by
  have stopped : Acts s (s.setChan i { s.chan i with pos := { (s.chan i).pos with noMotion := none } }) :=
    Acts.encoder rfl rfl
  unfold motionExpired
  dsimp only
  split
  · split
    · exact stopped.trans (faultReport_acts _ _ _)
    · exact stopped
  · exact .refl

/-! ### The load unit -/

theorem overloadCheck_acts (i : Channel) (s : State) : Acts s (overloadCheck i s) := by
  unfold overloadCheck
  dsimp only
  split
  · exact (Acts.write (.overCounted _ (checkCount_le _ _))).trans (faultReport_acts _ _ _)
  · exact Acts.write (.overCounted _ (checkCount_le _ _))

theorem underloadCheck_acts (i : Channel) (s : State) : Acts s (underloadCheck i s) := by
  unfold underloadCheck
  dsimp only
  split
  · exact (Acts.write (.underCounted _ (checkCount_le _ _))).trans (faultReport_acts _ _ _)
  · exact Acts.write (.underCounted _ (checkCount_le _ _))

theorem takeResult_acts (i : Channel) (raw : Nat) (s : State) : Acts s (takeResult i raw s) := by
  have read : Acts s (s.setChan i { s.chan i with load := takeReading s.settings.enable raw (s.chan i).load }) :=
    Acts.write (.reading raw)
  unfold takeResult
  dsimp only
  split_ifs
  · exact read
  · exact read
  · exact read.trans (faultReport_acts _ _ _)
  · exact read.trans ((overloadCheck_acts _ _).trans (underloadCheck_acts _ _))

theorem Acts.scanned (sc : Option Conversion) : Acts s { s with scanner := sc } := Acts.rest sc s.ports

theorem conversionDone_acts (raw : Nat) (s : State) : Acts s (conversionDone raw s) := by
  unfold conversionDone
  split
  · exact .refl
  · dsimp only
    split
    · exact Acts.scanned _
    · split
      · exact Acts.scanned _
      · exact (takeResult_acts _ _ _).trans (Acts.scanned _)

/-! ### The drive supply -/

theorem Acts.raised (n : Notice) : Acts s (s.raise n) := acts_of_moves (Moves.raised n)

theorem Acts.retripped : Acts s s.retrip := acts_of_moves Moves.retripped

/-- A change of the drive supply that does not leave ON. -/
theorem supplyTo_acts {f : Supply → Supply} (h : SupplySound s.supply → SupplySound (f s.supply))
    (hr : (f s.supply).state = .on ∨ s.supply.state ≠ .on ∨ NothingRuns s) : Acts s (supplyTo f s) :=
  (Acts.one (.supplied _ h hr)).trans (Acts.raised _)

theorem supplySettling_acts (h : s.supply.state = .closing) : Acts s (supplySettling s) :=
  supplyTo_acts (by simp +contextual [SupplySound, h, startMs]) (.inr (.inl (by simp [h])))

theorem supplyFailed_acts (h : s.supply.state ≠ .on) : Acts s (supplyFailed s) :=
  supplyTo_acts (by simp [SupplySound]) (.inr (.inl h))

theorem supplyOff_acts (h : s.supply.state ≠ .on ∨ NothingRuns s) : Acts s (supplyOff s) :=
  supplyTo_acts (by simp [SupplySound]) (.inr h)

theorem supplyClosing_acts (h : s.supply.state ≠ .on) : Acts s (supplyClosing s) := by
  have closing : Acts s (supplyTo (fun u => { u with
      state := .closing, mains := true, closingTimer := startMs s.timebase 500, settlingTimer := none }) s) :=
    supplyTo_acts (by simp [SupplySound, startMs]) (.inr (.inl h))
  unfold supplyClosing
  dsimp only
  split
  · exact closing.trans (supplySettling_acts rfl)
  · exact closing

/-! ### What chains of moves keep, and what a stop of every channel leaves -/

/-- A move writes channel and group records, TRIPOUT and the pending sets alone. -/
theorem Move.keepsPart (h : Move s t) : KeepsPart s t := by
  cases h with
  | run i c h => exact keepsPart_of_records _ _
  | group g r h => exact keepsPart_of_records _ _
  | trip g cause ch h => exact keepsPart_trans (keepsPart_of_records _ _) keepsPart_retrip
  | raised n => exact keepsPart_raise n
  | retripped => exact keepsPart_retrip
  | taken i hh ho hk => exact keepsPart_of_records _ _
  | given i hh => exact keepsPart_of_records _ _

theorem Moves.keepsPart (h : Moves s t) : KeepsPart s t :=
  h.induct (P := KeepsPart s) (keepsPart_of_records s.chans s.groups) fun _ _ m k => keepsPart_trans k m.keepsPart

/-- What forbids a start is not touched by the moves. -/
theorem mayStart_of_keepsPart (h : KeepsPart s t) : MayStart t ↔ MayStart s := by
  obtain ⟨-, hsu, -, -, hst, -⟩ := h
  unfold MayStart
  rw [hsu, hst]

/-- The channel is STARTING or RUNNING. -/
abbrev ChanRuns (c : Chan) : Prop := c.state = .starting ∨ c.state = .running

/-- Where nothing may start, only a channel that starts or runs is made to. -/
theorem RunMove.runs {now : Time} {may : Prop} {b d : Chan} (h : RunMove now may b d) (hm : ¬may) (hr : ChanRuns d) :
    ChanRuns b := by
  cases h with
  | dropped => exact hr
  | pended d h => exact hr
  | started d hmay h => exact absurd hmay hm
  | completed h hb => exact .inl h
  | stopped form => exact absurd hr (by simpa using chanStop_stops now b form)
  | faulted k =>
    by_cases ho : b.state = .off
    · have same : chanFault now k b = b := by simp [chanFault, ho]
      rwa [same] at hr
    · exact absurd hr (by simp [ChanRuns, chanFault_state now b k ho])
  | duty d hd hk hb => exact .inr hb

/-- Where nothing may start, only a channel that starts or runs is made to by a chain of moves. -/
theorem Moves.runs (h : Moves s t) (hm : ¬MayStart s) (j : Channel) (hr : ChanRuns (t.chan j)) : ChanRuns (s.chan j) := by
  refine (h.induct (P := fun u => ¬MayStart u ∧ (ChanRuns (u.chan j) → ChanRuns (s.chan j))) ⟨hm, id⟩ ?_).2 hr
  rintro u v m ⟨hu, back⟩
  refine ⟨(mayStart_of_keepsPart m.keepsPart).not.mpr hu, fun hv => back ?_⟩
  cases m with
  | run i c h =>
    by_cases hj : j = i
    · subst hj
      exact h.runs hu (by simpa using hv)
    · simpa [hj] using hv
  | group g r h => exact hv
  | trip g cause ch h => exact hv
  | raised n => exact hv
  | retripped => exact hv
  | taken i hh ho hk =>
    by_cases hj : j = i
    · subst hj; simpa using hv
    · simpa [hj] using hv
  | given i hh =>
    by_cases hj : j = i
    · subst hj; simpa using hv
    · simpa [hj] using hv

/-- Where nothing may start, a channel sent a stop by R7 neither starts nor runs, whatever its group makes of it. -/
theorem stopTold_not_runs (form : StopForm) (hm : ¬MayStart s) (i : Channel) : ¬ChanRuns ((stopTold form s i).chan i) := by
  intro hr
  have told : Moves (s.modChan i (chanStop s.timebase form)) (stopTold form s i) := afterPark_moves _ _ _
  have stopped := told.runs hm i hr
  simp only [State.modChan, State.chan_setChan, if_pos] at stopped
  exact absurd stopped (by simpa using chanStop_stops s.timebase (s.chan i) form)

/-- After the QUICK stop of these channels none of them starts or runs, where nothing may start. -/
theorem foldl_stopTold_not_runs (form : StopForm) (l : List Channel) (s : State) (hm : ¬MayStart s) :
    ∀ j ∈ l, ¬ChanRuns ((l.foldl (stopTold form) s).chan j) := by
  induction l generalizing s with
  | nil => simp
  | cons i l ih =>
    have hm' : ¬MayStart (stopTold form s i) := (mayStart_of_keepsPart (stopTold_moves form s i).keepsPart).not.mpr hm
    intro j hj hr
    rcases List.mem_cons.mp hj with rfl | hj
    · exact stopTold_not_runs form hm j ((Moves.foldl (stopTold_moves form) l (stopTold form s j)).runs hm' j hr)
    · exact ih _ hm' j hj hr

/-- After a QUICK stop of every channel nothing starts or runs, where nothing may start (R44, R151, R158). -/
theorem nothingRuns_quickStopAll (hm : ¬MayStart s) : NothingRuns (quickStopAll s) := fun j => by
  have stopped := foldl_stopTold_not_runs .quick channels s hm j (mem_channels j)
  exact not_or.mp stopped

theorem Moves.nothingRuns (h : Moves s t) (hm : ¬MayStart s) (hn : NothingRuns s) : NothingRuns t := fun j =>
  not_or.mp fun hr => (not_or.mpr (hn j)) (h.runs hm j hr)

/-! ### The halts: loss of the supply, E-stop, control low -/

theorem supplyLost_acts (s : State) : Acts s (supplyLost s) := by
  have stopped : ¬MayStart (supplyFailed s) := by simp [supplyFailed, supplyTo]
  have trips := tripAll_moves .supplyLost (quickStopAll (supplyFailed s))
  have quick := quickStopAll_moves (supplyFailed s)
  refine Acts.one (.unpowered _ _ ?_ ((Moves.raised .supply).trans (quick.trans trips))
    (trips.nothingRuns ?_ (nothingRuns_quickStopAll stopped)))
  · simp [SupplySound]
  · exact (mayStart_of_keepsPart quick.keepsPart).not.mpr stopped

end Sys2Proof.Machine
end

section
/-! PROOFS. The commands of the drive supply, of the stop and trip unit, of the pendant's lines and of the console links as chains of acts. -/

namespace Sys2Proof.Machine

open Sys2Proof.Safety Relation

variable {s t u : State} {i : Channel} {g : GroupId} {c : Console}

theorem mainsfbTo_acts (closed : Bool) (s : State) : Acts s (mainsfbTo closed s) := by
  have seen : Acts s { s with supply := { s.supply with mainsfb := closed } } :=
    Acts.one (.supplied _ id (by by_cases h : s.supply.state = .on <;> simp [h]))
  unfold mainsfbTo
  dsimp only
  split
  · exact .refl
  · split
    next h =>
      split
      · exact seen.trans (supplySettling_acts h)
      · exact seen
    next h =>
      split
      · exact seen
      · exact seen.trans (supplyFailed_acts (by simp [h]))
    next h =>
      split
      · exact seen
      · exact seen.trans (supplyLost_acts _)
    · exact seen
    · exact seen

theorem closingExpired_acts (s : State) : Acts s (closingExpired s) := by
  unfold closingExpired
  split
  next h => exact supplyFailed_acts (by simp [h.1])
  next => exact .refl

theorem settlingExpired_acts (s : State) : Acts s (settlingExpired s) := by
  unfold settlingExpired
  dsimp only
  split
  next h =>
    have settled : Acts s (supplyTo (fun u => { u with state := .on, settlingTimer := none }) s) :=
      supplyTo_acts (by simp +contextual [SupplySound, h.1]) (.inl rfl)
    exact settled.trans (Acts.foldl (fun s i => acts_of_moves (retestPending_moves i s)) _ _)
  next => exact .refl

theorem estopOpens_acts (cause : EstopCause) (s : State) : Acts s (estopOpens cause s) := by
  unfold estopOpens
  split
  · exact .refl
  · dsimp only
    set u : State := { s with stops := { s.stops with estop := .active, cause := cause } } with hu
    have stopped : ¬MayStart u := by simp [hu]
    have quick := quickStopAll_moves u
    have trips := tripAll_moves .estop (quickStopAll u)
    exact Acts.one (.halted u.stops _ id (quick.trans (trips.trans (Moves.raised .estop)))
      (trips.nothingRuns ((mayStart_of_keepsPart quick.keepsPart).not.mpr stopped) (nothingRuns_quickStopAll stopped)))

/-- A change of the stop unit that forbids no start, with a notice told and TRIPOUT re-evaluated. -/
theorem eased_acts (st : StopUnit) (n : Notice) (he : s.stops.estop = .clear → st.estop = .clear)
    (hm : s.stops.monitor ≠ .low → st.monitor ≠ .low) (hl : LowTimerSound s.stops → LowTimerSound st) :
    Acts s (State.raise { s with stops := st } n).retrip :=
  (Acts.one (.eased st he hm hl)).trans ((Acts.raised n).trans Acts.retripped)

theorem estopCloses_acts (s : State) : Acts s (estopCloses s) := by
  unfold estopCloses
  split
  next h => exact eased_acts _ _ (by simp [h.1]) id id
  next => exact .refl

/-- A change of the stop unit that neither the starts nor TRIPOUT read. -/
theorem watched_acts (st : StopUnit) (he : st.estop = s.stops.estop) (hm : st.monitor = s.stops.monitor)
    (ht : st.tripout = s.stops.tripout) (hl : st.lowTimer = s.stops.lowTimer) : Acts s { s with stops := st } :=
  Acts.one (.watched st he (by rw [hm]) ht (by unfold LowTimerSound; rw [hm, hl]; exact id))

theorem estinTo_acts (closed : Bool) (s : State) : Acts s (estinTo closed s) := by
  have seen : Acts s { s with stops := { s.stops with estinClosed := closed } } := watched_acts _ rfl rfl rfl rfl
  unfold estinTo
  dsimp only
  split_ifs
  · exact .refl
  · exact seen.trans (estopCloses_acts _)
  · exact seen.trans (estopOpens_acts _ _)

theorem estinSettle_acts (closed : Bool) (s : State) : Acts s (estinSettle closed s) := by
  have seen : Acts s { s with stops := { s.stops with estinSettled := true, estinClosed := closed } } :=
    watched_acts _ rfl rfl rfl rfl
  unfold estinSettle
  dsimp only
  split
  · exact .refl
  · split
    next h => exact seen.trans (Acts.one (.eased _ (by simp [h.2]) id id))
    next => exact seen

theorem Acts.inputs (a : Arbiter) (h : a.links = s.arb.links) : Acts s { s with arb := a } := Acts.one (.inputs a h)

theorem pstopTo_acts (closed : Bool) (s : State) : Acts s (pstopTo closed s) := by
  have seen : Acts s { s with arb := { s.arb with pstopClosed := closed } } := Acts.inputs _ rfl
  unfold pstopTo
  dsimp only
  split_ifs
  · exact .refl
  · exact seen.trans (estopCloses_acts _)
  · exact seen.trans (estopOpens_acts _ _)
  · exact seen

theorem rstinTo_acts (asserted : Bool) (s : State) : Acts s (rstinTo asserted s) := by
  have seen : Acts s { s with stops := { s.stops with rstin := asserted } } := watched_acts _ rfl rfl rfl rfl
  unfold rstinTo
  dsimp only
  split_ifs
  · exact .refl
  · exact seen.trans (acts_of_moves (Moves.foldl (fun s g => controlledStop_moves g s) _ _))
  · exact seen

/-- What the beginning of control low makes of the supply, the notices and TRIPOUT, after its stops and trips (R158). -/
def lowTold (t : State) : State := (State.raise (if t.supply.state = .off then t else supplyOff t) .supply).retrip

/-- TRIPOUT re-evaluated before it is re-evaluated again does not matter. -/
theorem lowTold_retrip (t : State) : lowTold t.retrip = lowTold t := by
  by_cases h : t.supply.state = .off
  · have h' : t.retrip.supply.state = .off := h
    rw [lowTold, lowTold, if_pos h, if_pos h']
    rfl
  · have h' : ¬t.retrip.supply.state = .off := h
    rw [lowTold, lowTold, if_neg h, if_neg h']
    rfl

theorem lowTold_acts (h : NothingRuns s) : Acts s (lowTold s) := by
  unfold lowTold
  split
  · exact (Acts.raised _).trans Acts.retripped
  · exact (supplyOff_acts (.inr h)).trans ((Acts.raised _).trans Acts.retripped)

theorem controlLowBegins_acts (s : State) : Acts s (controlLowBegins s) := by
  set u : State := { s with stops := { s.stops with monitor := .low, lowTimer := none } } with hu
  have stopped : ¬MayStart u := by simp [hu]
  have quick := quickStopAll_moves u
  have trips := tripAll_moves .supplyLow (quickStopAll u)
  have nothing := trips.nothingRuns ((mayStart_of_keepsPart quick.keepsPart).not.mpr stopped) (nothingRuns_quickStopAll stopped)
  have told : controlLowBegins s = lowTold (tripAll .supplyLow (quickStopAll u)) := rfl
  rw [told, ← lowTold_retrip]
  exact (Acts.one (.halted u.stops _ (by simp [LowTimerSound, hu]) (quick.trans trips) nothing)).trans
    (lowTold_acts nothing)

theorem monitorCompare_acts (s : State) : Acts s (monitorCompare s) := by
  unfold monitorCompare
  dsimp only
  split
  next h =>
    split
    · exact Acts.one (.watched _ rfl (by simp [h]) rfl (by simp [LowTimerSound, startMs]))
    · exact .refl
  next h =>
    split
    · exact Acts.one (.watched _ rfl (by simp [h]) rfl (by simp [LowTimerSound]))
    · exact .refl
  next h =>
    split
    · exact eased_acts _ _ id (by simp) (by simp [LowTimerSound])
    · exact .refl

theorem vctlTo_acts (mv : Nat) (s : State) : Acts s (vctlTo mv s) :=
  (watched_acts { s.stops with vctl := mv } rfl rfl rfl rfl).trans (monitorCompare_acts _)

theorem lowExpired_acts (s : State) : Acts s (lowExpired s) := by
  unfold lowExpired
  split
  · exact controlLowBegins_acts s
  · exact .refl

/-! ### The pendant's lines and the console links -/

theorem controlledStop_acts (g : GroupId) (s : State) : Acts s (controlledStop g s) :=
  acts_of_moves (controlledStop_moves g s)

theorem pendantEval_acts (s : State) : Acts s (pendantEval s) := acts_of_moves (pendantEval_moves s)

theorem pselTo_acts (i : Channel) (closed : Bool) (s : State) : Acts s (pselTo i closed s) := by
  have seen : Acts s { s with arb := { s.arb with psel := writeBit s.arb.psel i closed } } := Acts.inputs _ rfl
  unfold pselTo
  dsimp only
  split
  · exact .refl
  · refine seen.trans ?_
    split
    · exact pendantEval_acts _
    iterate 3
      split
      · exact controlledStop_acts _ _
      · exact .refl
    iterate 3 exact .refl

theorem presenceActs_acts (present : Bool) (s : State) : Acts s (presenceActs present s) := by
  unfold presenceActs
  split
  · exact pendantEval_acts _
  iterate 3
    split
    · exact .refl
    · exact controlledStop_acts _ _
  iterate 3 exact .refl

theorem ppresTo_acts (present : Bool) (s : State) : Acts s (ppresTo present s) := by
  unfold ppresTo
  split
  · exact .refl
  · refine (Acts.inputs { s.arb with ppres := present } rfl).trans ?_
    dsimp only
    have told (u : State) : Acts u (if s.arb.settled = true then u.raise .pendant else u) := by
      split
      · exact Acts.raised _
      · exact .refl
    have follows (u : State) : Acts u
        (if present = true then (if u.arb.pstopClosed = true then u else estopOpens .pendant u) else estopCloses u) := by
      split_ifs
      · exact .refl
      · exact estopOpens_acts _ _
      · exact estopCloses_acts _
    exact (told _).trans ((presenceActs_acts present _).trans (follows _))

theorem pendantLineTo_acts (line : PendantLine) (active : Bool) (s : State) : Acts s (pendantLineTo line active s) := by
  unfold pendantLineTo
  dsimp only
  split
  · exact .refl
  · refine (Acts.inputs (writeLine line active s.arb) (by cases line <;> rfl)).trans ?_
    split
    next h =>
      split
      · exact .refl
      · split
        · exact acts_of_moves (startJog_pendant_moves _ _ _ h)
        · exact .refl
    iterate 3
      split
      · exact controlledStop_acts _ _
      · exact .refl
    · split
      · exact acts_of_moves (pendantExit_moves _)
      · exact .refl
    · exact .refl
    · exact .refl

theorem raiseLink_acts (c : Console) (s : State) : Acts s (s.raiseLink c) := Acts.one (.boxed _ _ _)

theorem refreshLink_acts (c : Console) (s : State) : Acts s (refreshLink c s) := by
  have linked : Acts s (s.setLink c { state := .active, timer := startMs s.timebase s.settings.linkTimeout }) :=
    Acts.one (.linked c _ (by simp [startMs]))
  unfold refreshLink
  dsimp only
  split
  · exact linked
  · exact linked.trans (raiseLink_acts _ _)

theorem linkExpired_acts (c : Console) (s : State) : Acts s (linkExpired c s) := by
  unfold linkExpired
  dsimp only
  split
  · refine (Acts.one (.linked c { state := .lost, timer := none } (by simp))).trans
      ((raiseLink_acts c _).trans (Acts.foldl (fun s g => ?_) _ _))
    unfold stopOwned
    split
    · exact controlledStop_acts _ _
    · exact .refl
  · exact .refl

end Sys2Proof.Machine
end

section
/-! PROOFS. The requests as chains of acts: holders and groups, channels, console groups, the part settings. A GO starts its groups one after
the other, each still at rest when its turn comes. -/

namespace Sys2Proof.Machine

open Sys2Proof.Safety Relation

variable {s t u : State} {i : Channel} {g : GroupId} {c : Console}

/-! ### The holders and the groups -/

/-- A request whose rule is a chain of acts of the state that the refresh left. -/
abbrev Lawful (request : State → Taken) : Prop := ∀ s, Acts s (request s).1

theorem lawful_refuse (r : Result) : Lawful (refuse r) := fun _ => .refl

theorem withLength_lawful {n : Nat} {p : List Byte} {f : State → Taken} (h : Lawful f) : Lawful (withLength n p f) := by
  intro s
  unfold withLength
  split
  · exact h s
  · exact .refl

theorem withField_lawful {α : Type} {field : Option α} {f : α → State → Taken} (h : ∀ a, field = some a → Lawful (f a)) :
    Lawful (withField field f) := by
  intro s
  unfold withField
  cases field with
  | none => exact .refl
  | some a => exact h a rfl s

theorem asHeld_lawful {echo : Chan → List Byte} {f : State → Taken} (h : Lawful f) : Lawful (asHeld c i echo f) := by
  intro s
  unfold asHeld
  split
  · exact h s
  · exact .refl

theorem setHolders_eq (set : EightSet) (h : Holder) (s : State) : setHolders set h s =
    s.reheld (fun i => if inSet set i then h else (s.chan i).holder) (fun i => (s.chan i).group) s.groups := by
  unfold setHolders State.reheld
  congr 1
  refine Chans.ext_get fun i => ?_
  simp only [Chans.get_mapIdx]
  split <;> rfl

theorem writeMembers_eq (k : GroupId) (set : EightSet) (s : State) : writeMembers k set s =
    s.reheld (fun i => (s.chan i).holder)
      (fun i => if inSet set i then some k else if (s.chan i).group = some k then none else (s.chan i).group)
      s.groups := by
  unfold writeMembers State.reheld
  congr 1
  refine Chans.ext_get fun i => ?_
  simp only [Chans.get_mapIdx]
  split_ifs <;> simp_all [withAuthority, State.chan]

section Reheld

variable {held : Channel → Holder} {grouped : Channel → Option GroupId} {gs : Groups}

@[simp] theorem State.reheld_chan (i : Channel) :
    (s.reheld held grouped gs).chan i = withAuthority (held i) (grouped i) (s.chan i) := Chans.get_mapIdx _ _ _

/-- The authority law of a state whose holders, groups and owners have been written. -/
theorem authorityLaw_reheld
    (hcon : ∀ n i, grouped i = some (.console n) → held i = (gs.get (.console n)).owner ∧ held i ≠ .none)
    (hown : ∀ n, (gs.get (.console n)).owner ≠ .pendant)
    (hpen : ∀ i, grouped i = some .pendant ↔ held i = .pendant)
    (hoff : ∀ i, grouped i ≠ none → (s.chan i).state ≠ .off)
    (hkind : ∀ i j, grouped i ≠ none → grouped i = grouped j → (s.chan i).cfg.kind = (s.chan j).cfg.kind) :
    AuthorityLaw (s.reheld held grouped gs) := by
  simp only [AuthorityLaw, State.reheld_chan, withAuthority]
  refine ⟨fun n i hi => ?_, hown, hpen, hoff, hkind⟩
  obtain ⟨heq, hne⟩ := hcon n i hi
  exact ⟨heq, fun hf => hne (heq.trans hf)⟩

end Reheld

/-- The holder of the channels of a set, written where neither the old nor the new one is the pendant and none of them changes
within a group. -/
theorem setHolders_acts {set : EightSet} {h : Holder} (hp : h ≠ .pendant)
    (hb : ∀ i, inSet set i = true → (s.chan i).holder ≠ .pendant)
    (hg : ∀ i, inSet set i = true → (s.chan i).group = none ∨ (s.chan i).holder = h ∨ (s.chan i).holder = .none) :
    Acts s (setHolders set h s) := by
  rw [setHolders_eq]
  refine Acts.one (.owners _ _ _ (fun g => rfl) rfl fun ⟨hcon, hown, hpen, hoff, hkind⟩ => ?_)
  refine authorityLaw_reheld (fun n i hi => ?_) hown (fun i => ?_) hoff hkind
  · obtain ⟨heq, hne⟩ := hcon n i hi
    have hne' : (s.chan i).holder ≠ .none := heq ▸ hne
    split
    next hin =>
      rcases hg i hin with hnone | hsame | hfree
      · simp [hnone] at hi
      · exact hsame ▸ ⟨heq, hne'⟩
      · exact absurd hfree hne'
    next => exact ⟨heq, hne'⟩
  · split
    next hin => simp [hp, hpen, hb i hin]
    next => exact hpen i

theorem holder_console_ne_pendant (c : Console) : asHolder c ≠ .pendant := by simp [asHolder]

theorem selectChannels_lawful (c : Console) (set : EightSet) : Lawful (selectChannels c set) := by
  intro s
  unfold selectChannels
  split
  next h =>
    have free : ∀ i, inSet set i = true → (s.chan i).holder = .none ∨ (s.chan i).holder = asHolder c := by
      simpa [allIn_iff, holds] using h
    refine setHolders_acts (holder_console_ne_pendant c) (fun i hi => ?_) fun i hi => .inr (free i hi).symm
    rcases free i hi with hf | hf <;> simp [hf, asHolder]
  next => exact .refl

/-- The release of the channels of a set that one console holds and no group has. -/
theorem released_acts {set : EightSet} (hh : allIn set (holds c s) = true) (hg : ¬someGrouped set s = true) :
    Acts s (setHolders set .none s) := by
  rw [allIn_holds_iff] at hh
  rw [someGrouped_iff] at hg
  push Not at hg
  exact setHolders_acts (by simp) (fun i hi => by simp [show (s.chan i).holder = _ from hh i hi]) fun i hi => .inl (hg i hi)

theorem releaseChannels_lawful (c : Console) (set : EightSet) : Lawful (releaseChannels c set) := by
  intro s
  unfold releaseChannels
  split
  next hh =>
    split
    · exact .refl
    next hg => exact released_acts hh hg
  next => exact .refl

theorem forceChannels_lawful (c : Console) (set : EightSet) : Lawful (forceChannels c set) := by
  intro s
  unfold forceChannels
  split
  next hh =>
    split_ifs with hl hg
    · exact .refl
    · exact .refl
    · exact .refl
    · exact (released_acts hh hg).trans (Acts.raised _)
  next => exact .refl

/-- A change of the owner of a console group and of the holder of its members is one of authority alone. -/
theorem takeOver_acts (c : Console) (n : ConsoleGroup) (s : State) : Acts s (takeOver c n s) := by
  have taken : takeOver c n s = State.raise (s.reheld
      (fun i => if inSet (s.memberSet (.console n)) i then asHolder c else (s.chan i).holder) (fun i => (s.chan i).group)
      (s.groups.set (.console n) { s.grp (.console n) with owner := asHolder c })) .takeover := by
    rw [takeOver, setHolders_eq]
    rfl
  rw [taken]
  refine (Acts.one (.owners _ _ _ (fun g => ?_) (by simp [State.grp]) fun ⟨hcon, hown, hpen, hoff, hkind⟩ => ?_)).trans
    (Acts.raised _)
  · by_cases hg : g = .console n
    · subst hg; simp
    · simp [hg, State.grp]
  · have named (i : Channel) : inSet (s.memberSet (.console n)) i = decide ((s.chan i).group = some (.console n)) :=
      inSet_setOf _ i
    refine authorityLaw_reheld (fun m i hi => ?_) (fun m => ?_) (fun i => ?_) hoff hkind
    · by_cases hm : m = n
      · subst hm; simp [named, hi, asHolder]
      · obtain ⟨heq, hne⟩ := hcon m i hi
        have owner : (s.chan i).holder = (s.groups.get (.console m)).owner := heq
        have owned : (s.groups.get (.console m)).owner ≠ .none := hne
        simpa [named, hi, hm, owner] using owned
    · by_cases hm : m = n
      · subst hm; simp [asHolder]
      · have owned : (s.groups.get (.console m)).owner ≠ .pendant := hown m
        simpa [hm] using owned
    · rw [named]
      by_cases hi : (s.chan i).group = some (.console n)
      · simp [hi, asHolder]
      · simpa [hi] using hpen i

theorem takeGroup_lawful (c : Console) (n : ConsoleGroup) : Lawful (takeGroup c n) := by
  intro s
  unfold takeGroup
  split_ifs
  · exact .refl
  · exact .refl
  · exact takeOver_acts c n s
  · exact .refl

/-! ### The requests on channels -/

theorem wordAt_le (p : List Byte) (k : Nat) : wordAt p k ≤ 65535 := by
  have h1 : byteAt p k < 256 := (p.getD k 0).isLt
  have h2 : byteAt p (k + 1) < 256 := (p.getD (k + 1) 0).isLt
  unfold wordAt
  omega

theorem configChannel_lawful (c : Console) (i : Channel) (f : ChanConfig) : Lawful (configChannel c i f) := by
  refine asHeld_lawful fun s => ?_
  dsimp only
  split_ifs with hg hs
  · exact .refl
  · exact .refl
  · have stored : Acts s (s.setChan i (configured s.timebase f (s.chan i))) :=
      Acts.write (.configured f (by simpa using hg) (by tauto))
    change Acts s (configTaken i f s)
    unfold configTaken
    dsimp only
    split
    · exact stored.trans (Acts.raised _)
    · exact stored

theorem setLimit_lawful (side : Side) (c : Console) (i : Channel) (v : Nat) : Lawful (setLimit side c i v) := by
  refine asHeld_lawful fun s => ?_
  dsimp only
  split_ifs
  · exact .refl
  · exact .refl
  · split
    · exact .refl
    next b h => exact Acts.write (.limited side v b h)

theorem setPosition_lawful (c : Console) (i : Channel) (x : Nat) (hx : x ≤ 65535) : Lawful (setPosition c i x) := by
  refine asHeld_lawful fun s => ?_
  dsimp only
  split_ifs
  · exact .refl
  · exact .refl
  · exact Acts.write (.positioned x hx)

theorem setEnvelope_lawful (c : Console) (i : Channel) (lo hi : Nat) : Lawful (setEnvelope c i lo hi) :=
  asHeld_lawful fun _ => Acts.write (.enveloped lo hi)

theorem setLoadInput_lawful (c : Console) (i : Channel) (new : Option LoadInput) : Lawful (setLoadInput c i new) := by
  refine asHeld_lawful fun s => ?_
  dsimp only
  split_ifs with hm hn
  · exact .refl
  · exact .refl
  · change Acts s (inputTaken i new s)
    unfold inputTaken
    split
    · exact .refl
    · exact Acts.one (.assigned i new (by simpa using hn))

theorem setLoadCal_lawful (c : Console) (i : Channel) (zeroPoint gain : Nat) : Lawful (setLoadCal c i zeroPoint gain) := by
  refine asHeld_lawful fun s => ?_
  dsimp only
  split
  · exact .refl
  · exact Acts.write (.calibrated zeroPoint gain)

theorem clearOne_acts (s : State) (i : Channel) : Acts s (clearOne s i) :=
  (Acts.write .faultsCleared).trans (acts_of_moves (afterPark_moves _ _ _))

theorem clearFaults_lawful (c : Console) (set : EightSet) : Lawful (clearFaults c set) := by
  intro s
  have cleared : Acts s ((listOf set).foldl clearOne s) := Acts.foldl clearOne_acts _ _
  unfold clearFaults
  dsimp only
  split_ifs
  · exact cleared
  · exact cleared
  · exact .refl

/-! ### The requests on console groups -/

theorem modGrp_moves (k : GroupId) (f : Group → Group) (h : GrpMove k (s.grp k) (f (s.grp k))) : Acts s (s.modGrp k f) :=
  acts_of_moves (Moves.group h)

theorem firstFailure_eq_none (l : List (Bool × Result)) : firstFailure l = none ↔ ∀ e ∈ l, e.1 = false := by
  simp [firstFailure, List.find?_eq_none]

/-- The group of a channel after the members of a console group have been written (step 2 of R105). -/
def regrouped (n : ConsoleGroup) (set : EightSet) (s : State) (i : Channel) : Option GroupId :=
  if inSet set i then some (.console n) else if (s.chan i).group = some (.console n) then none else (s.chan i).group

/-- A channel that is in a group after the write and not in the set is in the group it was in, which is another one. -/
theorem regrouped_of_not_in {n : ConsoleGroup} {set : EightSet} {k : GroupId} (h : regrouped n set s i = some k)
    (hi : inSet set i = false) : (s.chan i).group = some k ∧ k ≠ .console n := by
  rw [regrouped, if_neg (by simp [hi])] at h
  split at h
  · exact absurd h (by simp)
  next hn => exact ⟨h, fun hk => hn (h.trans (by rw [hk]))⟩

theorem regrouped_of_in {n : ConsoleGroup} {set : EightSet} (hi : inSet set i = true) :
    regrouped n set s i = some (.console n) := by
  simp [regrouped, hi]

/-- The groups of the part with the owner of one console group written. -/
def owned (n : ConsoleGroup) (h : Holder) (s : State) : Groups :=
  s.groups.set (.console n) { s.grp (.console n) with owner := h }

theorem owned_get (n : ConsoleGroup) (h : Holder) (s : State) (g : GroupId) :
    (owned n h s).get g = { s.grp g with owner := if g = .console n then h else (s.grp g).owner } := by
  by_cases hg : g = .console n
  · subst hg; simp [owned]
  · simp [owned, hg, State.grp]

/-- The members of console group `n` become exactly the set and its owner the one written: where the members then have that owner
as holder and are of one kind, none OFF, this is one act of authority. -/
theorem regrouped_acts {n : ConsoleGroup} {set : EightSet} {h : Holder} (hh : h ≠ .pendant)
    (hheld : ∀ i, inSet set i = true → (s.chan i).holder = h ∧ h ≠ .none)
    (hoff : ∀ i, inSet set i = true → (s.chan i).state ≠ .off)
    (hkinds : ∀ i, inSet set i = true → ∀ j, inSet set j = true → (s.chan i).cfg.kind = (s.chan j).cfg.kind) :
    Acts s (s.reheld (fun i => (s.chan i).holder) (regrouped n set s) (owned n h s)) := by
  refine Acts.one (.owners _ _ _ (fun g => ?_) (by simp [owned_get]) fun ⟨lcon, lown, lpen, loff, lkind⟩ => ?_)
  · simp [owned_get]
  refine authorityLaw_reheld (fun m i hi => ?con) (fun m => ?own) (fun i => ?pen) (fun i hi => ?off) fun i j hi hij => ?kind
  case con =>
    cases hin : inSet set i with
    | true =>
      rw [regrouped_of_in hin] at hi
      obtain rfl : n = m := by simpa using hi
      obtain ⟨heq, hne⟩ := hheld i hin
      simpa [owned_get, heq] using hne
    | false =>
      obtain ⟨hgroup, hother⟩ := regrouped_of_not_in hi hin
      obtain ⟨heq, hne⟩ := lcon m i hgroup
      have owner : (s.chan i).holder = (s.grp (.console m)).owner := heq
      have owned : (s.grp (.console m)).owner ≠ .none := hne
      simpa [owned_get, hother, owner] using owned
  case own =>
    by_cases hm : m = n
    · simpa [owned_get, hm] using hh
    · have other : (s.grp (.console m)).owner ≠ .pendant := lown m
      simpa [owned_get, hm] using other
  case pen =>
    cases hin : inSet set i with
    | true => simp [regrouped_of_in hin, (hheld i hin).1, hh]
    | false =>
      simp only [regrouped, hin]
      by_cases hn : (s.chan i).group = some (.console n)
      · have held : (s.chan i).holder ≠ .pendant := fun hp => lown n ((lcon n i hn).1.symm.trans hp)
        simp [hn, held]
      · simpa [hn] using lpen i
  case off =>
    cases hin : inSet set i with
    | true => exact hoff i hin
    | false =>
      obtain ⟨k, hk⟩ := Option.ne_none_iff_exists'.mp hi
      exact loff i (by simp [(regrouped_of_not_in hk hin).1])
  case kind =>
    obtain ⟨k, hk⟩ := Option.ne_none_iff_exists'.mp hi
    have hk' : regrouped n set s j = some k := hij.symm.trans hk
    cases hin : inSet set i with
    | true =>
      rw [regrouped_of_in hin] at hk
      cases hjn : inSet set j with
      | true => exact hkinds i hin j hjn
      | false => exact absurd (by simpa using hk.symm) (regrouped_of_not_in hk' hjn).2
    | false =>
      obtain ⟨hgroup, hother⟩ := regrouped_of_not_in hk hin
      cases hjn : inSet set j with
      | true =>
        rw [regrouped_of_in hjn] at hk'
        exact absurd (by simpa using hk'.symm) hother
      | false => exact lkind i j (by simp [hgroup]) (by rw [hgroup, (regrouped_of_not_in hk' hjn).1])

/-- The members and then the whole record of a console group, written with its owner first. -/
theorem writeMembers_setGrp (n : ConsoleGroup) (set : EightSet) (h : Holder) (r : Group) (s : State) :
    (writeMembers (.console n) set s).setGrp (.console n) r =
      (s.reheld (fun i => (s.chan i).holder) (regrouped n set s) (owned n h s)).setGrp (.console n) r := by
  rw [writeMembers_eq]
  simp only [State.setGrp, State.reheld, owned, groups_set_set]
  rfl

theorem setGroupTaken_acts {n : ConsoleGroup} {set : EightSet} (interval : Nat) (w : Windows)
    (h : setGroupCheck c n set s = none) : Acts s (setGroupTaken c n set interval w s) := by
  obtain ⟨-, hheld, hidle, -, hoff, hkinds⟩ : (_ ∧ _ ∧ _ ∧ _ ∧ _ ∧ _) := by
    simpa [setGroupCheck, firstFailure_eq_none, allIn_iff, oneKind, holds] using h
  have written := writeMembers_setGrp n set (asHolder c) { s.grp (.console n) with
    owner := asHolder c, interval := interval, windows := clampWindows w, prof := State.resetProfile } s
  have taken : setGroupTaken c n set interval w s = _ := written
  rw [taken]
  refine (regrouped_acts (n := n) (holder_console_ne_pendant c) (fun i hi => ⟨hheld i hi, by simp [asHolder]⟩) hoff
    hkinds).trans (acts_of_moves (Moves.group ?_))
  have record : (s.reheld (fun i => (s.chan i).holder) (regrouped n set s) (owned n (asHolder c) s)).grp (.console n) =
      { s.grp (.console n) with owner := asHolder c } := by
    change (owned n (asHolder c) s).get (.console n) = _
    simp [owned_get]
  rw [record]
  exact .regrouped interval (clampWindows w) hidle

theorem setGroup_lawful (c : Console) (n : ConsoleGroup) (set : EightSet) (interval : Nat) (w : Windows) :
    Lawful (setGroup c n set interval w) := by
  intro s
  unfold setGroup
  split
  · exact .refl
  next h => exact setGroupTaken_acts interval w h

/-- A console group emptied, with TRIPOUT re-evaluated. -/
theorem cleared_acts {n : ConsoleGroup} {r : Group} (h : GroupCleared (s.grp (.console n)) r) :
    Acts s (s.setGrp (.console n) r).retrip := by
  refine Acts.one (.cleared _ (fun m => ?_) (by simp [State.grp]))
  by_cases hm : m = n
  · subst hm; simpa using .inr h
  · left; simp [hm, State.grp]

theorem disbandTaken_acts (n : ConsoleGroup) (h : (s.grp (.console n)).state.inMove = false) :
    Acts s (disbandTaken n s) := by
  have none_in (i : Channel) : inSet 0 i ≠ true := by simp [inSet]
  have written := writeMembers_setGrp n 0 .none { s.grp (.console n) with
    owner := .none, state := .idle, queue := [], trip := none, prof := State.resetProfile } s
  have taken : disbandTaken n s = State.retrip _ := congrArg State.retrip written
  rw [taken]
  refine (regrouped_acts (n := n) (by simp) (fun i hi => absurd hi (none_in i)) (fun i hi => absurd hi (none_in i))
    fun i hi => absurd hi (none_in i)).trans (cleared_acts ?_)
  have record : (s.reheld (fun i => (s.chan i).holder) (regrouped n 0 s) (owned n .none s)).grp (.console n) =
      { s.grp (.console n) with owner := .none } := by
    change (owned n .none s).get (.console n) = _
    simp [owned_get]
  rw [record]
  exact ⟨h, .idle, [], State.resetProfile, .inl rfl, .inl rfl, .inr rfl, rfl⟩

theorem disband_lawful (c : Console) (n : ConsoleGroup) : Lawful (disband c n) := by
  intro s
  unfold disband
  split_ifs with ho hm
  · exact .refl
  · exact disbandTaken_acts n (by simpa using hm)
  · exact .refl

theorem refuseCue_lawful (r : Result) (n : ConsoleGroup) : Lawful (refuseCue r n) := fun s =>
  Acts.one (.rest s.scanner s.ports s.timebase s.flash _)

theorem loadCue_lawful (c : Console) (n : ConsoleGroup) (q : Cue) : Lawful (loadCue c n q) := by
  intro s
  unfold loadCue
  split_ifs with ho hq
  · exact refuseCue_lawful _ n s
  · exact modGrp_moves _ (fun r => { r with queue := r.queue ++ [clampCue q] }) (.loaded n rfl _ (Nat.lt_of_not_le hq))
  · exact refuseCue_lawful _ n s

theorem clearQueue_lawful (c : Console) (n : ConsoleGroup) : Lawful (clearQueue c n) := by
  intro s
  unfold clearQueue
  split
  · exact modGrp_moves _ _ .unqueued
  · exact .refl

theorem resetGroup_lawful (c : Console) (n : ConsoleGroup) : Lawful (resetGroup c n) := by
  intro s
  unfold resetGroup
  split
  · split
    · exact .refl
    next h =>
      obtain ⟨htripped, -, -⟩ : (_ ∧ _ ∧ _) := by simpa [resetGroupCheck, firstFailure_eq_none] using h
      refine cleared_acts ⟨by simp [htripped, GroupState.inMove], _, _, _, ?_, .inr rfl, .inl rfl, rfl⟩
      split
      · exact .inl rfl
      next hq => exact .inr ⟨rfl, by simpa using hq⟩
  · exact .refl

theorem stopGroups_lawful (set : GroupSet) : Lawful (stopGroups set) := fun _ =>
  acts_of_moves (Moves.foldl (fun s n => controlledStop_moves (.console n) s) _ _)

/-- The renewal of deadlines changes no state of a group, so that each group of the list is renewed in a stoppable state. -/
theorem foldl_renewDeadline_acts (l : List ConsoleGroup) (s : State)
    (h : ∀ n ∈ l, (s.grp (.console n)).state.stoppable = true) : Acts s (l.foldl renewDeadline s) := by
  induction l generalizing s with
  | nil => exact .refl
  | cons n l ih =>
    refine (modGrp_moves _ _ (.renewed n rfl _ (h n (by simp)))).trans (ih _ fun m hm => ?_)
    have state : ((renewDeadline s n).grp (.console m)).state = (s.grp (.console m)).state := by
      by_cases hmn : m = n <;> simp [renewDeadline, State.modGrp, hmn]
    exact (congrArg GroupState.stoppable state).trans (h m (by simp [hm]))

theorem holdGroups_lawful (c : Console) (set : GroupSet) : Lawful (holdGroups c set) := by
  intro s
  unfold holdGroups
  dsimp only
  split_ifs
  · exact .refl
  · exact foldl_renewDeadline_acts _ s fun n hn => (List.mem_filter.mp hn).2
  · exact .refl

theorem jogGroup_lawful (c : Console) (n : ConsoleGroup) (d : Dir) (f ramp : Nat) : Lawful (jogGroup c n d f ramp) := by
  intro s
  unfold jogGroup
  split_ifs with ho hs hm
  · exact .refl
  · exact .refl
  · split
    · exact .refl
    · exact acts_of_moves (jogTaken_moves n d f ramp (by simpa using hs))
  · exact .refl

/-! ### GO: a group at rest is not touched by the start of another one -/

/-- The record of console group `n`, if it is IDLE or PAUSED in `s`, is the same in `t`. -/
def RestKept (n : ConsoleGroup) (s t : State) : Prop :=
  (s.grp (.console n)).state = .idle ∨ (s.grp (.console n)).state = .paused → t.grp (.console n) = s.grp (.console n)

section RestKept

variable {n : ConsoleGroup}

theorem restKept_of_eq (h : t.grp (.console n) = s.grp (.console n)) : RestKept n s t := fun _ => h

theorem RestKept.trans (h : RestKept n s t) (k : RestKept n t u) : RestKept n s u := fun hr => by
  have same := h hr
  rw [k (by rwa [same]), same]

theorem RestKept.foldl {α : Type} {f : State → α → State} (h : ∀ s a, RestKept n s (f s a)) (l : List α) (s : State) :
    RestKept n s (l.foldl f s) := by
  induction l generalizing s with
  | nil => exact restKept_of_eq rfl
  | cons a l ih => exact (h s a).trans (ih _)

theorem enterTripped_restKept (cause : TripCause) (ch : Option Channel) (hg : g ≠ .console n) :
    RestKept n s (enterTripped g cause ch s) := by
  refine restKept_of_eq ?_
  cases g with
  | console m =>
    rw [enterTripped_console_eq, State.retrip_grp, State.raise_grp, tripRecords_grp, if_neg hg.symm]
  | pendant =>
    rw [enterTripped_pendant_eq]
    rcases pendantExit_cases (tripRecords .pendant cause ch s).retrip with e | ⟨-, -, -, e⟩ <;> rw [e]
    · rw [State.retrip_grp, tripRecords_grp, if_neg (by simp)]
    · rw [pendantIdle, pendantEval_grp]
      simp [tripRecords_grp]

theorem tripGroup_restKept (cause : TripCause) (ch : Option Channel) (g : GroupId) (s : State) :
    RestKept n s (tripGroup cause ch g s) := by
  by_cases hg : g = .console n
  · subst hg
    rintro (hs | hs) <;> simp [tripGroup, hs]
  · unfold tripGroup
    split <;> first
      | exact restKept_of_eq rfl
      | exact enterTripped_restKept cause ch hg
      | exact restKept_of_eq (by simp [Ne.symm hg])

theorem tripGroupOf_restKept (cause : TripCause) (i : Channel) (s : State) : RestKept n s (tripGroupOf cause i s) := by
  unfold tripGroupOf
  split
  · exact restKept_of_eq rfl
  · exact tripGroup_restKept _ _ _ _

theorem startTry_restKept (i : Channel) (d : Dir) (s : State) : RestKept n s (startTry i d s) := by
  rcases startTry_cases s i d with ⟨-, e⟩ | ⟨-, e⟩ | ⟨-, e⟩ | ⟨-, -, -, -, e⟩ <;> rw [e]
  · exact restKept_of_eq rfl
  · exact tripGroupOf_restKept .limitSwitch i ((s.setChan i { s.chan i with startPending := none }).raise (.chan i .limit))
  · exact restKept_of_eq rfl
  · exact restKept_of_eq rfl

theorem startRequest_restKept (i : Channel) (d : Dir) (s : State) : RestKept n s (startRequest i d s) := by
  obtain ⟨parked, stopping, other⟩ := startRequest_cases s i d
  cases hs : (s.chan i).state with
  | parked => rw [parked hs]; exact startTry_restKept _ _ _
  | stopping f => rw [stopping ⟨f, hs⟩]; exact restKept_of_eq rfl
  | starting => rw [other (.inl hs)]; exact restKept_of_eq rfl
  | running => rw [other (.inr (.inl hs))]; exact restKept_of_eq rfl
  | faulted => rw [other (.inr (.inr (.inl hs)))]; exact restKept_of_eq rfl
  | off => rw [other (.inr (.inr (.inr hs)))]; exact restKept_of_eq rfl

theorem sendStart_restKept (s : State) (i : Channel) : RestKept n s (sendStart g s i) := by
  unfold sendStart
  dsimp only
  split
  · exact restKept_of_eq rfl
  · split
    · exact startRequest_restKept _ _ _
    · exact restKept_of_eq rfl

theorem startCue_restKept (cue : Cue) (hg : g ≠ .console n) : RestKept n s (startCue g cue s) := by
  rw [startCue_eq]
  have written (r : Group) : RestKept n s (s.setGrp g r) := restKept_of_eq (by simp [hg.symm])
  exact (written _).trans (RestKept.foldl sendStart_restKept _ _)

theorem completeFrom_restKept (hg : g ≠ .console n) (q : List Cue) (s : State) : RestKept n s (completeFrom g q s) := by
  induction q generalizing s with
  | nil => exact restKept_of_eq rfl
  | cons head rest ih =>
    rw [completeFrom_cons]
    have told (r : Group) : RestKept n s ((completionTold g s).setGrp g r) := restKept_of_eq (by simp [hg.symm])
    have dropped (v : State) : RestKept n v (dropDeadline g v) := restKept_of_eq (by simp [dropDeadline, hg.symm])
    dsimp only
    split
    · split
      · exact (told _).trans (dropped _)
      · split
        · exact (told _).trans (dropped _)
        · split
          · exact (told _).trans ((startCue_restKept _ hg).trans (ih _))
          · exact (told _).trans (startCue_restKept _ hg)
    · exact (told _).trans (dropped _)

theorem goStart_restKept (hg : g ≠ .console n) (s : State) : RestKept n s (goStart g s) := by
  unfold goStart
  split
  · exact restKept_of_eq rfl
  next head rest hq =>
    have written : RestKept n s (s.modGrp g fun r => { r with deadline := startMs s.timebase s.settings.holdWindow }) :=
      restKept_of_eq (by simp [hg.symm])
    have started := written.trans (startCue_restKept head hg)
    dsimp only
    split
    · exact started.trans (completeFrom_restKept hg _ _)
    · exact started

end RestKept

/-- The groups of a GO, each IDLE or PAUSED and none of them twice, start one after the other (R109). -/
theorem foldl_goStart_acts (l : List ConsoleGroup) (s : State) (hl : l.Nodup)
    (h : ∀ n ∈ l, (s.grp (.console n)).state = .idle ∨ (s.grp (.console n)).state = .paused) :
    Acts s (l.foldl (fun s n => goStart (.console n) s) s) := by
  induction l generalizing s with
  | nil => exact .refl
  | cons n l ih =>
    obtain ⟨hn, hl⟩ := List.nodup_cons.mp hl
    refine (acts_of_moves (goStart_moves n (h n (by simp)))).trans (ih _ hl fun m hm => ?_)
    have other : GroupId.console n ≠ .console m := fun he => hn (by simpa [GroupId.console.inj he] using hm)
    rw [goStart_restKept other s (h m (by simp [hm]))]
    exact h m (by simp [hm])

theorem nodup_groupsOf (set : GroupSet) : (groupsOf set).Nodup := by
  have all : consoleGroups.Nodup := by decide
  exact all.filter _

theorem goGroups_lawful (c : Console) (set : GroupSet) : Lawful (goGroups c set) := by
  intro s
  unfold goGroups
  split
  · exact .refl
  next h =>
    refine foldl_goStart_acts _ s (nodup_groupsOf set) fun n hn => ?_
    simp only [goFailure] at h
    split at h
    · cases h
    · have passed := List.findSome?_eq_none_iff.mp h n hn
      by_contra hrest
      push Not at hrest
      simp [groupGoCheck, hrest] at passed

/-! ### The requests on the whole part -/

theorem power_lawful (on : Bool) : Lawful (power on) := by
  intro s
  unfold power
  split_ifs with hon hlow hoff hmotion hs
  · exact .refl
  · exact supplyClosing_acts (by rcases hoff with h | h <;> simp [h])
  · exact .refl
  · exact .refl
  · exact .refl
  · refine supplyOff_acts (.inr fun i => ?_)
    have still : ∀ i, (s.chan i).state.inMotion = false := by simpa using hmotion
    constructor <;> intro hst <;> simpa [hst, ChanState.inMotion] using still i

theorem resetEstop_lawful : Lawful resetEstop := by
  intro s
  unfold resetEstop
  split
  · exact .refl
  · exact .refl
  · exact eased_acts _ _ (by simp) id id

/-- What TRIPOUT was does not matter where it is re-evaluated after the monitor's comparison. -/
theorem monitorCompare_retrip (s : State) : (monitorCompare s.retrip).retrip = (monitorCompare s).retrip := by
  unfold monitorCompare
  simp only [State.retrip_stops_monitor, State.retrip_stops_vctl, State.retrip_settings]
  cases s.stops.monitor with
  | normal => dsimp only; by_cases h : s.stops.vctl < thresholdMv s.settings.level <;> simp only [h, if_true, if_false] <;> rfl
  | dip => dsimp only; by_cases h : thresholdMv s.settings.level ≤ s.stops.vctl <;> simp only [h, if_true, if_false] <;> rfl
  | low => dsimp only; by_cases h : thresholdMv s.settings.level + 500 < s.stops.vctl <;> simp only [h, if_true, if_false] <;> rfl

theorem storeEnable_enable (new : EightSet) (s : State) : (storeEnable new s).settings.enable = new := by
  unfold storeEnable
  dsimp only
  split <;> simp_all

theorem setPart_lawful (v : Settings) : Lawful (setPart v) := by
  intro s
  change Acts s (setPartTaken v s)
  unfold setPartTaken
  dsimp only
  rw [← monitorCompare_retrip]
  refine (Acts.one (.enabled v.enable)).trans ((Acts.one (.set _ ?_)).trans ((monitorCompare_acts _).trans Acts.retripped))
  exact (storeEnable_enable v.enable s).symm

end Sys2Proof.Machine
end

section
/-! PROOFS. RESTART, frames, receivers, and then every command and every step as a chain of acts. -/

namespace Sys2Proof.Machine

open Sys2Proof.Safety Relation

variable {s t u : State} {i : Channel} {g : GroupId} {c : Console}

/-! ### RESTART (R101, R177) -/

/-- One channel of an evaluation reads nothing that TRIPOUT writes. -/
theorem evalChannel_retrip (s : State) (i : Channel) : evalChannel s.retrip i = (evalChannel s i).retrip := by
  unfold evalChannel
  dsimp only
  rw [apply_ite State.retrip, apply_ite State.retrip, apply_ite State.retrip]
  rfl

theorem releasePendant_retrip (s : State) (i : Channel) : releasePendant s.retrip i = (releasePendant s i).retrip := by
  unfold releasePendant
  dsimp only [State.retrip_chan]
  split <;> rfl

theorem foldl_retrip {α : Type} {f : State → α → State} (h : ∀ s a, f s.retrip a = (f s a).retrip) (l : List α)
    (s : State) : l.foldl f s.retrip = (l.foldl f s).retrip := by
  induction l generalizing s with
  | nil => rfl
  | cons a l ih => rw [List.foldl_cons, h, ih, List.foldl_cons]

theorem pendantEval_retrip (s : State) : pendantEval s.retrip = (pendantEval s).retrip := by
  unfold pendantEval
  rw [apply_ite State.retrip, ← foldl_retrip evalChannel_retrip, ← foldl_retrip releasePendant_retrip]
  rfl

theorem retrip_retrip (s : State) : s.retrip.retrip = s.retrip := rfl

/-- Holders, members and owners after a RESTART. -/
def unheld (s : State) : State :=
  s.reheld (fun _ => .none) (fun _ => none)
    { g0 := { s.groups.g0 with owner := .none }, g1 := { s.groups.g1 with owner := .none }
      g2 := { s.groups.g2 with owner := .none }, g3 := { s.groups.g3 with owner := .none }, pendant := s.groups.pendant }

theorem unheld_grp_console (n : ConsoleGroup) (s : State) :
    (unheld s).grp (.console n) = { s.grp (.console n) with owner := .none } := by
  fin_cases n <;> rfl

theorem unheld_acts (s : State) : Acts s (unheld s) := by
  refine Acts.one (.owners _ _ _ (fun g => ?_) rfl fun _ => ?_)
  · cases g with
    | pendant => rfl
    | console n => fin_cases n <;> rfl
  · refine authorityLaw_reheld (by simp) (fun n => ?_) (by simp) (by simp) (by simp)
    fin_cases n <;> simp [Groups.get]

/-- The console groups emptied by a RESTART, the pendant group's profile returned to its power-on values. -/
def emptied (s : State) : State :=
  { s with groups :=
    { g0 := restartedGroup s.groups.g0, g1 := restartedGroup s.groups.g1, g2 := restartedGroup s.groups.g2
      g3 := restartedGroup s.groups.g3, pendant := { s.groups.pendant with prof := State.resetProfile } } }

theorem emptied_grp_console (n : ConsoleGroup) (s : State) :
    (emptied s).grp (.console n) = restartedGroup (s.grp (.console n)) := by
  fin_cases n <;> rfl

/-- What RESTART makes of a console group that is not in a move and has no owner any more. -/
theorem groupCleared_restarted {r : Group} (ho : r.owner = .none) (hm : r.state.inMove = false) :
    GroupCleared r (restartedGroup r) := by
  refine ⟨hm, .idle, [], State.resetProfile, .inl rfl, .inl rfl, .inr rfl, ?_⟩
  obtain ⟨owner, interval, windows, state, rest⟩ := r
  cases ho
  cases state <;> simp_all [restartedGroup, GroupState.inMove]

theorem emptied_acts (h : ∀ n, (s.grp (.console n)).state.inMove = false) (hp : (s.grp .pendant).state = .idle) :
    Acts s (emptied (unheld s)).retrip := by
  refine (unheld_acts s).trans ?_
  set v := unheld s with hv
  set w := v.setGrp .pendant { v.grp .pendant with prof := State.resetProfile } with hw
  have reset : Acts v w := acts_of_moves (Moves.group (.regrouped (v.grp .pendant).interval (v.grp .pendant).windows hp))
  refine reset.trans (Acts.one (.cleared (emptied v).groups (fun n => .inr ?_) rfl))
  have record : w.grp (.console n) = v.grp (.console n) := by simp [hw]
  rw [show (emptied v).groups.get (.console n) = _ from emptied_grp_console n v, record, hv, unheld_grp_console]
  exact groupCleared_restarted rfl (h n)

theorem restarted_eq (s : State) : restarted s =
    { (pendantEval (emptied (unheld s)).retrip).retrip with notices := ⟨State.resetNotices, State.resetNotices⟩ } := by
  rw [pendantEval_retrip, retrip_retrip]
  rfl

theorem restart_lawful : Lawful restart := by
  intro s
  unfold restart
  split
  · exact .refl
  next h =>
    obtain ⟨hm, hp⟩ : (∀ n ∈ consoleGroups, _) ∧ _ := by simpa [restartBusy] using h
    change Acts s (restarted s)
    rw [restarted_eq]
    set v := (pendantEval (emptied (unheld s)).retrip).retrip with hv
    have evaluated : Acts s v := (emptied_acts (fun n => hm n (by simp)) hp).trans
      ((pendantEval_acts _).trans Acts.retripped)
    exact evaluated.trans ((Acts.one (.boxed .a 0 0)).trans (Acts.one (.boxed .b 0 0)))

/-! ### Every request -/

theorem requestOf_lawful (c : Console) (code : Byte) (p : List Byte) : Lawful (requestOf c code p) := by
  unfold requestOf
  split
  case h_1 => exact withLength_lawful fun _ => .refl
  case h_2 => exact withLength_lawful (withField_lawful fun _ _ _ => .refl)
  case h_3 => exact withLength_lawful (withField_lawful fun _ _ _ => .refl)
  case h_4 => exact withLength_lawful (withField_lawful fun _ _ _ => .refl)
  case h_5 => exact withLength_lawful fun _ => .refl
  case h_6 => exact withLength_lawful (selectChannels_lawful c _)
  case h_7 => exact withLength_lawful (releaseChannels_lawful c _)
  case h_8 => exact withLength_lawful (forceChannels_lawful c _)
  case h_9 => exact withLength_lawful (withField_lawful fun n _ => takeGroup_lawful c n)
  case h_10 => exact withLength_lawful (withField_lawful fun i _ => withField_lawful fun f _ => configChannel_lawful c i f)
  case h_11 => exact withLength_lawful (withField_lawful fun i _ => setLimit_lawful _ c i _)
  case h_12 => exact withLength_lawful (withField_lawful fun i _ => setLimit_lawful _ c i _)
  case h_13 => exact withLength_lawful (withField_lawful fun i _ => setPosition_lawful c i _ (wordAt_le p 1))
  case h_14 => exact withLength_lawful (withField_lawful fun i _ => setEnvelope_lawful c i _ _)
  case h_15 => exact withLength_lawful (withField_lawful fun i _ => withField_lawful fun k _ => setLoadInput_lawful c i k)
  case h_16 => exact withLength_lawful (withField_lawful fun i _ => setLoadCal_lawful c i _ _)
  case h_17 => exact withLength_lawful (clearFaults_lawful c _)
  case h_18 => exact withLength_lawful (withField_lawful fun n _ => withField_lawful fun k _ => setGroup_lawful c n _ k _)
  case h_19 => exact withLength_lawful (withField_lawful fun n _ => disband_lawful c n)
  case h_20 =>
    intro s
    unfold reqLoadCue
    split
    · exact withField_lawful (fun n _ => withField_lawful fun q _ => loadCue_lawful c n q) s
    · exact .refl
  case h_21 => exact withLength_lawful (withField_lawful fun n _ => clearQueue_lawful c n)
  case h_22 => exact withLength_lawful (withField_lawful fun m _ => goGroups_lawful c m)
  case h_23 => exact withLength_lawful (withField_lawful fun m _ => holdGroups_lawful c m)
  case h_24 => exact withLength_lawful (withField_lawful fun m _ => stopGroups_lawful m)
  case h_25 => exact withLength_lawful (withField_lawful fun n _ => withField_lawful fun d _ => jogGroup_lawful c n d _ _)
  case h_26 => exact withLength_lawful (withField_lawful fun n _ => resetGroup_lawful c n)
  case h_27 => exact withLength_lawful (withField_lawful fun on _ => power_lawful on)
  case h_28 => exact withLength_lawful resetEstop_lawful
  case h_29 => exact withLength_lawful (withField_lawful fun m _ _ => Acts.one (.boxed _ _ _))
  case h_30 => exact withLength_lawful (withField_lawful fun m _ _ => Acts.one (.boxed _ _ _))
  case h_31 => exact withLength_lawful (withField_lawful fun v _ => setPart_lawful v)
  case h_32 => exact withLength_lawful restart_lawful
  case h_33 => exact lawful_refuse _

theorem broadcastOf_lawful (c : Console) (code : Byte) (p : List Byte) : Lawful (broadcastOf c code p) := by
  unfold broadcastOf
  split
  · exact withLength_lawful (withField_lawful fun m _ => goGroups_lawful c m)
  · exact withLength_lawful (withField_lawful fun m _ => holdGroups_lawful c m)
  · exact withLength_lawful (withField_lawful fun m _ => stopGroups_lawful m)
  · exact lawful_refuse _

/-! ### Frames and receivers -/

theorem Acts.port (r : Receiver) : Acts s (s.setPort c r) := Acts.rest s.scanner (s.ports.set c r)

variable {request : State → Taken}

theorem takeAddressed_acts (h : Lawful request) (code : Byte) (s : State) : Acts s (takeAddressed c code request s) :=
  (refreshLink_acts c s).trans ((h _).trans (Acts.port _))

theorem takeBroadcast_acts (h : Lawful request) (s : State) : Acts s (takeBroadcast c request s) :=
  (refreshLink_acts c s).trans ((h _).trans (Acts.port _))

theorem frameOn_acts {take : State → State} (h : ∀ s, Acts s (take s)) (p : List Byte) (s : State) :
    Acts s (frameOn c p take s) := by
  unfold frameOn
  split_ifs
  · exact .refl
  · exact h s
  · exact Acts.port _

theorem addressedFrame_acts (h : Lawful request) (code : Byte) (p : List Byte) (s : State) :
    Acts s (addressedFrame c code p request s) := frameOn_acts (takeAddressed_acts h code) p s

theorem broadcastFrame_acts (h : Lawful request) (p : List Byte) (s : State) :
    Acts s (broadcastFrame c p request s) := frameOn_acts (takeBroadcast_acts h) p s

theorem eitherFrame_acts (via : Addressing) (h : Lawful request) (code : Byte) (p : List Byte) (s : State) :
    Acts s (eitherFrame c via code p request s) := by
  cases via with
  | addressed => exact addressedFrame_acts h code p s
  | broadcast => exact broadcastFrame_acts h p s

theorem frameEnd_acts (c : Console) (bytes : List Byte) (s : State) : Acts s (frameEnd c bytes s) := by
  unfold frameEnd
  dsimp only
  refine (Acts.port (c := c) .hunting).trans ?_
  split_ifs
  · exact takeAddressed_acts (requestOf_lawful _ _ _) _ _
  · exact takeBroadcast_acts (broadcastOf_lawful _ _ _) _
  · exact .refl
  · exact .refl

theorem character_acts (c : Console) (b : Byte) (s : State) : Acts s (character c b s) := by
  unfold character
  split
  · split
    · exact Acts.port _
    · exact .refl
  · unfold frameByte
    split_ifs
    · exact Acts.port _
    · exact frameEnd_acts _ _ _
    · exact Acts.port _
  · exact .refl

theorem gapExpired_acts (c : Console) (s : State) : Acts s (gapExpired c s) := by
  unfold gapExpired
  split
  · split
    · exact Acts.port _
    · exact .refl
  · exact .refl
  · exact .refl

theorem abandon_acts (c : Console) (s : State) : Acts s (abandon c s) := by
  unfold abandon
  split
  · exact .refl
  · exact Acts.port _

theorem responseDone_acts (c : Console) (s : State) : Acts s (responseDone c s) := by
  unfold responseDone
  split
  · exact Acts.port _
  · exact .refl

/-! ### Every command, every step -/

/-- Every command has a next state, which a chain of acts makes. -/
theorem exec_eq_next (cmd : Instr) (s : State) : ∃ t, exec cmd s = .next t ∧ Acts s t := by
  have frame (code : Byte) (p : List Byte) (c : Console) :
      Acts s (addressedFrame c code p (requestOf c code p) s) := addressedFrame_acts (requestOf_lawful c code p) code p s
  have either (via : Addressing) (code : Byte) (p : List Byte) (c : Console) :
      Acts s (eitherFrame c via code p (requestOf c code p) s) := eitherFrame_acts via (requestOf_lawful c code p) code p s
  cases cmd with
  | powerOnReset pins => exact ⟨_, rfl, Acts.one (.reset pins)⟩
  | initialConditionSettle thr ulim llim => exact ⟨_, rfl, initialSettle_acts thr ulim llim s⟩
  | estinFirstSettle closed => exact ⟨_, rfl, estinSettle_acts closed s⟩
  | thermalChange ch isOpen => exact ⟨_, rfl, thermalTo_acts ch isOpen s⟩
  | limitSwitchChange ch side isOpen => exact ⟨_, rfl, switchTo_acts ch side isOpen s⟩
  | currentSenseChange ch active => exact ⟨_, rfl, currentTo_acts ch active s⟩
  | brakeFeedbackChange ch released => exact ⟨_, rfl, feedbackTo_acts ch released s⟩
  | encoderChange ch seen => exact ⟨_, rfl, encoderTo_acts ch seen s⟩
  | torqueTimerExpiry ch => exact ⟨_, rfl, torqueExpired_acts ch s⟩
  | brakeTimerExpiry ch => exact ⟨_, rfl, brakeExpired_acts ch s⟩
  | brakeSetTimeExpiry ch => exact ⟨_, rfl, confirmExpired_acts ch s⟩
  | stopHoldExpiry ch => exact ⟨_, rfl, holdLineExpired_acts ch s⟩
  | stuckContactorTimeout ch => exact ⟨_, rfl, stuckTimeout_acts ch s⟩
  | reversalDwellExpiry ch => exact ⟨_, rfl, dwellExpired_acts ch s⟩
  | mainsfbChange closed => exact ⟨_, rfl, mainsfbTo_acts closed s⟩
  | closingTimerExpiry => exact ⟨_, rfl, closingExpired_acts s⟩
  | settlingTimerExpiry => exact ⟨_, rfl, settlingExpired_acts s⟩
  | referencePeriodStart ch => exact ⟨_, rfl, Acts.write .period⟩
  | speedTimeoutExpiry ch => exact ⟨_, rfl, speedExpired_acts ch s⟩
  | noMotionExpiry ch => exact ⟨_, rfl, motionExpired_acts ch s⟩
  | conversionComplete raw => exact ⟨_, rfl, conversionDone_acts raw.toNat s⟩
  | estinChange closed => exact ⟨_, rfl, estinTo_acts closed s⟩
  | pstopChange closed => exact ⟨_, rfl, pstopTo_acts closed s⟩
  | rstinChange asserted => exact ⟨_, rfl, rstinTo_acts asserted s⟩
  | vctlBelowThreshold mv => exact ⟨_, rfl, vctlTo_acts mv s⟩
  | vctlAtThreshold mv => exact ⟨_, rfl, vctlTo_acts mv s⟩
  | vctlAboveHysteresis mv => exact ⟨_, rfl, vctlTo_acts mv s⟩
  | lowTimerExpiry => exact ⟨_, rfl, lowExpired_acts s⟩
  | pselChange ch closed => exact ⟨_, rfl, pselTo_acts ch closed s⟩
  | ppresChange present => exact ⟨_, rfl, ppresTo_acts present s⟩
  | pendantControlChange line active => exact ⟨_, rfl, pendantLineTo_acts line active s⟩
  | linkTimerExpiry c => exact ⟨_, rfl, linkExpired_acts c s⟩
  | holdDeadlineExpiry g => exact ⟨_, rfl, acts_of_moves (deadlineExpired_moves g s)⟩
  | startTimerExpiry g => exact ⟨_, rfl, acts_of_moves (startTimeout_moves g s)⟩
  | groupUpdate g => exact ⟨_, rfl, acts_of_moves (groupUpdate_moves g s)⟩
  | holdTimerExpiry g => exact ⟨_, rfl, acts_of_moves (holdTimeout_moves g s)⟩
  | finishTimerExpiry g => exact ⟨_, rfl, acts_of_moves (finishTimeout_moves g s)⟩
  | gapTimerExpiry c => exact ⟨_, rfl, gapExpired_acts c s⟩
  | frameDiscarded c why => exact ⟨_, rfl, abandon_acts c s⟩
  | unknownRequest c code payload => exact ⟨_, rfl, frame code payload c⟩
  | ignoredBroadcast c code payload => exact ⟨_, rfl, broadcastFrame_acts (broadcastOf_lawful c code payload) payload s⟩
  | responseSent c => exact ⟨_, rfl, responseDone_acts c s⟩
  | readPart c payload => exact ⟨_, rfl, frame 0x01 payload c⟩
  | readChannel c payload => exact ⟨_, rfl, frame 0x02 payload c⟩
  | readGroup c payload => exact ⟨_, rfl, frame 0x03 payload c⟩
  | readQueue c payload => exact ⟨_, rfl, frame 0x04 payload c⟩
  | readNotices c payload => exact ⟨_, rfl, frame 0x05 payload c⟩
  | select c payload => exact ⟨_, rfl, frame 0x10 payload c⟩
  | release c payload => exact ⟨_, rfl, frame 0x11 payload c⟩
  | forceRelease c payload => exact ⟨_, rfl, frame 0x12 payload c⟩
  | takeGroup c payload => exact ⟨_, rfl, frame 0x13 payload c⟩
  | configChannel c payload => exact ⟨_, rfl, frame 0x20 payload c⟩
  | setUpper c payload => exact ⟨_, rfl, frame 0x21 payload c⟩
  | setLower c payload => exact ⟨_, rfl, frame 0x22 payload c⟩
  | setPosition c payload => exact ⟨_, rfl, frame 0x23 payload c⟩
  | setEnvelope c payload => exact ⟨_, rfl, frame 0x24 payload c⟩
  | setLoadInput c payload => exact ⟨_, rfl, frame 0x25 payload c⟩
  | setLoadCal c payload => exact ⟨_, rfl, frame 0x26 payload c⟩
  | clearFaults c payload => exact ⟨_, rfl, frame 0x27 payload c⟩
  | setGroup c payload => exact ⟨_, rfl, frame 0x30 payload c⟩
  | disband c payload => exact ⟨_, rfl, frame 0x31 payload c⟩
  | loadCue c payload => exact ⟨_, rfl, frame 0x32 payload c⟩
  | clearQueue c payload => exact ⟨_, rfl, frame 0x33 payload c⟩
  | go c via payload => exact ⟨_, rfl, either via 0x34 payload c⟩
  | hold c via payload => exact ⟨_, rfl, either via 0x35 payload c⟩
  | stop c via payload => exact ⟨_, rfl, either via 0x36 payload c⟩
  | jog c payload => exact ⟨_, rfl, frame 0x37 payload c⟩
  | resetGroup c payload => exact ⟨_, rfl, frame 0x38 payload c⟩
  | powerOn c => exact ⟨_, rfl, frame 0x40 [1] c⟩
  | powerOff c => exact ⟨_, rfl, frame 0x40 [0] c⟩
  | resetEstop c payload => exact ⟨_, rfl, frame 0x41 payload c⟩
  | setMask c payload => exact ⟨_, rfl, frame 0x42 payload c⟩
  | ackNotices c payload => exact ⟨_, rfl, frame 0x43 payload c⟩
  | setPart c payload => exact ⟨_, rfl, frame 0x44 payload c⟩
  | restart c payload => exact ⟨_, rfl, frame 0x45 payload c⟩
  | requestCharacterReceived c b => exact ⟨_, rfl, character_acts c b s⟩

theorem exec_acts {cmd : Instr} (h : exec cmd s = .next t) : Acts s t := by
  obtain ⟨u, hu, acts⟩ := exec_eq_next cmd s
  obtain rfl : u = t := by simpa [hu] using h
  exact acts

/-- A step is one microsecond on an empty queue, and the acts of the front command on the rest of the queue otherwise. -/
theorem step_acts (h : step s = .next t) : ∃ q, Acts { s with pending := q } t := by
  unfold step at h
  split at h
  next he =>
    obtain rfl : s.tick = t := by simpa using h
    exact ⟨s.pending, Acts.one (.rest s.scanner s.ports (s.timebase + 1) ((s.flash + 1) % 1000000) s.freeCount)⟩
  next c rest he => exact ⟨rest, exec_acts h⟩

/-- What no waiting command matters to and every act keeps, every step keeps. -/
theorem step_keeps {P : State → Prop} (queue : ∀ s q, P s → P { s with pending := q })
    (keep : ∀ s t, Act s t → P s → P t) (hs : P s) (h : step s = .next t) : P t := by
  obtain ⟨q, acts⟩ := step_acts h
  exact acts.induct (queue s q hs) keep

end Sys2Proof.Machine
end

section
/-! PROOFS. The laws of one channel record that every step keeps by the acts it is made of: the line, sequence-timer and duty laws (R25, R39),
and the stuck-contactor watch with the armed slip check (R34, R55). -/

namespace Sys2Proof.Machine

open Sys2Proof.Safety Relation

/-! ### Laws of one channel record -/

/-- A law of one channel record that every run, every write, every change of holder, group or load items and every reset keeps. -/
structure ChanInvariant (P : Chan → Prop) : Prop where
  run : ∀ {now may b d}, RunMove now may b d → P b → P d
  write : ∀ {now enable b d}, ChanWrite now enable b d → P b → P d
  authority : ∀ {b} h k, P b → P (withAuthority h k b)
  load : ∀ {b} u, P b → P { b with load := u }
  reset : ∀ held, P (State.resetChan held)

variable {s t : State} {P : Chan → Prop} {now : Time} {enable : EightSet} {may : Prop} {b d : Chan}

/-- A law of one record holds of every record where it held before and holds of the record written. -/
theorem everyChan_setChan {i : Channel} (h : EveryChan P s) (hb : P b) : EveryChan P (s.setChan i b) := by
  intro j
  by_cases hj : j = i
  · subst hj; simpa using hb
  · simpa [hj] using h j

theorem ChanInvariant.keepsMove (inv : ChanInvariant P) (m : Move s t) (h : EveryChan P s) : EveryChan P t := by
  cases m with
  | run i b r => exact everyChan_setChan h (inv.run r (h i))
  | group g r _ => exact h
  | trip g cause ch _ => exact h
  | raised n => exact h
  | retripped => exact h
  | taken i _ _ _ => exact everyChan_setChan h (inv.authority .pendant (some .pendant) (h i))
  | given i _ => exact everyChan_setChan h (inv.authority .none none (h i))

theorem ChanInvariant.keepsMoves (inv : ChanInvariant P) (m : Moves s t) (h : EveryChan P s) : EveryChan P t :=
  m.induct h fun _ _ => inv.keepsMove

/-- A channel whose input enters or leaves the enable set has its load items changed alone. -/
theorem enableChan_eq (old new : EightSet) (b : Chan) : ∃ u, enableChan old new b = { b with load := u } := by
  unfold enableChan
  split
  · exact ⟨b.load, rfl⟩
  · split
    · exact ⟨b.load, rfl⟩
    · exact ⟨_, rfl⟩

theorem storeEnable_chan (new : EightSet) (s : State) (i : Channel) :
    (storeEnable new s).chan i =
      if s.settings.enable = new then s.chan i else enableChan s.settings.enable new (s.chan i) := by
  unfold storeEnable
  dsimp only
  split
  · rfl
  · exact Chans.get_mapIdx _ _ _

theorem assignInput_chan (i : Channel) (new : Option LoadInput) (s : State) (j : Channel) :
    (assignInput i new s).chan j = if j = i then { s.chan i with load :=
      { emptyRing (s.chan i).load with
        input := new, raw := none, status := deriveLoad s.settings.enable { emptyRing (s.chan i).load with
          input := new, raw := none } } } else s.chan j := by
  unfold assignInput
  dsimp only
  split
  · exact State.chan_setChan _ _ _ _
  · exact State.chan_setChan _ _ _ _

theorem ChanInvariant.keeps (inv : ChanInvariant P) (a : Act s t) (h : EveryChan P s) : EveryChan P t := by
  cases a with
  | move t m => exact inv.keepsMove m h
  | write cs w =>
    intro i
    change P (cs.get i)
    rcases w i with same | wrote
    · rw [same]; exact h i
    · exact inv.write wrote (h i)
  | assigned i new _ =>
    intro j
    rw [assignInput_chan]
    split
    · exact inv.load _ (h i)
    · exact h j
  | enabled new =>
    intro i
    rw [storeEnable_chan]
    obtain ⟨u, hu⟩ := enableChan_eq s.settings.enable new (s.chan i)
    split
    · exact h i
    · exact hu ▸ inv.load u (h i)
  | set v _ => exact h
  | cleared gs _ _ => exact h
  | owners held grouped gs _ _ _ =>
    intro i
    rw [State.reheld_chan]
    exact inv.authority _ _ (h i)
  | inputs a _ => exact h
  | linked c l _ => exact h
  | boxed c pending mask => exact h
  | supplied u _ _ => exact h
  | watched st _ _ _ _ => exact h
  | eased st _ _ _ => exact h
  | halted st u _ m _ => exact inv.keepsMoves (t := u) m h
  | unpowered v u _ m _ => exact inv.keepsMoves m h
  | rest sc po ti fl fr => exact h
  | reset pins =>
    intro i
    rw [show (powerOnReset pins s).chan i = State.resetChan (pins.enc.get i) from Chans.get_mapIdx _ _ _]
    exact inv.reset _

theorem ChanInvariant.step (inv : ChanInvariant P) (h : EveryChan P s) (hstep : step s = .next t) : EveryChan P t :=
  step_keeps (P := EveryChan P) (fun _ _ h => h) (fun _ _ => inv.keeps) h hstep

/-! ### The lines, the sequence timers and the duty (R25, R39) -/

/-- The line law, the timer law and the duty law of one channel. -/
abbrev RunLaws (b : Chan) : Prop := LineLaw b ∧ TimerLaw b ∧ DutyLaw b

theorem watchStuck_runLaws (now : Time) (h : RunLaws b) : RunLaws (watchStuck now b) :=
  ⟨watchStuck_lineLaw now b h.1, watchStuck_timerLaw now b h.2.1, watchStuck_dutyLaw now b h.2.2⟩

/-- The end of a stop leaves the record or parks it with its lines down and its confirmation made. -/
theorem chanFinishStop_eq (now : Time) (b : Chan) :
    chanFinishStop now b = watchStuck now b ∨
      (∃ f, b.state = .stopping f) ∧ b.out.confirmTimer = none ∧ b.out.raise = false ∧ b.out.lower = false ∧
        chanFinishStop now b = watchStuck now (chanPark now b) := by
  unfold chanFinishStop
  split
  next f h =>
    split
    next hdone =>
      obtain ⟨hconf, hlines⟩ := Bool.and_eq_true_iff.mp hdone
      obtain ⟨hr, hl⟩ := Bool.and_eq_true_iff.mp hlines
      exact .inr ⟨⟨f, h⟩, by simpa using hconf, by simpa using hr, by simpa using hl, rfl⟩
    next => exact .inl rfl
  all_goals exact .inl rfl

/-- A channel at rest, with no duty and no line, is lawful with whatever dwell and confirmation its state allows. -/
theorem chanFinishStop_runLaws (now : Time) (h : RunLaws b) : RunLaws (chanFinishStop now b) := by
  obtain hc | ⟨⟨f, hf⟩, hconf, hr, hl, hc⟩ := chanFinishStop_eq now b
  · exact hc ▸ watchStuck_runLaws now h
  · rw [hc]
    obtain ⟨line, timer, duty⟩ := h
    refine watchStuck_runLaws now ⟨?_, ?_, ?_⟩
    · simp_all [LineLaw, chanPark]
    · simp_all [TimerLaw, chanPark]
    · simp_all [DutyLaw, chanPark]

/-- A stopped channel's generator stands at 0. -/
theorem leaveRunning_gen (now : Time) (h : DutyLaw b) :
    (leaveRunning now b).gen.duty = 0 ∧ (leaveRunning now b).gen.pendingDuty = none := by
  obtain ⟨-, hpending, hduty⟩ := h
  unfold leaveRunning
  split
  · exact ⟨rfl, rfl⟩
  next hr =>
    refine ⟨by_contra fun h0 => hr (hduty h0).2, Option.eq_none_iff_forall_not_mem.mpr fun x hx => hr (hpending x hx).2.2⟩

@[simp] theorem leaveRunning_out (now : Time) (b : Chan) : (leaveRunning now b).out = b.out := by
  unfold leaveRunning; split <;> rfl

@[simp] theorem leaveRunning_lastDir (now : Time) (b : Chan) : (leaveRunning now b).lastDir = b.lastDir := by
  unfold leaveRunning; split <;> rfl

/-- The dwell runs in PARKED alone. -/
theorem dwellTimer_of_not_parked (h : TimerLaw b) (hs : b.state ≠ .parked) : b.out.dwellTimer = none := by
  obtain ⟨-, -, -, -, hdwell, -⟩ := h
  by_contra hd
  exact hs (hdwell hd)

theorem stopReleased_runLaws (now : Time) (form : StopForm) (h : RunLaws b) (hs : b.state ≠ .parked) :
    RunLaws (stopReleased now form b) := by
  obtain ⟨⟨both, -⟩, timer, duty⟩ := h
  obtain ⟨hd, hp⟩ := leaveRunning_gen now duty
  have dwell := dwellTimer_of_not_parked timer hs
  refine chanFinishStop_runLaws now ⟨?_, ?_, ?_⟩
  · cases form
    · by_cases hk : b.cfg.stopHold = 0 <;> simp_all [LineLaw, startMs]
    · simp [LineLaw]
  · cases form <;> simp [TimerLaw, dwell]
  · simp [DutyLaw, hd, hp]

theorem stopUnproven_runLaws (now : Time) (form : StopForm) (h : RunLaws b) (hs : b.state = .starting) :
    RunLaws (stopUnproven now form b) := by
  obtain ⟨-, timer, duty⟩ := h
  have dwell := dwellTimer_of_not_parked timer (by simp [hs])
  refine chanFinishStop_runLaws now ⟨by simp [LineLaw], ?_, ?_⟩
  · cases form <;> simp [TimerLaw, dwell]
  · simp_all [DutyLaw]

theorem stopMadeQuick_runLaws (now : Time) (h : RunLaws b) (hs : b.state = .stopping .controlled) :
    RunLaws (stopMadeQuick now b) := by
  obtain ⟨line, timer, duty⟩ := h
  refine chanFinishStop_runLaws now ⟨?_, ?_, ?_⟩
  · simp_all [LineLaw]
  · simp_all [TimerLaw]
  · simp_all [DutyLaw]

/-- A start pending dropped is lawful in every state. -/
theorem unpended_runLaws (h : RunLaws b) : RunLaws { b with startPending := none } := by
  obtain ⟨line, ⟨htorque, hbrake, hhold, hconfirm, hdwell, -⟩, duty⟩ := h
  exact ⟨line, ⟨htorque, hbrake, hhold, hconfirm, hdwell, by simp⟩, duty⟩

theorem chanStop_runLaws (now : Time) (form : StopForm) (h : RunLaws b) : RunLaws (chanStop now form b) := by
  unfold chanStop
  split
  next => exact h
  next => exact h
  next => exact unpended_runLaws h
  next hs =>
    split
    · exact stopReleased_runLaws now form h (by simp [hs])
    · exact stopUnproven_runLaws now form h hs
  next hs => exact stopReleased_runLaws now form h (by simp [hs])
  next => exact unpended_runLaws h
  next hs =>
    cases form
    · exact unpended_runLaws h
    · exact stopMadeQuick_runLaws now h hs

theorem chanFault_runLaws (now : Time) (k : FaultKind) (h : RunLaws b) : RunLaws (chanFault now k b) := by
  have entered := chanEnterFaulted_laws now { b with faults := b.faults ||| faultBit k } h.2.2
  unfold chanFault
  split
  · exact h
  · exact h
  all_goals exact entered

theorem chanEnterRunning_runLaws (now : Time) (h : RunLaws b) (_hs : b.state = .starting)
    (hb : b.out.brakeTimer ≠ none) : RunLaws (chanEnterRunning now b) := by
  obtain ⟨line, ⟨-, hbrake, hhold, hconfirm, hdwell, hpending⟩, duty⟩ := h
  obtain ⟨-, released⟩ := hbrake hb
  refine ⟨?_, ?_, ?_⟩
  · simp_all [LineLaw, chanEnterRunning]
  · simp_all [TimerLaw, chanEnterRunning]
  · simp_all [DutyLaw, chanEnterRunning]

theorem runLaws_run (m : RunMove now may b d) (h : RunLaws b) : RunLaws d := by
  cases m with
  | dropped => exact unpended_runLaws h
  | pended dir hs =>
    obtain ⟨line, ⟨htorque, hbrake, hhold, hconfirm, hdwell, -⟩, duty⟩ := h
    refine ⟨line, ⟨htorque, hbrake, hhold, hconfirm, hdwell, fun _ => ?_⟩, duty⟩
    rcases hs with hs | ⟨_ | _, hs⟩ <;> simp [hs]
  | started dir _ hs => exact chanEnterStarting_laws now b dir h.2.2 hs
  | completed hs hb => exact chanEnterRunning_runLaws now h hs hb
  | stopped form => exact chanStop_runLaws now form h
  | faulted k => exact chanFault_runLaws now k h
  | duty x hx hk hr =>
    obtain ⟨line, timer, hduty, -, hzero⟩ := h
    refine ⟨line, timer, hduty, fun y hy => ?_, hzero⟩
    obtain rfl : x = y := by simpa using hy
    exact ⟨hx, hk, hr⟩

theorem feedbackChan_runLaws (now : Time) (released : Bool) (h : RunLaws b) : RunLaws (feedbackChan now released b) := by
  obtain ⟨line, ⟨htorque, hbrake, hhold, hconfirm, hdwell, hpending⟩, duty⟩ := h
  unfold feedbackChan
  dsimp only
  split
  next f hs =>
    split
    · exact ⟨line, ⟨htorque, hbrake, hhold, hconfirm, hdwell, hpending⟩, duty⟩
    · exact chanFinishStop_runLaws now ⟨line, ⟨htorque, hbrake, hhold, by simp, hdwell, hpending⟩, duty⟩
  next hs => exact ⟨line, ⟨htorque, hbrake, hhold, fun _ => .inr (.inr hs), hdwell, hpending⟩, duty⟩
  all_goals exact ⟨line, ⟨htorque, hbrake, hhold, hconfirm, hdwell, hpending⟩, duty⟩

theorem lineDropped_runLaws (now : Time) (h : RunLaws b) (hh : b.out.stopHoldTimer ≠ none) :
    RunLaws (chanFinishStop now
      { b with out := { b.out with raise := false, lower := false, stopHoldTimer := none } }) := by
  obtain ⟨line, timer, duty⟩ := h
  have hs : b.state = .stopping .controlled := timer.2.2.1 hh
  refine chanFinishStop_runLaws now ⟨?_, ?_, duty⟩
  · simp_all [LineLaw]
  · simp_all [TimerLaw]

theorem period_runLaws (now : Time) (h : RunLaws b) : RunLaws (periodStarts now b) := by
  obtain ⟨line, timer, hduty, hpending, hzero⟩ := h
  refine ⟨line, timer, ?_, by simp [periodStarts], ?_⟩
  · unfold periodStarts
    cases hp : b.gen.pendingDuty with
    | none => simpa [hp] using hduty
    | some x => simpa [hp] using (hpending x hp).1
  · unfold periodStarts
    cases hp : b.gen.pendingDuty with
    | none => simpa [hp] using hzero
    | some x => exact fun _ => (hpending x hp).2

/-- The run of a channel that is PARKED or OFF: nothing is energised and nothing runs but the dwell and a start pending. -/
theorem atRest_of_runLaws (h : RunLaws b) (hs : b.state = .parked ∨ b.state = .off) :
    LinesOff b ∧ b.out.torqueTimer = none ∧ b.out.brakeTimer = none ∧ b.out.stopHoldTimer = none ∧
      b.out.confirmTimer = none ∧ b.gen.duty = 0 ∧ b.gen.pendingDuty = none := by
  obtain ⟨line, timer, -, hpending, hzero⟩ := h
  have nopending : b.gen.pendingDuty = none :=
    Option.eq_none_iff_forall_ne_some.mpr fun x hx => by rcases hs with hs | hs <;> simpa [hs] using (hpending x hx).2.2
  rcases hs with hs | hs <;> simp_all [LineLaw, TimerLaw, LinesOff]

/-- A channel that is PARKED or OFF with nothing energised, no timer but a dwell in PARKED, and no duty is lawful. -/
theorem runLaws_of_atRest (hs : b.state = .parked ∨ b.state = .off) (hl : LinesOff b) (ht : b.out.torqueTimer = none)
    (hb : b.out.brakeTimer = none) (hh : b.out.stopHoldTimer = none) (hc : b.out.confirmTimer = none)
    (hg : b.gen.duty = 0) (hp : b.gen.pendingDuty = none) (hd : b.state = .off → b.out.dwellTimer = none ∧ b.startPending = none) :
    RunLaws b := by
  obtain ⟨hr, hlo, hbr⟩ := hl
  rcases hs with hs | hs
  · simp [RunLaws, LineLaw, TimerLaw, DutyLaw, *]
  · obtain ⟨hdw, hsp⟩ := hd hs
    simp [RunLaws, LineLaw, TimerLaw, DutyLaw, hr, hlo, hbr, ht, hb, hh, hc, hg, hp, hdw, hsp, hs]

theorem configured_runLaws (now : Time) (f : ChanConfig) (h : RunLaws b) (hs : b.state = .parked ∨ b.state = .off) :
    RunLaws (configured now f b) := by
  obtain ⟨hl, ht, hb, hh, hc, hg, hp⟩ := atRest_of_runLaws h hs
  have stored : RunLaws (storeEnvelope b.envMin b.envMax { b with cfg := clampConfig f }) := by
    refine runLaws_of_atRest hs hl ht hb hh hc hg hp fun ho => ?_
    obtain ⟨-, ⟨-, -, -, -, hdwell, hpending⟩, -⟩ := h
    have off : b.state = .off := ho
    have dwell : b.out.dwellTimer = none := by simpa [off] using hdwell
    have pending : b.startPending = none := by simpa [off] using hpending
    exact ⟨dwell, pending⟩
  unfold configured configState
  split
  · exact stored
  · refine watchStuck_runLaws now (runLaws_of_atRest (.inl rfl) hl ht hb hh hc hg hp (by simp))
  · exact runLaws_of_atRest (.inr rfl) hl ht hb hh hc hg hp fun _ => ⟨rfl, rfl⟩
  · exact stored
  · exact stored

theorem chanClearFaults_runLaws (now : Time) (enable : EightSet) (h : RunLaws b) :
    RunLaws (chanClearFaults now enable b) := by
  unfold chanClearFaults
  dsimp only
  split
  · exact h
  next hconfirm =>
    split
    next hs =>
      have state : b.state = .faulted := hs.1
      obtain ⟨line, timer, duty⟩ := h
      have confirm : b.out.confirmTimer = none := by simpa [state] using hconfirm
      refine ⟨?_, ?_, ?_⟩
      · simp_all [LineLaw, clearSlip]
      · simp_all [TimerLaw, clearSlip]
      · simp_all [DutyLaw, clearSlip]
    next => exact h

/-- A limit write touches the limit pair alone (R19). -/
theorem writeLimit_eq {side : Side} {v : Nat} (h : writeLimit side v b = some d) :
    ∃ w p up lo, d = { b with window := w, pendingLimit := p, upper := up, lower := lo } := by
  unfold writeLimit at h
  split at h
  · exact ⟨_, _, _, _, (Option.some.inj h).symm⟩
  · split at h
    · exact ⟨_, _, _, _, (Option.some.inj h).symm⟩
    · dsimp only at h
      split at h
      · exact ⟨_, _, _, _, (Option.some.inj h).symm⟩
      · cases h

theorem runLaws_write (w : ChanWrite now enable b d) (h : RunLaws b) : RunLaws d := by
  obtain ⟨line, ⟨htorque, hbrake, hhold, hconfirm, hdwell, hpending⟩, duty⟩ := id h
  cases w with
  | conditions th up lo => exact h
  | current active => exact watchStuck_runLaws now (b := { b with out := { b.out with cs := active } }) h
  | stuckReported e _ => exact h
  | feedback released => exact feedbackChan_runLaws now released h
  | feedbackLevel released => exact h
  | brakeReleased hs ht =>
    refine ⟨?_, ?_, duty⟩
    · simp_all [LineLaw, chanReleaseBrake]
    · simp_all [TimerLaw, chanReleaseBrake]
  | torqueEnded => exact ⟨line, ⟨by simp, hbrake, hhold, hconfirm, hdwell, hpending⟩, duty⟩
  | brakeEnded => exact ⟨line, ⟨htorque, by simp, hhold, hconfirm, hdwell, hpending⟩, duty⟩
  | confirmEnded => exact ⟨line, ⟨htorque, hbrake, hhold, by simp, hdwell, hpending⟩, duty⟩
  | confirmArmed hs => exact ⟨line, ⟨htorque, hbrake, hhold, by simp, hdwell, hpending⟩, duty⟩
  | confirmDone =>
    exact chanFinishStop_runLaws now ⟨line, ⟨htorque, hbrake, hhold, by simp, hdwell, hpending⟩, duty⟩
  | lineDropped hh => exact lineDropped_runLaws now h hh
  | dwellEnded => exact ⟨line, ⟨htorque, hbrake, hhold, hconfirm, by simp, hpending⟩, duty⟩
  | period => exact period_runLaws now h
  | encoder u _ _ => exact h
  | counted x _ => exact h
  | saturated dir _ => exact h
  | unreferenced => exact h
  | reading raw => exact h
  | overCounted n _ => exact h
  | underCounted n _ => exact h
  | calibrated z g => exact h
  | enveloped lo hi => exact h
  | limited side v c hw =>
    obtain ⟨w, p, up, lo, rfl⟩ := writeLimit_eq hw
    exact h
  | positioned x _ => exact h
  | configured f _ hs => exact configured_runLaws now f h hs
  | faultsCleared => exact chanClearFaults_runLaws now enable h

theorem chanInvariant_runLaws : ChanInvariant RunLaws where
  run := runLaws_run
  write := runLaws_write
  authority _ _ h := h
  load _ h := h
  reset held := by simp [RunLaws, LineLaw, TimerLaw, DutyLaw, State.resetChan, State.resetOutput, State.resetGen]

/-! ### The stuck-contactor watch and the armed slip check (R34, R55) -/

/-- After the watch it stands as its condition requires (R34). -/
theorem watchStuck_idle_iff (now : Time) (b : Chan) :
    (watchStuck now b).out.stuck = .idle ↔ stuckCond (watchStuck now b) = false := by
  unfold watchStuck
  split
  next h =>
    have kept (w : StuckWatch) : stuckCond { b with out := { b.out with stuck := w } } = true := h
    split
    · simp [kept]
    next e he => simp [h, he]
    next he => simp [h, he]
  next h =>
    have ended : stuckCond b = false := by simpa using h
    have kept : stuckCond { b with out := { b.out with stuck := .idle } } = false := ended
    simp [kept]

theorem watchStuck_watchLaw (now : Time) (h : b.pos.slipArmed = true → b.state = .parked ∨ b.state = .faulted) :
    WatchLaw (watchStuck now b) := ⟨watchStuck_idle_iff now b, by simpa using h⟩

theorem chanFinishStop_watchLaw (now : Time) (h : b.pos.slipArmed = true → b.state = .parked ∨ b.state = .faulted) :
    WatchLaw (chanFinishStop now b) := by
  obtain hc | ⟨-, -, -, -, hc⟩ := chanFinishStop_eq now b <;> rw [hc]
  · exact watchStuck_watchLaw now h
  · exact watchStuck_watchLaw now fun _ => .inl rfl

theorem chanStop_watchLaw (now : Time) (form : StopForm) (h : WatchLaw b) : WatchLaw (chanStop now form b) := by
  unfold chanStop
  split
  next => exact h
  next => exact h
  next => exact h
  next =>
    split
    · exact chanFinishStop_watchLaw now (by simp)
    · exact chanFinishStop_watchLaw now (by simp)
  next => exact chanFinishStop_watchLaw now (by simp)
  next => exact h
  next hs =>
    cases form
    · exact h
    · refine chanFinishStop_watchLaw now fun ha => ?_
      have armed := h.2 ha
      simp [hs] at armed

theorem chanFault_watchLaw (now : Time) (k : FaultKind) (h : WatchLaw b) : WatchLaw (chanFault now k b) := by
  have entered : WatchLaw (chanEnterFaulted now { b with faults := b.faults ||| faultBit k }) :=
    watchStuck_watchLaw now fun _ => .inr rfl
  unfold chanFault
  split
  · exact h
  · exact h
  all_goals exact entered

theorem watchLaw_run (m : RunMove now may b d) (h : WatchLaw b) : WatchLaw d := by
  cases m with
  | dropped => exact h
  | pended dir _ => exact h
  | started dir _ _ => exact watchStuck_watchLaw now (by simp)
  | completed hs hb =>
    obtain ⟨hstuck, harmed⟩ := h
    refine ⟨?_, fun ha => ?_⟩
    · simpa [chanEnterRunning, stuckCond, hs] using hstuck
    · have armed := harmed ha
      simp [hs] at armed
  | stopped form => exact chanStop_watchLaw now form h
  | faulted k => exact chanFault_watchLaw now k h
  | duty x _ _ _ => exact h

theorem feedbackChan_watchLaw (now : Time) (released : Bool) (h : WatchLaw b) : WatchLaw (feedbackChan now released b) := by
  obtain ⟨hstuck, harmed⟩ := h
  unfold feedbackChan
  dsimp only
  split
  next f hs =>
    split
    · exact ⟨hstuck, harmed⟩
    · exact chanFinishStop_watchLaw now harmed
  next hs => exact ⟨hstuck, fun _ => .inr hs⟩
  next hs => exact ⟨hstuck, fun _ => .inl hs⟩
  all_goals exact ⟨hstuck, harmed⟩

theorem configured_watchLaw (now : Time) (f : ChanConfig) (h : WatchLaw b) : WatchLaw (configured now f b) := by
  obtain ⟨hstuck, harmed⟩ := h
  unfold configured configState
  split
  · exact ⟨hstuck, harmed⟩
  · exact watchStuck_watchLaw now fun _ => .inl rfl
  · simp [WatchLaw, chanEnterOff, stuckCond]
  next hs _ => exact ⟨hstuck, fun _ => .inl hs⟩
  · exact ⟨hstuck, harmed⟩

theorem chanClearFaults_watchLaw (now : Time) (enable : EightSet) (h : WatchLaw b) :
    WatchLaw (chanClearFaults now enable b) := by
  obtain ⟨hstuck, harmed⟩ := h
  unfold chanClearFaults
  dsimp only
  split
  · exact ⟨hstuck, harmed⟩
  · split
    next hs =>
      have state : b.state = .faulted := hs.1
      refine ⟨?_, fun _ => .inl rfl⟩
      simpa [clearSlip, stuckCond, state] using hstuck
    next => exact ⟨hstuck, harmed⟩

theorem watchLaw_write (w : ChanWrite now enable b d) (h : WatchLaw b) : WatchLaw d := by
  obtain ⟨hstuck, harmed⟩ := id h
  cases w with
  | conditions th up lo => exact h
  | current active => exact watchStuck_watchLaw now harmed
  | stuckReported e he =>
    refine ⟨?_, harmed⟩
    have cond : stuckCond b ≠ false := mt hstuck.mpr (by simp [he])
    simpa [stuckCond] using cond
  | feedback released => exact feedbackChan_watchLaw now released h
  | feedbackLevel released => exact h
  | brakeReleased _ _ => exact h
  | torqueEnded => exact h
  | brakeEnded => exact h
  | confirmEnded => exact h
  | confirmArmed hs => exact ⟨hstuck, fun _ => .inr hs⟩
  | confirmDone => exact chanFinishStop_watchLaw now harmed
  | lineDropped _ => exact chanFinishStop_watchLaw now harmed
  | dwellEnded => exact h
  | period => exact h
  | encoder u ha _ => exact ⟨hstuck, ha ▸ harmed⟩
  | counted x _ => exact h
  | saturated dir _ => exact h
  | unreferenced => exact h
  | reading raw => exact h
  | overCounted n _ => exact h
  | underCounted n _ => exact h
  | calibrated z g => exact h
  | enveloped lo hi => exact h
  | limited side v c hw =>
    obtain ⟨w, p, up, lo, rfl⟩ := writeLimit_eq hw
    exact h
  | positioned x _ => exact h
  | configured f _ hs => exact configured_watchLaw now f h
  | faultsCleared => exact chanClearFaults_watchLaw now enable h

theorem chanInvariant_watchLaw : ChanInvariant WatchLaw where
  run := watchLaw_run
  write := watchLaw_write
  authority _ _ h := h
  load _ h := h
  reset held := by simp [WatchLaw, stuckCond, State.resetChan, State.resetOutput, State.resetPos]

/-- Settles O54: every run and every write of a channel record keeps the line, timer and duty laws together, and the law of the
watch by itself; and a step is a chain of such acts. -/
theorem everyStepKeepsLineLaws : Obligations.EveryStepKeepsLineLaws := by
  intro s t
  refine ⟨fun line timer duty hstep => ?_, fun watch hstep => chanInvariant_watchLaw.step watch hstep⟩
  have laws : EveryChan RunLaws t := chanInvariant_runLaws.step (fun i => ⟨line i, timer i, duty i⟩) hstep
  exact ⟨fun i => (laws i).1, fun i => (laws i).2.1, fun i => (laws i).2.2⟩

end Sys2Proof.Machine
end

section
/-! PROOFS. Every step keeps the fault set, the limit pair, the position, the envelope and the load items of a channel lawful. -/

namespace Sys2Proof.Machine

open Sys2Proof.Safety Relation

variable {s t : State} {now : Time} {enable : EightSet} {may : Prop} {b d : Chan}

/-- A run touches nothing that is stored in a channel record. -/
theorem RunMove.kept (m : RunMove now may b d) : ChanKept b d := by
  cases m with
  | dropped => exact ⟨rfl, rfl, rfl, rfl, rfl, rfl, rfl, rfl, rfl, rfl, rfl, rfl, rfl, rfl, rfl⟩
  | pended dir _ => exact ⟨rfl, rfl, rfl, rfl, rfl, rfl, rfl, rfl, rfl, rfl, rfl, rfl, rfl, rfl, rfl⟩
  | started dir _ _ => exact chanEnterStarting_kept now b dir
  | completed _ _ => exact chanEnterRunning_kept now b
  | stopped form => exact chanStop_kept now b form
  | faulted k => exact chanFault_kept now b k
  | duty x _ _ _ => exact ⟨rfl, rfl, rfl, rfl, rfl, rfl, rfl, rfl, rfl, rfl, rfl, rfl, rfl, rfl, rfl⟩

/-! ### The fault set and OFF (R2, R10, R12) -/

/-- A channel that is OFF exactly where it is of kind ABSENT, and FAULTED exactly where its fault set is not empty, stays so where
kind and fault set are kept and the state changes among the others. -/
theorem faultLaw_of_running (h : FaultLaw b) (hc : d.cfg = b.cfg) (hf : d.faults = b.faults)
    (hs : d.state = b.state ∨
      (b.state ≠ .off ∧ b.state ≠ .faulted ∧ d.state ≠ .off ∧ d.state ≠ .faulted)) : FaultLaw d := by
  obtain ⟨hfault, hoff⟩ := h
  rcases hs with same | ⟨bo, bf, dn, df⟩
  · exact ⟨by rw [same, hf]; exact hfault, by rw [same, hc]; exact hoff⟩
  · have calm : b.faults = 0 := by simpa [bf] using hfault
    have present : b.cfg.kind ≠ .absent := by simpa [bo] using hoff
    simp [FaultLaw, dn, df, hf, hc, calm, present]

theorem chanFinishStop_run (now : Time) (b : Chan) :
    (chanFinishStop now b).faults = b.faults ∧ ((chanFinishStop now b).state = b.state ∨
      (b.state ≠ .off ∧ b.state ≠ .faulted ∧ (chanFinishStop now b).state ≠ .off ∧
        (chanFinishStop now b).state ≠ .faulted)) := by
  obtain hc | ⟨⟨f, hf⟩, -, -, -, hc⟩ := chanFinishStop_eq now b <;> rw [hc]
  · simp
  · simp [chanPark, hf]

theorem chanFinishStop_faultLaw (now : Time) (h : FaultLaw b) : FaultLaw (chanFinishStop now b) :=
  faultLaw_of_running h (chanFinishStop_kept now b).cfg (chanFinishStop_run now b).1 (chanFinishStop_run now b).2

/-- A stop that is made of a channel in motion leaves it in STOPPING, and then perhaps PARKED. -/
theorem faultLaw_of_stopping {form : StopForm} (h : FaultLaw b) (hs : b.state ≠ .off ∧ b.state ≠ .faulted)
    (hd : d.state = .stopping form) (hc : d.cfg = b.cfg) (hf : d.faults = b.faults) : FaultLaw (chanFinishStop now d) :=
  chanFinishStop_faultLaw now (faultLaw_of_running h hc hf (.inr ⟨hs.1, hs.2, by simp [hd], by simp [hd]⟩))

theorem leaveRunning_faults (now : Time) (b : Chan) : (leaveRunning now b).faults = b.faults := by
  unfold leaveRunning; split <;> rfl

theorem chanStop_faultLaw (now : Time) (form : StopForm) (h : FaultLaw b) : FaultLaw (chanStop now form b) := by
  have released (hs : b.state ≠ .off ∧ b.state ≠ .faulted) : FaultLaw (stopReleased now form b) :=
    faultLaw_of_stopping (form := form) h hs rfl (leaveRunning_kept now b).cfg (leaveRunning_faults now b)
  unfold chanStop
  split
  next => exact h
  next => exact h
  next => exact h
  next hs =>
    split
    · exact released (by simp [hs])
    · exact faultLaw_of_stopping (form := form) h (by simp [hs]) rfl rfl rfl
  next hs => exact released (by simp [hs])
  next => exact h
  next hs =>
    cases form
    · exact h
    · exact faultLaw_of_stopping (form := .quick) h (by simp [hs]) rfl rfl rfl

theorem chanFault_faultLaw (now : Time) (k : FaultKind) (h : FaultLaw b) : FaultLaw (chanFault now k b) := by
  by_cases ho : b.state = .off
  · simpa [chanFault, ho] using h
  · have present : b.cfg.kind ≠ .absent := fun hk => ho (h.2.mpr hk)
    refine ⟨?_, ?_⟩
    · simpa [chanFault_state now b k ho, chanFault_faults now b k ho] using or_faultBit_ne_zero b.faults k
    · simp [chanFault_state now b k ho, (chanFault_kept now b k).cfg, present]

theorem faultLaw_run (m : RunMove now may b d) (h : FaultLaw b) : FaultLaw d := by
  have kept := m.kept
  cases m with
  | dropped => exact h
  | pended dir _ => exact h
  | started dir _ hs =>
    exact faultLaw_of_running h kept.cfg (by simp [chanEnterStarting]) (.inr (by simp [hs]))
  | completed hs _ => exact faultLaw_of_running h rfl rfl (.inr (by simp [hs]))
  | stopped form => exact chanStop_faultLaw now form h
  | faulted k => exact chanFault_faultLaw now k h
  | duty x _ _ _ => exact h

theorem feedbackChan_faultLaw (now : Time) (released : Bool) (h : FaultLaw b) : FaultLaw (feedbackChan now released b) := by
  unfold feedbackChan
  dsimp only
  split
  · split
    · exact h
    · exact chanFinishStop_faultLaw now h
  all_goals exact h

/-- A clear leaves no kind that the fault set did not hold. -/
theorem keptFaults_of_empty (enable : EightSet) (h : b.faults = 0) : keptFaults enable b = 0 := by
  simp [keptFaults, persistentKinds, hasFault, h]

theorem chanClearFaults_faultLaw (now : Time) (enable : EightSet) (h : FaultLaw b) :
    FaultLaw (chanClearFaults now enable b) := by
  obtain ⟨hfault, hoff⟩ := id h
  unfold chanClearFaults
  dsimp only
  split
  · exact h
  · split
    next hs =>
      have state : b.state = .faulted := hs.1
      have present : b.cfg.kind ≠ .absent := by simpa [state] using hoff
      have gone : keptFaults enable b = 0 := hs.2
      simp [FaultLaw, clearSlip, gone, present]
    next hs =>
      have left : b.state = .faulted → keptFaults enable b ≠ 0 := fun hf h0 => hs ⟨hf, h0⟩
      refine ⟨⟨left, fun h0 => ?_⟩, hoff⟩
      by_contra hf
      have calm : b.faults = 0 := by_contra fun hne => hf (hfault.mpr hne)
      exact h0 (keptFaults_of_empty enable calm)

/-- The kind stored takes a channel at rest into OFF where it is ABSENT, and into PARKED otherwise (the table of R22). -/
theorem configured_state (now : Time) (f : ChanConfig) (hs : b.state = .parked ∨ b.state = .off) :
    (configured now f b).state = if (clampConfig f).kind = .absent then .off else .parked := by
  unfold configured configState
  rcases hs with hs | hs <;> cases hk : (clampConfig f).kind <;>
    simp [storeEnvelope, hs, hk, chanLeaveOff, chanEnterOff]

/-- What a configuration stores, and what it leaves alone, whatever the kind does. -/
theorem configured_kept (now : Time) (f : ChanConfig) (b : Chan) :
    (configured now f b).cfg = clampConfig f ∧ (configured now f b).faults = b.faults ∧
      (configured now f b).position = b.position ∧ (configured now f b).window = b.window ∧
      (configured now f b).pendingLimit = b.pendingLimit ∧ (configured now f b).upper = b.upper ∧
      (configured now f b).lower = b.lower := by
  unfold configured configState
  split
  · exact ⟨rfl, rfl, rfl, rfl, rfl, rfl, rfl⟩
  · unfold chanLeaveOff
    have kept := watchStuck_kept now { storeEnvelope b.envMin b.envMax { b with cfg := clampConfig f } with
      state := .parked
      lastDir := none
      pos := { (storeEnvelope b.envMin b.envMax { b with cfg := clampConfig f }).pos with
        slipArmed := brakeKnownSet (storeEnvelope b.envMin b.envMax { b with cfg := clampConfig f }) } }
    exact ⟨kept.cfg, by rw [watchStuck_faults]; rfl, kept.position, kept.window, kept.pendingLimit, kept.upper, kept.lower⟩
  · exact ⟨rfl, rfl, rfl, rfl, rfl, rfl, rfl⟩
  · exact ⟨rfl, rfl, rfl, rfl, rfl, rfl, rfl⟩
  · exact ⟨rfl, rfl, rfl, rfl, rfl, rfl, rfl⟩

theorem configured_faultLaw (now : Time) (f : ChanConfig) (h : FaultLaw b) (hs : b.state = .parked ∨ b.state = .off) :
    FaultLaw (configured now f b) := by
  obtain ⟨cfg, faults, -⟩ := configured_kept now f b
  have calm : b.faults = 0 := by_contra fun hne => by
    have := h.1.mpr hne
    rcases hs with hs | hs <;> simp [hs] at this
  rw [FaultLaw, configured_state now f hs, cfg, faults, calm]
  split <;> simp_all

theorem faultLaw_write (w : ChanWrite now enable b d) (h : FaultLaw b) : FaultLaw d := by
  cases w with
  | conditions th up lo => exact h
  | current active =>
    exact faultLaw_of_running h (watchStuck_kept now { b with out := { b.out with cs := active } }).cfg
      (by simp) (.inl (by simp))
  | stuckReported e _ => exact h
  | feedback released => exact feedbackChan_faultLaw now released h
  | feedbackLevel released => exact h
  | brakeReleased _ _ => exact h
  | torqueEnded => exact h
  | brakeEnded => exact h
  | confirmEnded => exact h
  | confirmArmed _ => exact h
  | confirmDone => exact chanFinishStop_faultLaw now (b := { b with out := { b.out with confirmTimer := none } }) h
  | lineDropped _ =>
    exact chanFinishStop_faultLaw now
      (b := { b with out := { b.out with raise := false, lower := false, stopHoldTimer := none } }) h
  | dwellEnded => exact h
  | period => exact h
  | encoder u _ _ => exact h
  | counted x _ => exact h
  | saturated dir _ => exact h
  | unreferenced => exact h
  | reading raw => exact h
  | overCounted n _ => exact h
  | underCounted n _ => exact h
  | calibrated z g => exact h
  | enveloped lo hi => exact h
  | limited side v c hw =>
    obtain ⟨w, p, up, lo, rfl⟩ := writeLimit_eq hw
    exact h
  | positioned x _ => exact h
  | configured f _ hs => exact configured_faultLaw now f h hs
  | faultsCleared => exact chanClearFaults_faultLaw now enable h

theorem chanInvariant_faultLaw : ChanInvariant FaultLaw where
  run := faultLaw_run
  write := faultLaw_write
  authority _ _ h := h
  load _ h := h
  reset held := by simp [FaultLaw, State.resetChan, State.resetConfig]

/-! ### The limit pair, the position and the envelope (R18, R19, R51, R76) -/

/-- The limit law, the position law and the envelope law of one channel. -/
abbrev StoredLaws (b : Chan) : Prop := WindowLaw b ∧ PositionLaw b ∧ EnvelopeLaw b

/-- The items that these laws read, but for the bound flag, are kept by a run; where the flag is kept or gone, so are they. -/
theorem storedLaws_of_kept (k : ChanKept b d) (hb : d.pos.bound = b.pos.bound ∨ d.pos.bound = .none) (h : StoredLaws b) :
    StoredLaws d := by
  obtain ⟨window, ⟨hle, hlow, hhigh⟩, envelope⟩ := h
  refine ⟨?_, ⟨?_, ?_, ?_⟩, ?_⟩
  · rw [WindowLaw, k.pendingLimit, k.window, k.lower, k.upper]; exact window
  · rw [k.position]; exact hle
  · rw [k.position]; rcases hb with hb | hb <;> rw [hb]
    · exact hlow
    · simp
  · rw [k.position]; rcases hb with hb | hb <;> rw [hb]
    · exact hhigh
    · simp
  · rw [EnvelopeLaw, k.envMin, k.envMax, k.cfg]; exact envelope

theorem leaveRunning_bound (now : Time) (b : Chan) : (leaveRunning now b).pos.bound = b.pos.bound := by
  unfold leaveRunning; split <;> rfl

theorem chanFinishStop_bound (now : Time) (b : Chan) : (chanFinishStop now b).pos.bound = b.pos.bound := by
  obtain hc | ⟨-, -, -, -, hc⟩ := chanFinishStop_eq now b <;> rw [hc, watchStuck_pos]
  rfl

theorem chanStop_bound (now : Time) (form : StopForm) (b : Chan) : (chanStop now form b).pos.bound = b.pos.bound := by
  have released : (stopReleased now form b).pos.bound = b.pos.bound :=
    (chanFinishStop_bound now _).trans (leaveRunning_bound now b)
  unfold chanStop
  split
  · rfl
  · rfl
  · rfl
  · split
    · exact released
    · exact chanFinishStop_bound now _
  · exact released
  · rfl
  · cases form
    · rfl
    · exact chanFinishStop_bound now _

theorem chanFault_bound (now : Time) (k : FaultKind) (b : Chan) : (chanFault now k b).pos.bound = b.pos.bound := by
  have entered (b : Chan) : (chanEnterFaulted now b).pos.bound = b.pos.bound := by
    unfold chanEnterFaulted
    rw [watchStuck_pos]
    exact leaveRunning_bound now b
  unfold chanFault
  split
  · rfl
  · rfl
  all_goals exact entered _

theorem RunMove.bound (m : RunMove now may b d) : d.pos.bound = b.pos.bound := by
  cases m with
  | dropped => rfl
  | pended dir _ => rfl
  | started dir _ _ => simp [chanEnterStarting]
  | completed _ _ => rfl
  | stopped form => exact chanStop_bound now form b
  | faulted k => exact chanFault_bound now k b
  | duty x _ _ _ => rfl

theorem storedLaws_run (m : RunMove now may b d) (h : StoredLaws b) : StoredLaws d :=
  storedLaws_of_kept m.kept (.inl m.bound) h

theorem feedbackChan_kept (now : Time) (released : Bool) (b : Chan) :
    ChanKept b (feedbackChan now released b) ∧ (feedbackChan now released b).pos.bound = b.pos.bound := by
  unfold feedbackChan
  dsimp only
  split
  · split
    · exact ⟨⟨rfl, rfl, rfl, rfl, rfl, rfl, rfl, rfl, rfl, rfl, rfl, rfl, rfl, rfl, rfl⟩, rfl⟩
    · have kept := chanFinishStop_kept now { b with out := { b.out with bfb := released, confirmTimer := none } }
      have written : ChanKept b { b with out := { b.out with bfb := released, confirmTimer := none } } :=
        ⟨rfl, rfl, rfl, rfl, rfl, rfl, rfl, rfl, rfl, rfl, rfl, rfl, rfl, rfl, rfl⟩
      exact ⟨written.trans kept, chanFinishStop_bound now _⟩
  all_goals exact ⟨⟨rfl, rfl, rfl, rfl, rfl, rfl, rfl, rfl, rfl, rfl, rfl, rfl, rfl, rfl, rfl⟩, rfl⟩

/-- A limit write leaves a pair that is 20 counts wide where it is VALID, and one pending exactly while it is OPEN (R18, R19). -/
theorem writeLimit_windowLaw {side : Side} {v : Nat} (hw : writeLimit side v b = some d) : WindowLaw d := by
  unfold writeLimit at hw
  split at hw
  · obtain rfl := Option.some.inj hw
    simp [WindowLaw, openLimit]
  · split at hw
    · obtain rfl := Option.some.inj hw
      simp [WindowLaw, openLimit]
    · dsimp only at hw
      split at hw
      next hwide =>
        obtain rfl := Option.some.inj hw
        simpa [WindowLaw] using hwide
      next => cases hw

/-- A stored envelope lies within its bounds where 5/4 of the rated load is 1 at least (R76). -/
theorem storeEnvelope_envelopeLaw (lo hi : Nat) (h : 1 ≤ b.cfg.ratedLoad * 5 / 4) : EnvelopeLaw (storeEnvelope lo hi b) := by
  simp only [EnvelopeLaw, storeEnvelope, clamp]
  omega

theorem configured_storedLaws (now : Time) (f : ChanConfig) (h : StoredLaws b) : StoredLaws (configured now f b) := by
  obtain ⟨window, ⟨hle, hlow, hhigh⟩, -⟩ := h
  have load : 1 ≤ (clampConfig f).ratedLoad * 5 / 4 := by simp only [clampConfig, clamp]; omega
  have stored : StoredLaws (storeEnvelope b.envMin b.envMax { b with cfg := clampConfig f }) :=
    ⟨window, ⟨hle, hlow, hhigh⟩, storeEnvelope_envelopeLaw (b := { b with cfg := clampConfig f }) _ _ load⟩
  unfold configured configState
  split
  · exact stored
  · unfold chanLeaveOff
    exact storedLaws_of_kept (watchStuck_kept now _) (.inl (by simp)) stored
  · exact ⟨stored.1, ⟨hle, by simp [chanEnterOff], by simp [chanEnterOff]⟩, stored.2.2⟩
  · exact stored
  · exact stored

theorem storedLaws_write (w : ChanWrite now enable b d) (h : StoredLaws b) : StoredLaws d := by
  obtain ⟨window, ⟨hle, hlow, hhigh⟩, envelope⟩ := id h
  cases w with
  | conditions th up lo => exact h
  | current active =>
    exact storedLaws_of_kept (watchStuck_kept now { b with out := { b.out with cs := active } }) (.inl (by simp)) h
  | stuckReported e _ => exact h
  | feedback released => exact storedLaws_of_kept (feedbackChan_kept now released b).1 (.inl (feedbackChan_kept now released b).2) h
  | feedbackLevel released => exact h
  | brakeReleased _ _ => exact h
  | torqueEnded => exact h
  | brakeEnded => exact h
  | confirmEnded => exact h
  | confirmArmed _ => exact h
  | confirmDone =>
    exact storedLaws_of_kept (chanFinishStop_kept now { b with out := { b.out with confirmTimer := none } })
      (.inl (chanFinishStop_bound now _)) h
  | lineDropped _ =>
    exact storedLaws_of_kept (chanFinishStop_kept now
      { b with out := { b.out with raise := false, lower := false, stopHoldTimer := none } })
      (.inl (chanFinishStop_bound now _)) h
  | dwellEnded => exact h
  | period => exact h
  | encoder u _ hb => exact ⟨window, ⟨hle, hb ▸ hlow, hb ▸ hhigh⟩, envelope⟩
  | counted x hx => exact ⟨window, ⟨hx hle, by simp, by simp⟩, envelope⟩
  | saturated dir hs =>
    refine ⟨window, ⟨hle, ?_, ?_⟩, envelope⟩ <;> cases dir <;> simp_all [pastBound, boundOf]
    omega
  | unreferenced => exact h
  | reading raw => exact h
  | overCounted n _ => exact h
  | underCounted n _ => exact h
  | calibrated z g => exact h
  | enveloped lo hi => exact ⟨window, ⟨hle, hlow, hhigh⟩, storeEnvelope_envelopeLaw lo hi (by omega)⟩
  | limited side v c hw =>
    refine ⟨writeLimit_windowLaw hw, ?_⟩
    obtain ⟨w, p, up, lo, rfl⟩ := writeLimit_eq hw
    exact h.2
  | positioned x hx => exact ⟨window, ⟨hx, by simp [placed], by simp [placed]⟩, envelope⟩
  | configured f _ _ => exact configured_storedLaws now f h
  | faultsCleared =>
    refine storedLaws_of_kept (chanClearFaults_kept now b enable) (.inl ?_) h
    unfold chanClearFaults
    dsimp only
    split
    · rfl
    · split <;> rfl

theorem chanInvariant_storedLaws : ChanInvariant StoredLaws where
  run := storedLaws_run
  write := storedLaws_write
  authority _ _ h := h
  load _ h := h
  reset held := by
    simp [StoredLaws, WindowLaw, PositionLaw, EnvelopeLaw, State.resetChan, State.resetPos, State.resetConfig]

/-! ### The load items (R63, R73, R74) -/

theorem loadLaw_of_load (h : LoadLaw enable b) (hl : d.load = b.load) : LoadLaw enable d := by
  rw [LoadLaw, hl]; exact h

/-- The load items of a channel after a reading: the state derived, the ring of at most 4 with its mean, the counters not raised. -/
theorem takeReading_loadLaw (raw : Nat) (h : LoadLaw enable b) :
    LoadLaw enable { b with load := takeReading enable raw b.load } := by
  obtain ⟨-, hlen, hmean, hover, hunder⟩ := h
  refine ⟨takeReading_status _ _ _, ?_, ?_, ?_, ?_⟩ <;> unfold takeReading <;> dsimp only <;> split
  · exact hlen
  · exact ringJoin_length _ _ hlen
  · exact hmean
  · rfl
  · simp
  · exact hover
  · simp
  · exact hunder

/-- Empty items with their load state derived are lawful. -/
theorem emptied_loadLaw {u : LoadUnit} (hs : u.status = deriveLoad enable u) (hr : u.ring = []) (hf : u.filtered = 0)
    (ho : u.overCount = 0) (hu : u.underCount = 0) : LoadLaw enable { b with load := u } :=
  ⟨hs, by simp [hr], by simp [hr, hf, ringMean], by simp [ho], by simp [hu]⟩

theorem loadLaw_write (w : ChanWrite now enable b d) (h : LoadLaw enable b) : LoadLaw enable d := by
  obtain ⟨hs, hlen, hmean, hover, hunder⟩ := id h
  cases w with
  | conditions th up lo => exact h
  | current active =>
    exact loadLaw_of_load h (watchStuck_kept now { b with out := { b.out with cs := active } }).load
  | stuckReported e _ => exact h
  | feedback released => exact loadLaw_of_load h (feedbackChan_kept now released b).1.load
  | feedbackLevel released => exact h
  | brakeReleased _ _ => exact h
  | torqueEnded => exact h
  | brakeEnded => exact h
  | confirmEnded => exact h
  | confirmArmed _ => exact h
  | confirmDone => exact loadLaw_of_load h (chanFinishStop_kept now { b with out := { b.out with confirmTimer := none } }).load
  | lineDropped _ =>
    exact loadLaw_of_load h (chanFinishStop_kept now
      { b with out := { b.out with raise := false, lower := false, stopHoldTimer := none } }).load
  | dwellEnded => exact h
  | period => exact h
  | encoder u _ hb => exact h
  | counted x hx => exact h
  | saturated dir hs => exact h
  | unreferenced => exact h
  | reading raw => exact takeReading_loadLaw raw h
  | overCounted n hn => exact ⟨hs, hlen, hmean, hn, hunder⟩
  | underCounted n hn => exact ⟨hs, hlen, hmean, hover, hn⟩
  | calibrated z g => exact emptied_loadLaw rfl rfl rfl rfl rfl
  | enveloped lo hi => exact h
  | limited side v c hw =>
    obtain ⟨w, p, up, lo, rfl⟩ := writeLimit_eq hw
    exact h
  | positioned x hx => exact h
  | configured f _ _ =>
    unfold configured configState
    split
    · exact h
    · exact loadLaw_of_load h (watchStuck_kept now _).load
    · exact ⟨hs, hlen, hmean, by simp [chanEnterOff], by simp [chanEnterOff]⟩
    · exact h
    · exact h
  | faultsCleared => exact loadLaw_of_load h (chanClearFaults_kept now b enable).load

theorem move_load (m : Move s t) (i : Channel) : (t.chan i).load = (s.chan i).load := by
  cases m with
  | run j c r =>
    by_cases hi : i = j
    · subst hi; simpa using r.kept.load
    · simp [hi]
  | group g r _ => rfl
  | trip g cause ch _ => rfl
  | raised n => rfl
  | retripped => rfl
  | taken j _ _ _ =>
    by_cases hi : i = j
    · subst hi; simp
    · simp [hi]
  | given j _ =>
    by_cases hi : i = j
    · subst hi; simp
    · simp [hi]

theorem Moves.load (m : Moves s t) (i : Channel) : (t.chan i).load = (s.chan i).load :=
  m.induct (P := fun u => (u.chan i).load = (s.chan i).load) rfl fun _ _ m h => (move_load m i).trans h

theorem Moves.settings (m : Moves s t) : t.settings = s.settings := by
  obtain ⟨-, -, -, -, -, settings, -⟩ := m.keepsPart
  exact settings

/-- Every channel's load items are lawful under the enable set in force. -/
abbrev LoadLaws (s : State) : Prop := EveryChan (LoadLaw s.settings.enable) s

theorem loadLaws_moves (m : Moves s t) (h : LoadLaws s) : LoadLaws t := fun i => by
  rw [m.settings]
  exact loadLaw_of_load (h i) (m.load i)

/-- The input of a channel that does not enter or leave the enable set reads the same in both sets (R66). -/
theorem enableChan_loadLaw (old new : EightSet) (h : LoadLaw old b) : LoadLaw new (enableChan old new b) := by
  obtain ⟨hs, rest⟩ := id h
  unfold enableChan
  split
  next hn =>
    refine ⟨?_, rest⟩
    rw [hs, deriveLoad_none _ _ hn, deriveLoad_none _ _ hn]
  next k hk =>
    split
    next same =>
      refine ⟨?_, rest⟩
      rw [hs]
      simp [deriveLoad, hk, same]
    next => exact emptied_loadLaw rfl rfl rfl rfl rfl

theorem loadLaws_act (a : Act s t) (h : LoadLaws s) : LoadLaws t := by
  cases a with
  | move t m => exact loadLaws_moves (.single m) h
  | write cs w =>
    intro i
    change LoadLaw s.settings.enable (cs.get i)
    rcases w i with same | wrote
    · rw [same]; exact h i
    · exact loadLaw_write wrote (h i)
  | assigned i new _ =>
    have settings : (assignInput i new s).settings = s.settings := by
      unfold assignInput
      dsimp only
      split <;> rfl
    intro j
    rw [settings, assignInput_chan]
    split
    · exact emptied_loadLaw rfl rfl rfl rfl rfl
    · exact h j
  | enabled new =>
    intro i
    rw [storeEnable_chan, storeEnable_enable]
    split
    next same => exact same ▸ h i
    next => exact enableChan_loadLaw _ _ (h i)
  | set v he =>
    intro i
    change LoadLaw v.enable (s.chan i)
    rw [he]
    exact h i
  | cleared gs _ _ => exact h
  | owners held grouped gs _ _ _ =>
    intro i
    rw [State.reheld_chan]
    exact h i
  | inputs a _ => exact h
  | linked c l _ => exact h
  | boxed c pending mask => exact h
  | supplied u _ _ => exact h
  | watched st _ _ _ _ => exact h
  | eased st _ _ _ => exact h
  | halted st u _ m _ => exact loadLaws_moves (t := u) m h
  | unpowered v u _ m _ => exact loadLaws_moves m h
  | rest sc po ti fl fr => exact h
  | reset pins =>
    intro i
    rw [show (powerOnReset pins s).chan i = State.resetChan (pins.enc.get i) from Chans.get_mapIdx _ _ _]
    simp [LoadLaw, State.resetChan, State.resetLoad, deriveLoad, ringMean]

/-- Settles O59: the fault law and the stored laws are laws of one channel record that every act keeps; the load law is one under
the enable set in force, which moves with the set. -/
theorem everyStepKeepsRecordLaws : Obligations.EveryStepKeepsRecordLaws := by
  intro s t fault window position envelope load hstep
  have stored : EveryChan StoredLaws t :=
    chanInvariant_storedLaws.step (fun i => ⟨window i, position i, envelope i⟩) hstep
  refine ⟨chanInvariant_faultLaw.step fault hstep, fun i => (stored i).1, fun i => (stored i).2.1,
    fun i => (stored i).2.2, ?_⟩
  exact step_keeps (P := LoadLaws) (fun _ _ h => h) (fun _ _ => loadLaws_act) load hstep

end Sys2Proof.Machine
end

section
/-! PROOFS. Every step keeps it that a channel starts or runs only where nothing forbids a start, and the timers of the supply, of the
monitor and of the links true to their states. -/

namespace Sys2Proof.Machine

open Sys2Proof.Safety Relation

variable {s t : State} {now : Time} {enable : EightSet} {may : Prop} {b d : Chan}

/-! ### A channel starts or runs only where nothing forbids it (R4, R44, R151, R158) -/

theorem chanFinishStop_runs (now : Time) (h : ChanRuns (chanFinishStop now b)) : ChanRuns b := by
  obtain hc | ⟨-, -, -, -, hc⟩ := chanFinishStop_eq now b
  · simpa [ChanRuns, hc] using h
  · simp [ChanRuns, hc, chanPark] at h

/-- No write of a channel record makes it start or run. -/
theorem ChanWrite.runs (w : ChanWrite now enable b d) (h : ChanRuns d) : ChanRuns b := by
  cases w with
  | conditions th up lo => exact h
  | current active => simpa [ChanRuns] using h
  | stuckReported e _ => exact h
  | feedback released =>
    unfold feedbackChan at h
    dsimp only at h
    split at h
    · split at h
      · exact h
      · exact chanFinishStop_runs now (b := { b with out := { b.out with bfb := released, confirmTimer := none } }) h
    all_goals exact h
  | feedbackLevel released => exact h
  | brakeReleased _ _ => exact h
  | torqueEnded => exact h
  | brakeEnded => exact h
  | confirmEnded => exact h
  | confirmArmed _ => exact h
  | confirmDone => exact chanFinishStop_runs now (b := { b with out := { b.out with confirmTimer := none } }) h
  | lineDropped _ =>
    exact chanFinishStop_runs now (b := { b with out := { b.out with raise := false, lower := false, stopHoldTimer := none } }) h
  | dwellEnded => exact h
  | period => exact h
  | encoder u _ _ => exact h
  | counted x _ => exact h
  | saturated dir _ => exact h
  | unreferenced => exact h
  | reading raw => exact h
  | overCounted n _ => exact h
  | underCounted n _ => exact h
  | calibrated z g => exact h
  | enveloped lo hi => exact h
  | limited side v c hw =>
    obtain ⟨w, p, up, lo, rfl⟩ := writeLimit_eq hw
    exact h
  | positioned x _ => exact h
  | configured f _ hs =>
    rw [ChanRuns, configured_state now f hs] at h
    split at h <;> simp at h
  | faultsCleared =>
    unfold chanClearFaults at h
    dsimp only at h
    split at h
    · exact h
    · split at h
      · simp [ChanRuns] at h
      · exact h

theorem motionLaw_iff : MotionLaw s ↔ ∀ i, ChanRuns (s.chan i) → MayStart s := Iff.rfl

theorem motionLaw_moves (m : Moves s t) (h : MotionLaw s) : MotionLaw t := by
  rw [motionLaw_iff] at h ⊢
  intro i hr
  rw [mayStart_of_keepsPart m.keepsPart]
  by_contra hm
  exact hm (h i (m.runs hm i hr))

/-- Where the records start or run no more than before and nothing more is forbidden, the law stands. -/
theorem motionLaw_of_runs (h : MotionLaw s) (hr : ∀ i, ChanRuns (t.chan i) → ChanRuns (s.chan i))
    (hm : MayStart s → MayStart t) : MotionLaw t := fun i hi => hm (h i (hr i hi))

theorem motionLaw_of_nothingRuns (h : NothingRuns s) : MotionLaw s := fun i hi => absurd hi (not_or.mpr (h i))

theorem motionLaw_act (a : Act s t) (h : MotionLaw s) : MotionLaw t := by
  cases a with
  | move t m => exact motionLaw_moves (.single m) h
  | write cs w =>
    refine motionLaw_of_runs h (fun i hi => ?_) id
    rcases w i with same | wrote
    · exact same ▸ hi
    · exact wrote.runs hi
  | assigned i new _ =>
    have part : MayStart s → MayStart (assignInput i new s) := by
      unfold assignInput
      dsimp only
      split <;> exact id
    refine motionLaw_of_runs h (fun j hj => ?_) part
    rw [assignInput_chan] at hj
    split at hj
    next hij => exact hij ▸ hj
    next => exact hj
  | enabled new =>
    have part : MayStart s → MayStart (storeEnable new s) := by
      unfold storeEnable
      dsimp only
      split <;> exact id
    refine motionLaw_of_runs h (fun j hj => ?_) part
    rw [storeEnable_chan] at hj
    obtain ⟨u, hu⟩ := enableChan_eq s.settings.enable new (s.chan j)
    split at hj
    · exact hj
    · rw [hu] at hj; exact hj
  | set v _ => exact h
  | cleared gs _ _ => exact h
  | owners held grouped gs _ _ _ =>
    refine motionLaw_of_runs h (fun j hj => ?_) id
    rw [State.reheld_chan] at hj
    exact hj
  | inputs a _ => exact h
  | linked c l _ => exact h
  | boxed c pending mask => exact h
  | supplied u _ hr =>
    intro i hi
    obtain ⟨he, hm, hs⟩ := h i hi
    rcases hr with hon | hoff | nothing
    · exact ⟨he, hm, hon⟩
    · exact absurd hs hoff
    · exact absurd hi (not_or.mpr (nothing i))
  | watched st he hm _ _ =>
    refine motionLaw_of_runs h (fun _ => id) ?_
    rintro ⟨hestop, hmonitor, hsupply⟩
    exact ⟨he.trans hestop, mt hm.mp hmonitor, hsupply⟩
  | eased st he hm _ =>
    refine motionLaw_of_runs h (fun _ => id) ?_
    rintro ⟨hestop, hmonitor, hsupply⟩
    exact ⟨he hestop, hm hmonitor, hsupply⟩
  | halted st u _ m nothing => exact motionLaw_of_nothingRuns (s := u.retrip) nothing
  | unpowered v u _ m nothing => exact motionLaw_of_nothingRuns nothing
  | rest sc po ti fl fr => exact h
  | reset pins =>
    refine motionLaw_of_nothingRuns fun i => ?_
    rw [show (powerOnReset pins s).chan i = State.resetChan (pins.enc.get i) from Chans.get_mapIdx _ _ _]
    simp [State.resetChan]

/-! ### The timers of the supply, of the monitor and of the links (R41 to R45, R84, R157) -/

theorem supplyLaw_iff : SupplyLaw s ↔ SupplySound s.supply := Iff.rfl

theorem supplyLaw_of_supply (h : SupplyLaw s) (hs : t.supply = s.supply) : SupplyLaw t := by
  rw [supplyLaw_iff, hs]; exact h

theorem supplyLaw_act (a : Act s t) (h : SupplyLaw s) : SupplyLaw t := by
  cases a with
  | move t m => exact supplyLaw_of_supply h m.keepsPart.2.1
  | assigned i new _ =>
    refine supplyLaw_of_supply h ?_
    unfold assignInput
    dsimp only
    split <;> rfl
  | enabled new =>
    refine supplyLaw_of_supply h ?_
    unfold storeEnable
    dsimp only
    split <;> rfl
  | supplied u hu _ => exact hu h
  | halted st u _ m _ => exact supplyLaw_of_supply (t := u.retrip) h m.keepsPart.2.1
  | unpowered v u hu m _ =>
    rw [supplyLaw_iff, show t.supply = v from m.keepsPart.2.1]
    exact hu h
  | reset pins => simp [SupplyLaw, powerOnReset, State.reset]
  | _ => exact h

/-- The low timer and the link timers stand as the law says. -/
theorem monitorLinkLaw_iff :
    MonitorLinkLaw s ↔ LowTimerSound s.stops ∧ ∀ c, (s.link c).timer ≠ none ↔ (s.link c).state = .active := by
  refine ⟨fun ⟨hl, ha, hb⟩ => ⟨hl, fun c => ?_⟩, fun ⟨hl, hc⟩ => ⟨hl, hc .a, hc .b⟩⟩
  cases c
  · exact ha
  · exact hb

theorem monitorLinkLaw_of_keepsPart (k : KeepsPart s t) (h : MonitorLinkLaw s) : MonitorLinkLaw t := by
  obtain ⟨-, -, -, arb, stops, -⟩ := k
  rw [MonitorLinkLaw, arb, stops]
  exact h

theorem monitorLinkLaw_act (a : Act s t) (h : MonitorLinkLaw s) : MonitorLinkLaw t := by
  cases a with
  | move t m => exact monitorLinkLaw_of_keepsPart m.keepsPart h
  | assigned i new _ =>
    unfold assignInput
    dsimp only
    split <;> exact h
  | enabled new =>
    unfold storeEnable
    dsimp only
    split <;> exact h
  | inputs a ha =>
    rw [MonitorLinkLaw, show State.arb { s with arb := a } = a from rfl, ha]
    exact h
  | linked c l hl =>
    obtain ⟨low, links⟩ := monitorLinkLaw_iff.mp h
    refine monitorLinkLaw_iff.mpr ⟨low, fun k => ?_⟩
    by_cases hk : k = c
    · subst hk; simpa using hl
    · simpa [hk] using links k
  | watched st _ _ _ hl => exact ⟨hl h.1, h.2⟩
  | eased st _ _ hl => exact ⟨hl h.1, h.2⟩
  | halted st u hl m _ =>
    exact monitorLinkLaw_of_keepsPart (s := { s with stops := st }) (t := u.retrip)
      (keepsPart_trans m.keepsPart keepsPart_retrip) ⟨hl h.1, h.2⟩
  | unpowered v u _ m _ => exact monitorLinkLaw_of_keepsPart m.keepsPart h
  | reset pins =>
    by_cases hv : thresholdMv State.resetSettings.level ≤ pins.vctl <;>
      simp [MonitorLinkLaw, powerOnReset, State.reset, hv, startMs]
  | _ => exact h

/-- Settles O55: each of the three laws is kept by every act that a step is made of. -/
theorem everyStepKeepsMotionAndSupplyLaws : Obligations.EveryStepKeepsMotionAndSupplyLaws := by
  intro s t motion supply monitor hstep
  exact ⟨step_keeps (P := MotionLaw) (fun _ _ h => h) (fun _ _ => motionLaw_act) motion hstep,
    step_keeps (P := SupplyLaw) (fun _ _ h => h) (fun _ _ => supplyLaw_act) supply hstep,
    step_keeps (P := MonitorLinkLaw) (fun _ _ h => h) (fun _ _ => monitorLinkLaw_act) monitor hstep⟩

/-! ### The attention lines and TRIPOUT (R161, R183) -/

theorem attentionLaw_iff : AttentionLaw s ↔ ∀ c, (s.box c).atn = true ↔ (s.box c).pending &&& (s.box c).mask ≠ 0 :=
  ⟨fun ⟨ha, hb⟩ c => by cases c; exacts [ha, hb], fun h => ⟨h .a, h .b⟩⟩

theorem attentionLaw_of_notices (h : AttentionLaw s) (hn : t.notices = s.notices) : AttentionLaw t := by
  rw [AttentionLaw, hn]; exact h

theorem attentionLaw_move (m : Move s t) (h : AttentionLaw s) : AttentionLaw t := by
  cases m with
  | raised n => exact s.attentionLaw_raise n
  | _ => exact h

theorem attentionLaw_moves (m : Moves s t) (h : AttentionLaw s) : AttentionLaw t :=
  m.induct h fun _ _ => attentionLaw_move

theorem attentionLaw_act (a : Act s t) (h : AttentionLaw s) : AttentionLaw t := by
  cases a with
  | move t m => exact attentionLaw_move m h
  | assigned i new _ =>
    refine attentionLaw_of_notices h ?_
    unfold assignInput
    dsimp only
    split <;> rfl
  | enabled new =>
    refine attentionLaw_of_notices h ?_
    unfold storeEnable
    dsimp only
    split <;> rfl
  | boxed c pending mask =>
    rw [attentionLaw_iff] at h ⊢
    intro d
    by_cases hd : d = c
    · subst hd; rw [State.box_setBox, if_pos rfl]; exact noticeBox_atn_iff pending mask
    · simpa [hd] using h d
  | halted st u _ m _ => exact attentionLaw_moves (t := u) m h
  | unpowered v u _ m _ => exact attentionLaw_moves m h
  | reset pins => simp [AttentionLaw, powerOnReset, State.reset, State.resetNotices]
  | _ => exact h

/-- A move of a console group's record that is not a trip changes nothing of what TRIPOUT reads: the group is neither TRIPPED before nor
after it, or keeps its first cause. -/
theorem GrpMove.drives {n : ConsoleGroup} {r q : Group} (m : GrpMove (.console n) r q) (mask : ClassSet) :
    groupDrivesTripout mask q = groupDrivesTripout mask r := by
  have calm {r : Group} (h : r.state ≠ .tripped) : groupDrivesTripout mask r = false := by
    unfold groupDrivesTripout
    split <;> simp [h]
  cases m with
  | counted h => cases ht : r.trip <;> simp [groupDrivesTripout, countFurther, ht]
  | profile pr _ _ _ => rfl
  | updateTimed e _ => rfl
  | moving h => rw [calm (by simp), calm (by simp [h])]
  | held x e h => rw [calm (by simp), calm (by simp [h])]
  | released x ph h => rw [calm (by simp), calm (by simp [h])]
  | finishing e h => rfl
  | stopped ph h => rw [calm (by simp), calm (by intro hs; simp [hs, GroupState.stoppable] at h)]
  | paused m hg h _ => rw [calm (by simp), calm (by simp [h])]
  | ended h _ => rw [calm (by simp), calm (by simp [h])]
  | left hg _ => cases hg
  | completed head rest hs _ _ =>
    rw [calm (by simp [completedIdle]), calm (by rcases hs with hs | hs <;> simp [hs])]
  | followed head next rest pr e f hs _ _ _ _ => rw [calm (by simp), calm (by rcases hs with hs | hs <;> simp [hs])]
  | gone m _ pr d e f hs _ _ => rw [calm (by simp), calm (by rcases hs with hs | hs <;> simp [hs])]
  | jogged m _ pr d e f speed ramp hs _ => rw [calm (by simp), calm (by simp [hs])]
  | pendantJogged hg _ _ _ _ _ => cases hg
  | renewed _ _ d _ => rfl
  | loaded _ _ c _ => rfl
  | unqueued => cases hs : r.state <;> simp [clearedQueue, groupDrivesTripout, hs]
  | regrouped interval w _ => rfl
  | undeadlined _ => rfl
  | astray hg _ _ _ => cases hg

/-- TRIPOUT stands as it was where neither it nor what it reads has changed. -/
theorem tripoutLaw_of_drives (h : TripoutLaw s) (hs : t.stops.estop = s.stops.estop)
    (hm : t.stops.monitor = .low ↔ s.stops.monitor = .low) (ho : t.stops.tripout = s.stops.tripout)
    (hg : ∀ n, groupDrivesTripout t.settings.mask (t.grp (.console n)) =
      groupDrivesTripout s.settings.mask (s.grp (.console n))) : TripoutLaw t := by
  rw [TripoutLaw, hs, hm, ho]
  simpa only [hg] using h

theorem tripoutLaw_move (m : Move s t) (h : TripoutLaw s) : TripoutLaw t := by
  cases m with
  | group g r m =>
    refine tripoutLaw_of_drives h rfl Iff.rfl rfl fun n => ?_
    by_cases hg : g = .console n
    · subst hg; simpa using m.drives _
    · simp [Ne.symm hg]
  | trip g cause ch _ => exact State.tripoutLaw_retrip _
  | retripped => exact State.tripoutLaw_retrip _
  | _ => exact h

theorem tripoutLaw_moves (m : Moves s t) (h : TripoutLaw s) : TripoutLaw t := m.induct h fun _ _ => tripoutLaw_move

theorem tripoutLaw_act (a : Act s t) (h : TripoutLaw s) : TripoutLaw t := by
  cases a with
  | move t m => exact tripoutLaw_move m h
  | assigned i new _ =>
    unfold assignInput
    dsimp only
    split <;> exact h
  | enabled new =>
    unfold storeEnable
    dsimp only
    split <;> exact h
  | set v _ => exact State.tripoutLaw_retrip _
  | cleared gs _ _ => exact State.tripoutLaw_retrip _
  | owners held grouped gs hg _ _ =>
    refine tripoutLaw_of_drives h rfl Iff.rfl rfl fun n => ?_
    rw [show (s.reheld held grouped gs).grp (.console n) = gs.get (.console n) from rfl, hg]
    rfl
  | watched st he hm ht _ => exact tripoutLaw_of_drives h he hm ht fun _ => rfl
  | eased st _ _ _ => exact State.tripoutLaw_retrip _
  | halted st u _ _ _ => exact State.tripoutLaw_retrip _
  | unpowered v u _ m _ => exact tripoutLaw_moves m h
  | reset pins => simp [TripoutLaw, powerOnReset, State.reset, State.resetStops]
  | _ => exact h

/-- Settles O56: each act leaves the attention lines level with their sets, and TRIPOUT re-evaluated or what it reads unchanged. -/
theorem everyStepKeepsOutputLaws : Obligations.EveryStepKeepsOutputLaws := by
  intro s t attention tripout hstep
  exact ⟨step_keeps (P := AttentionLaw) (fun _ _ h => h) (fun _ _ => attentionLaw_act) attention hstep,
    step_keeps (P := TripoutLaw) (fun _ _ h => h) (fun _ _ => tripoutLaw_act) tripout hstep⟩

end Sys2Proof.Machine
end

section
/-! PROOFS. Every step keeps the members of a group held by its owner and of one kind (R80, R103), and every load input on one channel
(R64). -/

namespace Sys2Proof.Machine

open Sys2Proof.Safety Relation

variable {s t : State} {now : Time} {enable : EightSet} {may : Prop} {b d : Chan} {i : Channel}

/-! ### Holders, owners and kinds -/

/-- What the authority law reads of a channel record: `d` has the holder and the group of `b`, and where that is a group its
configuration, and is not OFF where `b` is not. -/
structure AuthorityKept (b d : Chan) : Prop where
  holder : d.holder = b.holder
  group  : d.group = b.group
  cfg    : b.group ≠ none → d.cfg = b.cfg
  off    : b.group ≠ none → d.state = .off → b.state = .off

theorem AuthorityKept.rfl' (b : Chan) : AuthorityKept b b := ⟨rfl, rfl, fun _ => rfl, fun _ h => h⟩

theorem authorityKept_of_kept (k : ChanKept b d) (h : d.state = .off → b.state = .off) : AuthorityKept b d :=
  ⟨k.holder, k.group, fun _ => k.cfg, fun _ => h⟩

/-- The law stands where each record keeps what it reads, and each console group its owner. -/
theorem authorityLaw_of_kept (h : AuthorityLaw s) (hc : ∀ i, AuthorityKept (s.chan i) (t.chan i))
    (hg : ∀ n, (t.grp (.console n)).owner = (s.grp (.console n)).owner) : AuthorityLaw t := by
  obtain ⟨hcon, hown, hpen, hoff, hkind⟩ := h
  refine ⟨fun n i hi => ?_, fun n => ?_, fun i => ?_, fun i hi => ?_, fun i j hi hij => ?_⟩
  · rw [ownerOf, hg, (hc i).holder]
    exact hcon n i ((hc i).group ▸ hi)
  · rw [ownerOf, hg]; exact hown n
  · rw [(hc i).group, (hc i).holder]; exact hpen i
  · rw [(hc i).group] at hi
    exact fun ho => hoff i hi ((hc i).off hi ho)
  · rw [(hc i).group] at hi hij
    rw [(hc j).group] at hij
    rw [(hc i).cfg hi, (hc j).cfg (hij ▸ hi)]
    exact hkind i j hi hij

theorem chanFinishStop_off (now : Time) (h : (chanFinishStop now b).state = .off) : b.state = .off := by
  obtain hc | ⟨-, -, -, -, hc⟩ := chanFinishStop_eq now b
  · simpa [hc] using h
  · simp [hc, chanPark] at h

theorem chanStop_off (now : Time) (form : StopForm) (h : (chanStop now form b).state = .off) : b.state = .off := by
  have released (h : (stopReleased now form b).state = .off) : b.state = .off := by
    have := chanFinishStop_off now h
    simp at this
  unfold chanStop at h
  split at h
  next hs => exact hs
  next => exact h
  next => exact h
  next =>
    split at h
    · exact released h
    · have := chanFinishStop_off now h
      simp at this
  next => exact released h
  next => exact h
  next =>
    cases form
    · exact h
    · have := chanFinishStop_off now h
      simp at this

/-- No run ends in OFF. -/
theorem RunMove.off (m : RunMove now may b d) (h : d.state = .off) : b.state = .off := by
  cases m with
  | dropped => exact h
  | pended dir _ => exact h
  | started dir _ _ => simp at h
  | completed _ _ => simp at h
  | stopped form => exact chanStop_off now form h
  | faulted k =>
    by_contra ho
    simp [chanFault_state now b k ho] at h
  | duty x _ _ _ => exact h

/-- A configuration changes neither holder nor group nor the input assigned (R22). -/
theorem configured_authority (now : Time) (f : ChanConfig) (b : Chan) :
    (configured now f b).holder = b.holder ∧ (configured now f b).group = b.group ∧
      (configured now f b).load.input = b.load.input := by
  unfold configured configState
  split
  · exact ⟨rfl, rfl, rfl⟩
  · unfold chanLeaveOff
    have load := congrArg LoadUnit.input (watchStuck_kept now { storeEnvelope b.envMin b.envMax { b with cfg := clampConfig f } with
      state := .parked
      lastDir := none
      pos := { (storeEnvelope b.envMin b.envMax { b with cfg := clampConfig f }).pos with
        slipArmed := brakeKnownSet (storeEnvelope b.envMin b.envMax { b with cfg := clampConfig f }) } }).load
    exact ⟨(watchStuck_kept now _).holder, (watchStuck_kept now _).group, load⟩
  · exact ⟨rfl, rfl, rfl⟩
  · exact ⟨rfl, rfl, rfl⟩
  · exact ⟨rfl, rfl, rfl⟩

theorem ChanWrite.authority (w : ChanWrite now enable b d) : AuthorityKept b d := by
  have same {d : Chan} (hh : d.holder = b.holder) (hg : d.group = b.group) (hc : d.cfg = b.cfg) (hs : d.state = b.state) :
      AuthorityKept b d := ⟨hh, hg, fun _ => hc, fun _ ho => hs ▸ ho⟩
  cases w with
  | conditions th up lo => exact same rfl rfl rfl rfl
  | current active =>
    have kept := watchStuck_kept now { b with out := { b.out with cs := active } }
    exact same kept.holder kept.group kept.cfg (by simp)
  | stuckReported e _ => exact same rfl rfl rfl rfl
  | feedback released =>
    refine authorityKept_of_kept (feedbackChan_kept now released b).1 fun h => ?_
    unfold feedbackChan at h
    dsimp only at h
    split at h
    · split at h
      · exact h
      · have off := chanFinishStop_off now h
        exact off
    all_goals exact h
  | feedbackLevel released => exact same rfl rfl rfl rfl
  | brakeReleased _ _ => exact same rfl rfl rfl rfl
  | torqueEnded => exact same rfl rfl rfl rfl
  | brakeEnded => exact same rfl rfl rfl rfl
  | confirmEnded => exact same rfl rfl rfl rfl
  | confirmArmed _ => exact same rfl rfl rfl rfl
  | confirmDone =>
    have kept := chanFinishStop_kept now { b with out := { b.out with confirmTimer := none } }
    refine ⟨kept.holder, kept.group, fun _ => kept.cfg, fun _ h => ?_⟩
    have off := chanFinishStop_off now h
    exact off
  | lineDropped _ =>
    have kept := chanFinishStop_kept now
      { b with out := { b.out with raise := false, lower := false, stopHoldTimer := none } }
    refine ⟨kept.holder, kept.group, fun _ => kept.cfg, fun _ h => ?_⟩
    have off := chanFinishStop_off now h
    exact off
  | dwellEnded => exact same rfl rfl rfl rfl
  | period => exact same rfl rfl rfl rfl
  | encoder u _ _ => exact same rfl rfl rfl rfl
  | counted x _ => exact same rfl rfl rfl rfl
  | saturated dir _ => exact same rfl rfl rfl rfl
  | unreferenced => exact same rfl rfl rfl rfl
  | reading raw => exact same rfl rfl rfl rfl
  | overCounted n _ => exact same rfl rfl rfl rfl
  | underCounted n _ => exact same rfl rfl rfl rfl
  | calibrated z g => exact same rfl rfl rfl rfl
  | enveloped lo hi => exact same rfl rfl rfl rfl
  | limited side v c hw =>
    obtain ⟨w, p, up, lo, rfl⟩ := writeLimit_eq hw
    exact same rfl rfl rfl rfl
  | positioned x _ => exact same rfl rfl rfl rfl
  | configured f hg _ =>
    obtain ⟨holder, group, -⟩ := configured_authority now f b
    exact ⟨holder, group, fun h => absurd hg h, fun h => absurd hg h⟩
  | faultsCleared =>
    refine authorityKept_of_kept (chanClearFaults_kept now b enable) fun h => ?_
    unfold chanClearFaults at h
    dsimp only at h
    split at h
    · exact h
    · split at h
      · simp at h
      · exact h

/-- A move of a console group's record keeps its owner. -/
theorem GrpMove.owner {n : ConsoleGroup} {r q : Group} (m : GrpMove (.console n) r q) : q.owner = r.owner := by
  cases m with
  | left hg _ => cases hg
  | pendantJogged hg _ _ _ _ _ => cases hg
  | astray hg _ _ _ => cases hg
  | unqueued => unfold clearedQueue; split <;> rfl
  | _ => rfl

/-- A member of the pendant group is of the group's kind, where its members are of one kind. -/
theorem kind_of_pendant_member (h : AuthorityLaw s) (hi : (s.chan i).group = some .pendant) :
    s.groupKind .pendant = some (s.chan i).cfg.kind := by
  obtain ⟨-, -, -, -, hkind⟩ := h
  have member : i ∈ s.members .pendant := by simpa [State.members, State.isMember] using hi
  obtain ⟨j, rest, hl⟩ := List.exists_cons_of_ne_nil (List.ne_nil_of_mem member)
  have first : j ∈ s.members .pendant := hl ▸ List.mem_cons_self
  have hj : (s.chan j).group = some .pendant := by simpa [State.members, State.isMember] using first
  simp [State.groupKind, hl, hkind j i (by simp [hj]) (hj.trans hi.symm)]

theorem authorityLaw_taken (h : AuthorityLaw s) (hh : (s.chan i).holder = .none) (ho : (s.chan i).state ≠ .off)
    (hk : ∀ k, s.groupKind .pendant = some k → k = (s.chan i).cfg.kind) :
    AuthorityLaw (s.setChan i { s.chan i with holder := .pendant, group := some .pendant }) := by
  obtain ⟨hcon, hown, hpen, hoff, hkind⟩ := id h
  have kinds (j : Channel) (hj : (s.chan j).group = some .pendant) : (s.chan j).cfg.kind = (s.chan i).cfg.kind :=
    hk _ (kind_of_pendant_member h hj)
  refine ⟨fun n j hj => ?_, hown, fun j => ?_, fun j => ?_, fun j k => ?_⟩
  · by_cases hji : j = i
    · subst hji; simp at hj
    · simp only [State.chan_setChan, if_neg hji] at hj ⊢
      exact hcon n j hj
  · by_cases hji : j = i
    · subst hji; simp
    · simpa [hji] using hpen j
  · by_cases hji : j = i
    · subst hji; simpa using ho
    · simpa [hji] using hoff j
  · by_cases hji : j = i <;> by_cases hki : k = i
    · simp [hji, hki]
    · subst hji
      simp only [State.chan_setChan, if_neg hki, if_pos]
      exact fun _ hk => (kinds k hk.symm).symm
    · subst hki
      simp only [State.chan_setChan, if_neg hji, if_pos]
      exact fun _ hj => kinds j hj
    · simpa [hji, hki] using hkind j k

theorem authorityLaw_given (h : AuthorityLaw s) (hh : (s.chan i).holder = .pendant) :
    AuthorityLaw (s.setChan i { s.chan i with holder := .none, group := none }) := by
  obtain ⟨hcon, hown, hpen, hoff, hkind⟩ := h
  refine ⟨fun n j hj => ?_, hown, fun j => ?_, fun j => ?_, fun j k => ?_⟩
  · by_cases hji : j = i
    · subst hji; simp at hj
    · simp only [State.chan_setChan, if_neg hji] at hj ⊢
      exact hcon n j hj
  · by_cases hji : j = i
    · subst hji; simp
    · simpa [hji] using hpen j
  · by_cases hji : j = i
    · subst hji; simp
    · simpa [hji] using hoff j
  · by_cases hji : j = i <;> by_cases hki : k = i
    · simp [hji, hki]
    · subst hji; simp
    · subst hki
      simp only [State.chan_setChan, if_neg hji, if_pos]
      exact fun hj hjn => absurd hjn hj
    · simpa [hji, hki] using hkind j k

theorem authorityLaw_move (m : Move s t) (h : AuthorityLaw s) : AuthorityLaw t := by
  cases m with
  | run j c r =>
    refine authorityLaw_of_kept h (fun i => ?_) fun _ => rfl
    by_cases hi : i = j
    · subst hi; simpa using authorityKept_of_kept r.kept r.off
    · simpa [hi] using .rfl' _
  | group g r m =>
    refine authorityLaw_of_kept h (fun i => .rfl' _) fun n => ?_
    by_cases hg : g = .console n
    · subst hg; simpa using m.owner
    · simp [Ne.symm hg]
  | trip g cause ch _ =>
    refine authorityLaw_of_kept h (fun i => .rfl' _) fun n => ?_
    by_cases hg : g = .console n
    · subst hg; simp [trippedRecord, endMoveTimers]
    · simp [Ne.symm hg]
  | raised n => exact h
  | retripped => exact h
  | taken j hh ho hk => exact authorityLaw_taken h hh ho hk
  | given j hh => exact authorityLaw_given h hh

theorem authorityLaw_moves (m : Moves s t) (h : AuthorityLaw s) : AuthorityLaw t := m.induct h fun _ _ => authorityLaw_move

theorem authorityLaw_act (a : Act s t) (h : AuthorityLaw s) : AuthorityLaw t := by
  cases a with
  | move t m => exact authorityLaw_move m h
  | write cs w =>
    refine authorityLaw_of_kept h (fun i => ?_) fun _ => rfl
    rcases w i with same | wrote
    · exact (show State.chan { s with chans := cs } i = s.chan i from same) ▸ .rfl' _
    · exact wrote.authority
  | assigned i new _ =>
    have groups : (assignInput i new s).groups = s.groups := by
      unfold assignInput
      dsimp only
      split <;> rfl
    refine authorityLaw_of_kept h (fun j => ?_) fun n => by rw [State.grp, groups]; rfl
    rw [assignInput_chan]
    split
    next hj => exact hj ▸ ⟨rfl, rfl, fun _ => rfl, fun _ h => h⟩
    next => exact .rfl' _
  | enabled new =>
    have groups : (storeEnable new s).groups = s.groups := by
      unfold storeEnable
      dsimp only
      split <;> rfl
    refine authorityLaw_of_kept h (fun j => ?_) fun n => by rw [State.grp, groups]; rfl
    obtain ⟨u, hu⟩ := enableChan_eq s.settings.enable new (s.chan j)
    rw [storeEnable_chan, hu]
    split
    · exact .rfl' _
    · exact ⟨rfl, rfl, fun _ => rfl, fun _ h => h⟩
  | cleared gs hg hp =>
    refine authorityLaw_of_kept h (fun j => .rfl' _) fun n => ?_
    change (gs.get (.console n)).owner = _
    rcases hg n with same | ⟨-, st, queue, pr, -, -, -, cleared⟩
    · rw [same]
    · rw [cleared]
  | owners held grouped gs _ _ ha => exact ha h
  | halted st u _ m _ => exact authorityLaw_moves (s := { s with stops := st }) (t := u) m h
  | unpowered v u _ m _ => exact authorityLaw_moves m h
  | reset pins =>
    have chans (i : Channel) : (powerOnReset pins s).chan i = State.resetChan (pins.enc.get i) := Chans.get_mapIdx _ _ _
    have owner (n : ConsoleGroup) : ((powerOnReset pins s).grp (.console n)).owner = .none := by fin_cases n <;> rfl
    simp [AuthorityLaw, chans, owner, State.resetChan]
  | _ => exact h

/-! ### Load inputs -/

theorem ChanWrite.input (w : ChanWrite now enable b d) : d.load.input = b.load.input := by
  cases w with
  | current active => exact congrArg LoadUnit.input (watchStuck_kept now { b with out := { b.out with cs := active } }).load
  | feedback released => rw [(feedbackChan_kept now released b).1.load]
  | confirmDone =>
    exact congrArg LoadUnit.input (chanFinishStop_kept now { b with out := { b.out with confirmTimer := none } }).load
  | lineDropped _ =>
    exact congrArg LoadUnit.input (chanFinishStop_kept now
      { b with out := { b.out with raise := false, lower := false, stopHoldTimer := none } }).load
  | reading raw => exact (takeReading_kept enable raw b.load).1
  | limited side v c hw =>
    obtain ⟨w, p, up, lo, rfl⟩ := writeLimit_eq hw
    rfl
  | configured f _ _ =>
    obtain ⟨-, -, input⟩ := configured_authority now f b
    exact input
  | faultsCleared => rw [(chanClearFaults_kept now b enable).load]
  | _ => rfl

theorem inputLaw_of_inputs (h : InputLaw s) (hi : ∀ i, (t.chan i).load.input = (s.chan i).load.input) : InputLaw t :=
  fun i j hne heq => h i j (by rwa [← hi]) (by rwa [← hi, ← hi])

theorem enableChan_input (old new : EightSet) (b : Chan) : (enableChan old new b).load.input = b.load.input := by
  unfold enableChan
  split
  · rfl
  · split <;> rfl

theorem inputLaw_act (a : Act s t) (h : InputLaw s) : InputLaw t := by
  cases a with
  | move t m => exact inputLaw_of_inputs h fun i => by rw [move_load m i]
  | write cs w =>
    refine inputLaw_of_inputs h fun i => ?_
    rcases w i with same | wrote
    · exact congrArg (fun b : Chan => b.load.input) same
    · exact wrote.input
  | assigned i new hn =>
    have free (j : Channel) (hj : j ≠ i) (hne : new ≠ none) : (s.chan j).load.input ≠ new := by
      obtain ⟨k, rfl⟩ := Option.ne_none_iff_exists'.mp hne
      have none : ∀ j, j ≠ i → (s.chan j).load.input ≠ some k := by simpa [inputElsewhere] using hn
      exact none j hj
    have input (j : Channel) :
        ((assignInput i new s).chan j).load.input = if j = i then new else (s.chan j).load.input := by
      rw [assignInput_chan]
      split <;> rfl
    intro j k hne heq
    rw [input] at hne heq
    rw [input] at heq
    by_cases hj : j = i <;> by_cases hk : k = i
    · rw [hj, hk]
    · simp only [hj, hk, if_true, if_false] at hne heq
      exact absurd heq.symm (free k hk hne)
    · simp only [hj, hk, if_true, if_false] at hne heq
      exact absurd heq (free j hj (heq ▸ hne))
    · simp only [hj, hk, if_false] at hne heq
      exact h j k hne heq
  | enabled new =>
    refine inputLaw_of_inputs h fun i => ?_
    rw [storeEnable_chan]
    split
    · rfl
    · exact enableChan_input _ _ _
  | owners held grouped gs _ _ _ => exact inputLaw_of_inputs h fun i => by rw [State.reheld_chan]; rfl
  | halted st u _ m _ => exact inputLaw_of_inputs (t := u.retrip) h fun i => congrArg LoadUnit.input (m.load i)
  | unpowered v u _ m _ => exact inputLaw_of_inputs h fun i => congrArg LoadUnit.input (m.load i)
  | reset pins =>
    have chans (i : Channel) : (powerOnReset pins s).chan i = State.resetChan (pins.enc.get i) := Chans.get_mapIdx _ _ _
    simp [InputLaw, chans, State.resetChan, State.resetLoad]
  | _ => exact h

/-- Settles O57: each act keeps what the authority law reads or writes holders, groups and owners together, and no act assigns an
input of another channel. -/
theorem everyStepKeepsAuthorityLaws : Obligations.EveryStepKeepsAuthorityLaws := by
  intro s t authority input hstep
  exact ⟨step_keeps (P := AuthorityLaw) (fun _ _ h => h) (fun _ _ => authorityLaw_act) authority hstep,
    step_keeps (P := InputLaw) (fun _ _ h => h) (fun _ _ => inputLaw_act) input hstep⟩

end Sys2Proof.Machine
end

section
/-! PROOFS. Every step keeps the timers, the record, the deadline and the queue of a group true to its state, and its progress within
0..65536. -/

namespace Sys2Proof.Machine

open Sys2Proof.Safety Relation

variable {s t : State} {r q : Group} {n : ConsoleGroup} {g : GroupId}

/-! ### The laws of one group record -/

theorem stoppable_inMove {st : GroupState} (h : st.stoppable = true) : st.inMove = true ∧ st ≠ .tripped := by
  cases st <;> simp_all [GroupState.stoppable, GroupState.inMove]

/-- CLEAR_QUEUE leaves the timers, and the state unless it is PAUSED (R108). -/
theorem groupTimerLaw_clearedQueue (h : GroupTimerLaw r) : GroupTimerLaw (clearedQueue r) := by
  unfold clearedQueue
  split
  case h_7 hs => simpa [GroupTimerLaw, GroupState.inMove, hs] using h
  all_goals exact h

/-- A move of a group's record keeps the timers and the trip record true to its state, where a pendant group jogs. -/
theorem groupTimerLaw_grpMove (m : GrpMove g r q) (h : GroupTimerLaw r) (hj : g = .pendant → r.moveKind = .jog) :
    GroupTimerLaw q := by
  obtain ⟨htrip, hupdate, hstart, hhold, hfinish⟩ := id h
  cases m with
  | counted hs => exact ⟨by simpa [countFurther, hs] using htrip, hupdate, hstart, hhold, hfinish⟩
  | profile pr hh hf _ => exact ⟨htrip, hupdate, hstart, by rwa [hh], by rwa [hf]⟩
  | updateTimed e he => exact ⟨htrip, by simpa [he] using hupdate, hstart, hhold, hfinish⟩
  | moving hs =>
    rw [hs] at htrip hupdate hhold hfinish
    exact ⟨by simpa using htrip, by simpa [GroupState.inMove] using hupdate, by simp, by simpa using hhold, by simp⟩
  | held x e hs =>
    rw [hs] at htrip hupdate hstart
    exact ⟨by simpa using htrip, by simpa [GroupState.inMove] using hupdate, by simpa using hstart, by simp, by simp⟩
  | released x ph hs =>
    rw [hs] at htrip hupdate hstart
    exact ⟨by simpa using htrip, by simpa [GroupState.inMove] using hupdate, by simpa using hstart, by simp, by simp⟩
  | finishing e hs => exact ⟨htrip, hupdate, hstart, hhold, fun _ => hs⟩
  | stopped ph hs =>
    obtain ⟨move, running⟩ := stoppable_inMove hs
    have updating : r.updateTimer ≠ none := hupdate.mpr move
    exact ⟨by simpa [endMoveTimers, running] using htrip, by simpa [endMoveTimers, GroupState.inMove] using updating,
      by simp [endMoveTimers], by simp [endMoveTimers], by simp [endMoveTimers]⟩
  | paused k hg hs hm =>
    rw [hs] at htrip hstart hhold hfinish
    exact ⟨by simpa using htrip, by simp [GroupState.inMove], by simpa using hstart, by simpa using hhold, by simpa using hfinish⟩
  | ended hs hg =>
    rw [hs] at htrip hstart hhold hfinish
    exact ⟨by simpa using htrip, by simp [GroupState.inMove], by simpa using hstart, by simpa using hhold, by simpa using hfinish⟩
  | left hg hs =>
    rw [hs] at hstart hhold hfinish
    exact ⟨by simp, by simp [GroupState.inMove], by simpa using hstart, by simpa using hhold, by simpa using hfinish⟩
  | completed head more hs hm hq =>
    have calm : r.state ≠ .tripped := by rcases hs with hs | hs <;> simp [hs]
    exact ⟨by simpa [completedIdle, calm] using htrip, by simp [completedIdle, GroupState.inMove], by simp [completedIdle],
      by simp [completedIdle], by simp [completedIdle]⟩
  | followed head next more pr e f hs hm hq hd hpr =>
    obtain ⟨-, hph, hpf⟩ := hpr
    have calm : r.state ≠ .tripped := by rcases hs with hs | hs <;> simp [hs]
    exact ⟨by simpa [calm] using htrip, by simp [GroupState.inMove], by simp, by simp [hph], by simp [hpf]⟩
  | gone k hg pr d e f hs hq hpr =>
    obtain ⟨-, hph, hpf⟩ := hpr
    have calm : r.state ≠ .tripped := by rcases hs with hs | hs <;> simp [hs]
    exact ⟨by simpa [calm] using htrip, by simp [GroupState.inMove], by simp, by simp [hph], by simp [hpf]⟩
  | jogged k hg pr d e f speed ramp hs hpr =>
    obtain ⟨-, hph, hpf⟩ := hpr
    exact ⟨by simpa [hs] using htrip, by simp [GroupState.inMove], by simp, by simp [hph], by simp [hpf]⟩
  | pendantJogged hg pr e f hs hpr =>
    obtain ⟨-, hph, hpf⟩ := hpr
    exact ⟨by simpa [hs] using htrip, by simp [GroupState.inMove], by simp, by simp [hph], by simp [hpf]⟩
  | renewed _ _ d hs => exact h
  | loaded _ _ c hl => exact h
  | unqueued => exact groupTimerLaw_clearedQueue h
  | regrouped interval w hs =>
    exact ⟨htrip, hupdate, hstart, by simp [State.resetProfile, hs], by simp [State.resetProfile]⟩
  | undeadlined hs => exact h
  | astray hg hm _ _ => simp [hj hg] at hm

/-- CLEAR_QUEUE leaves the head cue of a group in a move, and a PAUSED group in IDLE (R108). -/
theorem consoleGroupLaw_clearedQueue (h : ConsoleGroupLaw r) : ConsoleGroupLaw (clearedQueue r) := by
  obtain ⟨timers, hdeadline, hlen, hpaused, hcue⟩ := h
  refine ⟨groupTimerLaw_clearedQueue timers, ?_⟩
  have running (hm : r.state.inMove = true) : r.state ≠ .paused ∧ (r.moveKind = .cue → r.queue.take 1 ≠ []) :=
    ⟨fun hs => by simp [hs, GroupState.inMove] at hm, fun hk => by simpa using hcue hm hk⟩
  unfold clearedQueue
  split
  case h_1 hs | h_2 hs | h_3 hs | h_4 hs =>
    obtain ⟨moving, first⟩ := running (by simp [hs, GroupState.inMove])
    exact ⟨hdeadline, by simp, fun hp => absurd hp moving, fun _ => first⟩
  case h_5 hs => exact ⟨hdeadline, by simp, by simp [hs], by simp [hs, GroupState.inMove]⟩
  case h_6 hs => exact ⟨hdeadline, by simp, by simp [hs], by simp [hs, GroupState.inMove]⟩
  case h_7 hs =>
    exact ⟨by simpa [hs, GroupState.stoppable] using hdeadline, by simp, by simp, by simp [GroupState.inMove]⟩

theorem consoleGroupLaw_grpMove (m : GrpMove (.console n) r q) (h : ConsoleGroupLaw r) : ConsoleGroupLaw q := by
  obtain ⟨timers, hdeadline, hlen, hpaused, hcue⟩ := id h
  have timers' := groupTimerLaw_grpMove m timers (by simp)
  cases m with
  | counted hs => exact ⟨timers', hdeadline, hlen, hpaused, hcue⟩
  | profile pr _ _ _ => exact ⟨timers', hdeadline, hlen, hpaused, hcue⟩
  | updateTimed e he => exact ⟨timers', hdeadline, hlen, hpaused, hcue⟩
  | moving hs =>
    rw [hs] at hdeadline hcue
    exact ⟨timers', by simpa [GroupState.stoppable] using hdeadline, hlen, by simp, fun _ => hcue rfl⟩
  | held x e hs =>
    rw [hs] at hdeadline hcue
    exact ⟨timers', by simpa [GroupState.stoppable] using hdeadline, hlen, by simp, fun _ => hcue rfl⟩
  | released x ph hs =>
    rw [hs] at hdeadline hcue
    exact ⟨timers', by simpa [GroupState.stoppable] using hdeadline, hlen, by simp, fun _ => hcue rfl⟩
  | finishing e hs => exact ⟨timers', hdeadline, hlen, hpaused, hcue⟩
  | stopped ph hs =>
    obtain ⟨move, -⟩ := stoppable_inMove hs
    exact ⟨timers', by simp [endMoveTimers, GroupState.stoppable], hlen, by simp, fun _ => hcue move⟩
  | paused k hg hs hm =>
    rw [hs] at hdeadline hcue
    exact ⟨timers', by simpa [GroupState.stoppable] using hdeadline, hlen, fun _ => hcue rfl hm, by simp [GroupState.inMove]⟩
  | ended hs hg =>
    rw [hs] at hdeadline
    exact ⟨timers', by simpa [GroupState.stoppable] using hdeadline, hlen, by simp, by simp [GroupState.inMove]⟩
  | left hg _ => cases hg
  | completed head more hs hm hq =>
    have shorter : more.length ≤ 4 := by rw [hq] at hlen; exact (Nat.le_succ _).trans hlen
    exact ⟨timers', by simp [completedIdle, GroupState.stoppable], shorter, by simp [completedIdle],
      by simp [completedIdle, GroupState.inMove]⟩
  | followed head next more pr e f hs hm hq hd hpr =>
    have shorter : (next :: more).length ≤ 4 := by rw [hq] at hlen; exact (Nat.le_succ _).trans hlen
    exact ⟨timers', by simpa [GroupState.stoppable] using hd, shorter, by simp, by simp⟩
  | gone k _ pr d e f hs hq hpr => exact ⟨timers', by simp [GroupState.stoppable], hlen, by simp, fun _ _ => hq⟩
  | jogged k _ pr d e f speed ramp hs hpr => exact ⟨timers', by simp [GroupState.stoppable], hlen, by simp, by simp⟩
  | pendantJogged hg _ _ _ _ _ => cases hg
  | renewed _ _ d hs => exact ⟨timers', by simpa using hs, hlen, hpaused, hcue⟩
  | loaded _ _ c hl => exact ⟨timers', hdeadline, by simp; omega, by simp, by simp⟩
  | unqueued => exact consoleGroupLaw_clearedQueue h
  | regrouped interval w hs => exact ⟨timers', hdeadline, hlen, hpaused, hcue⟩
  | undeadlined hs => exact ⟨timers', by simpa using hs, hlen, hpaused, hcue⟩
  | astray hg _ _ _ => cases hg

/-- A trip leaves the record of a group with its timers stopped (R119). -/
theorem groupTimerLaw_trippedRecord (cause : TripCause) (ch : Option Channel) (r : Group) :
    GroupTimerLaw (trippedRecord cause ch r) := by
  simp [GroupTimerLaw, trippedRecord, endMoveTimers, GroupState.inMove]

theorem consoleGroupLaw_trippedRecord (cause : TripCause) (ch : Option Channel) (h : ConsoleGroupLaw r) :
    ConsoleGroupLaw (trippedRecord cause ch r) := by
  obtain ⟨-, -, hlen, -⟩ := h
  refine ⟨groupTimerLaw_trippedRecord cause ch r, ?_, hlen, ?_, ?_⟩ <;>
    simp [trippedRecord, endMoveTimers, GroupState.inMove, GroupState.stoppable]

theorem consoleGroupLaw_cleared (h : ConsoleGroupLaw r) (c : GroupCleared r q) : ConsoleGroupLaw q := by
  obtain ⟨⟨htrip, hupdate, hstart, hhold, hfinish⟩, hdeadline, hlen, hpaused, hcue⟩ := h
  obtain ⟨hm, st, queue, pr, hst, hqueue, hpr, rfl⟩ := c
  have still : r.state ≠ .starting ∧ r.state ≠ .holding ∧ r.state ≠ .moving ∧ r.state.stoppable = false := by
    cases hr : r.state <;> simp_all [GroupState.inMove, GroupState.stoppable]
  obtain ⟨notstarting, notholding, notmoving, notstoppable⟩ := still
  have update : r.updateTimer = none := by simpa [hm] using hupdate
  have start : r.startTimer = none := by simpa [notstarting] using hstart
  have deadline : r.deadline = none := by simpa [notstoppable] using hdeadline
  have hold : pr.holdTimer = none := by
    rcases hpr with rfl | rfl
    · simpa [notholding] using hhold
    · rfl
  have finish : pr.finishTimer = none := by
    rcases hpr with rfl | rfl
    · simpa [notholding, notmoving] using hfinish
    · rfl
  have length : queue.length ≤ 4 := by rcases hqueue with rfl | rfl <;> simp [hlen]
  rcases hst with rfl | ⟨rfl, hne⟩
  · simp [ConsoleGroupLaw, GroupTimerLaw, GroupState.inMove, GroupState.stoppable, update, start, deadline, hold, finish,
      length]
  · simp [ConsoleGroupLaw, GroupTimerLaw, GroupState.inMove, GroupState.stoppable, update, start, deadline, hold, finish,
      length, hne]

theorem pendantGroupLaw_grpMove (m : GrpMove .pendant r q) (h : PendantGroupLaw r) : PendantGroupLaw q := by
  obtain ⟨timers, howner, hkind, hqueue, hdeadline, hpaused⟩ := h
  have timers' := groupTimerLaw_grpMove m timers fun _ => hkind
  cases m with
  | counted hs => exact ⟨timers', howner, hkind, hqueue, hdeadline, hpaused⟩
  | profile pr _ _ _ => exact ⟨timers', howner, hkind, hqueue, hdeadline, hpaused⟩
  | updateTimed e _ => exact ⟨timers', howner, hkind, hqueue, hdeadline, hpaused⟩
  | moving _ => exact ⟨timers', howner, hkind, hqueue, hdeadline, by simp⟩
  | held x e _ => exact ⟨timers', howner, hkind, hqueue, hdeadline, by simp⟩
  | released x ph _ => exact ⟨timers', howner, hkind, hqueue, hdeadline, by simp⟩
  | finishing e _ => exact ⟨timers', howner, hkind, hqueue, hdeadline, hpaused⟩
  | stopped ph _ => exact ⟨timers', howner, hkind, hqueue, rfl, by simp⟩
  | paused k hg _ _ => cases hg
  | ended _ _ => exact ⟨timers', howner, hkind, hqueue, hdeadline, by simp⟩
  | left _ _ => exact ⟨timers', howner, hkind, hqueue, hdeadline, by simp⟩
  | completed head more _ _ hq => simp [hqueue] at hq
  | followed head next more pr e f _ _ hq _ _ => simp [hqueue] at hq
  | gone k hg _ _ _ _ _ _ _ => cases hg
  | jogged k hg _ _ _ _ _ _ _ _ => cases hg
  | pendantJogged _ pr e f _ _ => exact ⟨timers', howner, rfl, hqueue, hdeadline, by simp⟩
  | renewed k hg _ _ => cases hg
  | loaded k hg _ _ => cases hg
  | unqueued =>
    have emptied : clearedQueue r = { r with queue := [] } := by
      unfold clearedQueue
      split
      case h_7 hs => exact absurd hs hpaused
      all_goals simp [hqueue]
    rw [emptied] at timers' ⊢
    exact ⟨timers', howner, hkind, rfl, hdeadline, hpaused⟩
  | regrouped interval w _ => exact ⟨timers', howner, hkind, hqueue, hdeadline, hpaused⟩
  | undeadlined _ => exact ⟨timers', howner, hkind, hqueue, rfl, hpaused⟩
  | astray _ hm _ _ => simp [hkind] at hm

theorem pendantGroupLaw_trippedRecord (cause : TripCause) (ch : Option Channel) (h : PendantGroupLaw r) :
    PendantGroupLaw (trippedRecord cause ch r) := by
  obtain ⟨-, howner, hkind, hqueue, -, -⟩ := h
  exact ⟨groupTimerLaw_trippedRecord cause ch r, howner, hkind, hqueue, rfl, by simp [trippedRecord]⟩

/-! ### Every step -/

/-- A law of the five groups stands where one record has been written lawfully. -/
theorem groupLaw_setGrp (h : GroupLaw s) (hc : ∀ n, g = .console n → ConsoleGroupLaw r)
    (hp : g = .pendant → PendantGroupLaw r) : GroupLaw (s.setGrp g r) := by
  refine ⟨fun n => ?_, ?_⟩
  · by_cases hg : g = .console n
    · rw [State.grp_setGrp, if_pos hg.symm]; exact hc n hg
    · rw [State.grp_setGrp, if_neg (Ne.symm hg)]; exact h.1 n
  · by_cases hg : g = .pendant
    · rw [State.grp_setGrp, if_pos hg.symm]; exact hp hg
    · rw [State.grp_setGrp, if_neg (Ne.symm hg)]; exact h.2

theorem groupLaw_move (m : Move s t) (h : GroupLaw s) : GroupLaw t := by
  cases m with
  | group g r m =>
    refine groupLaw_setGrp h (fun n hg => ?_) fun hg => ?_ <;> subst hg
    · exact consoleGroupLaw_grpMove m (h.1 n)
    · exact pendantGroupLaw_grpMove m h.2
  | trip g cause ch _ =>
    refine groupLaw_setGrp (s := s) h (fun n hg => ?_) fun hg => ?_ <;> subst hg
    · exact consoleGroupLaw_trippedRecord cause ch (h.1 n)
    · exact pendantGroupLaw_trippedRecord cause ch h.2
  | _ => exact h

theorem groupLaw_moves (m : Moves s t) (h : GroupLaw s) : GroupLaw t := m.induct h fun _ _ => groupLaw_move

theorem groupLaw_of_groups (h : GroupLaw s) (hg : t.groups = s.groups) : GroupLaw t := by
  unfold GroupLaw State.grp
  rw [hg]
  exact h

theorem assignInput_groups (i : Channel) (new : Option LoadInput) (s : State) : (assignInput i new s).groups = s.groups := by
  unfold assignInput
  dsimp only
  split <;> rfl

theorem storeEnable_groups (new : EightSet) (s : State) : (storeEnable new s).groups = s.groups := by
  unfold storeEnable
  dsimp only
  split <;> rfl

theorem groupLaw_act (a : Act s t) (h : GroupLaw s) : GroupLaw t := by
  cases a with
  | move t m => exact groupLaw_move m h
  | assigned i new _ => exact groupLaw_of_groups h (assignInput_groups i new s)
  | enabled new => exact groupLaw_of_groups h (storeEnable_groups new s)
  | cleared gs hg hp =>
    refine ⟨fun n => ?_, ?_⟩
    · change ConsoleGroupLaw (gs.get (.console n))
      rcases hg n with same | cleared
      · rw [same]; exact h.1 n
      · exact consoleGroupLaw_cleared (h.1 n) cleared
    · change PendantGroupLaw (gs.get .pendant)
      rw [hp]; exact h.2
  | owners held grouped gs hg hp _ =>
    refine ⟨fun n => ?_, ?_⟩
    · change ConsoleGroupLaw (gs.get (.console n))
      rw [hg]; exact h.1 n
    · change PendantGroupLaw (gs.get .pendant)
      rw [hp]; exact h.2
  | halted st u _ m _ => exact groupLaw_moves (t := u) m h
  | unpowered v u _ m _ => exact groupLaw_moves m h
  | reset pins =>
    refine ⟨fun n => ?_, ?_⟩
    · rw [show (powerOnReset pins s).grp (.console n) = State.resetGroup by fin_cases n <;> rfl]
      simp [ConsoleGroupLaw, GroupTimerLaw, State.resetGroup, State.resetProfile, GroupState.inMove, GroupState.stoppable]
    · rw [show (powerOnReset pins s).grp .pendant = State.resetPendant from rfl]
      simp [PendantGroupLaw, GroupTimerLaw, State.resetPendant, State.resetGroup, State.resetProfile, GroupState.inMove]
  | _ => exact h

/-! ### Progress (R129) -/

theorem GrpMove.progress (m : GrpMove g r q) (h : r.prof.p ≤ 65536) : q.prof.p ≤ 65536 := by
  have fresh {pr : Profile} (hpr : FreshPlan pr) : pr.p ≤ 65536 := by simp [hpr.1]
  cases m with
  | profile pr _ _ hp => rcases hp with hp | hp <;> [exact hp ▸ h; exact hp]
  | followed _ _ _ pr _ _ _ _ _ _ hpr => exact fresh hpr
  | gone _ _ pr _ _ _ _ _ hpr => exact fresh hpr
  | jogged _ _ pr _ _ _ _ _ _ hpr => exact fresh hpr
  | pendantJogged _ pr _ _ _ hpr => exact fresh hpr
  | unqueued => unfold clearedQueue; split <;> exact h
  | regrouped _ _ _ => simp [State.resetProfile]
  | astray _ _ q hp => rcases hp with hp | hp <;> [exact hp ▸ h; exact hp]
  | _ => exact h

theorem progressLaw_setGrp (h : ProgressLaw s) (hr : r.prof.p ≤ 65536) : ProgressLaw (s.setGrp g r) := fun k => by
  rw [State.grp_setGrp]
  split
  · exact hr
  · exact h k

theorem progressLaw_move (m : Move s t) (h : ProgressLaw s) : ProgressLaw t := by
  cases m with
  | group g r m => exact progressLaw_setGrp h (m.progress (h g))
  | trip g cause ch _ => exact progressLaw_setGrp (s := s) h (h g)
  | _ => exact h

theorem progressLaw_moves (m : Moves s t) (h : ProgressLaw s) : ProgressLaw t := m.induct h fun _ _ => progressLaw_move

theorem progressLaw_of_groups (h : ProgressLaw s) (hg : t.groups = s.groups) : ProgressLaw t := by
  unfold ProgressLaw State.grp
  rw [hg]
  exact h

theorem progressLaw_act (a : Act s t) (h : ProgressLaw s) : ProgressLaw t := by
  cases a with
  | move t m => exact progressLaw_move m h
  | assigned i new _ => exact progressLaw_of_groups h (assignInput_groups i new s)
  | enabled new => exact progressLaw_of_groups h (storeEnable_groups new s)
  | cleared gs hg hp =>
    intro k
    change (gs.get k).prof.p ≤ 65536
    cases k with
    | pendant => rw [hp]; exact h .pendant
    | console n =>
      rcases hg n with same | ⟨-, st, queue, pr, -, -, hpr, cleared⟩
      · rw [same]; exact h (.console n)
      · rw [cleared]
        rcases hpr with rfl | rfl
        · exact h (.console n)
        · simp [State.resetProfile]
  | owners held grouped gs hg hp _ =>
    intro k
    change (gs.get k).prof.p ≤ 65536
    rw [hg]
    exact h k
  | halted st u _ m _ => exact progressLaw_moves (t := u) m h
  | unpowered v u _ m _ => exact progressLaw_moves m h
  | reset pins =>
    intro k
    cases k with
    | pendant => simp [powerOnReset, State.reset, State.grp, Groups.get, State.resetPendant, State.resetGroup, State.resetProfile]
    | console n =>
      rw [show (powerOnReset pins s).grp (.console n) = State.resetGroup by fin_cases n <;> rfl]
      simp [State.resetGroup, State.resetProfile]
  | _ => exact h

/-- Settles O58: the moves of a console group's record and of the pendant's keep their laws, and no move takes a progress past 65536. -/
theorem everyStepKeepsGroupLaw : Obligations.EveryStepKeepsGroupLaw := by
  intro s t
  exact ⟨fun law => step_keeps (P := GroupLaw) (fun _ _ h => h) (fun _ _ => groupLaw_act) law,
    fun law => step_keeps (P := ProgressLaw) (fun _ _ h => h) (fun _ _ => progressLaw_act) law⟩

end Sys2Proof.Machine
end

section
/-! PROOFS. The queue, the power-on reset and the first settlings. -/

namespace Sys2Proof.Machine

open Sys2Proof.Safety Relation

variable {s t : State}

/-! ### The queue -/

theorem act_pending (a : Act s t) : t.pending = s.pending := by
  have moved {s t : State} (m : Moves s t) : t.pending = s.pending := by
    obtain ⟨-, -, -, -, -, -, -, -, -, -, -, pending⟩ := m.keepsPart
    exact pending
  cases a with
  | move t m => exact moved (.single m)
  | assigned i new _ => unfold assignInput; dsimp only; split <;> rfl
  | enabled new => unfold storeEnable; dsimp only; split <;> rfl
  | halted st u _ m _ => exact moved (s := { s with stops := st }) (t := u) m
  | unpowered v u _ m _ => exact moved (s := { s with supply := v }) m
  | _ => rfl

/-- Settles O2: no act that a command is made of touches the queue. -/
theorem commandsKeepTheQueue : Obligations.CommandsKeepTheQueue := by
  intro c s t h
  exact (exec_acts h).induct (P := fun u => u.pending = s.pending) rfl fun _ _ a same => (act_pending a).trans same

/-- Settles O1, by the definition of a step. -/
theorem stepTakesFrontCommand : Obligations.StepTakesFrontCommand := by
  refine ⟨fun c rest s => rfl, fun s h => ?_⟩
  unfold step
  split
  · rfl
  next c rest hq => exact absurd (hq.symm.trans h) (by simp)

/-! ### Reset -/

theorem powerOnReset_chan (pins : ResetPins) (s : State) (i : Channel) :
    (powerOnReset pins s).chan i = State.resetChan (pins.enc.get i) := Chans.get_mapIdx _ _ _

theorem powerOnReset_console (pins : ResetPins) (s : State) (n : ConsoleGroup) :
    (powerOnReset pins s).grp (.console n) = State.resetGroup := by fin_cases n <;> rfl

/-- The monitor after a reset whose VCTL is at or above 21.0 V, and below it (R157). -/
theorem powerOnReset_monitor (pins : ResetPins) (s : State) :
    (21000 ≤ pins.vctl → (powerOnReset pins s).stops.monitor = .normal ∧ (powerOnReset pins s).stops.lowTimer = none) ∧
      (pins.vctl < 21000 →
        (powerOnReset pins s).stops.monitor = .dip ∧ (powerOnReset pins s).stops.lowTimer = some 10000) := by
  have threshold : thresholdMv State.resetSettings.level = 21000 := rfl
  refine ⟨fun h => ?_, fun h => ?_⟩
  · simp [powerOnReset, threshold, h]
  · have below : ¬21000 ≤ pins.vctl := by omega
    simp [powerOnReset, threshold, below, startMs, afterMs]

/-- Settles O3: the records of `powerOnReset` are those of the reset column. -/
theorem powerOnResetLeaves : Obligations.PowerOnResetLeaves := by
  intro pins s
  refine ⟨powerOnReset pins s, rfl, fun i => ?_, fun g => ?_, ?_⟩
  · rw [powerOnReset_chan]
    simp [State.resetChan, State.resetConfig, State.resetOutput, State.resetGen, State.resetPos, State.resetLoad, LinesOff]
  · rw [powerOnReset_console]
    simp [State.resetGroup, State.resetWindows, State.resetProfile]
  · refine ⟨rfl, rfl, rfl, rfl, rfl, rfl, rfl, rfl, rfl, rfl, fun g => ?_, rfl, rfl, rfl, rfl, rfl, rfl, rfl, rfl, rfl, rfl,
      rfl, rfl, rfl, rfl, rfl, rfl, (powerOnReset_monitor pins s).1, (powerOnReset_monitor pins s).2, rfl, rfl, rfl, rfl,
      rfl, rfl, rfl⟩
    cases g with
    | pendant => rfl
    | console n => rw [powerOnReset_console]; rfl

/-- Settles O4: each settling is taken where it has not been before. -/
theorem firstSettlingsTakeTheLines : Obligations.FirstSettlingsTakeTheLines := by
  intro thr ulim llim closed s
  refine ⟨fun h => ?_, fun h he => ?_⟩
  · change Host.Outcome.next (initialSettle thr ulim llim s) = _
    rw [initialSettle, if_neg (by simp [h])]
  · change Host.Outcome.next (estinSettle closed s) = _
    rw [estinSettle, if_neg (by simp [h])]
    cases closed with
    | false => simp [he]
    | true => simp [he, State.retrip, State.tripoutHolds]

theorem reset_chan (i : Channel) : State.reset.chan i = State.resetChan (Config.pinsAtReset.enc.get i) :=
  Chans.get_mapIdx _ _ _

theorem reset_console (n : ConsoleGroup) : State.reset.grp (.console n) = State.resetGroup := by fin_cases n <;> rfl

/-- A law of one channel record that holds of a record after reset holds of every channel of the state after reset. -/
theorem everyChan_reset {P : Chan → Prop} (h : ∀ held, P (State.resetChan held)) : EveryChan P State.reset := fun i => by
  rw [reset_chan]; exact h _

/-- Settles O60: nothing is held, grouped, moving or timed in the state after reset, and its E-stop is ACTIVE. -/
theorem resetSatisfiesTheLaws : Obligations.ResetSatisfiesTheLaws := by
  have run : EveryChan RunLaws State.reset := everyChan_reset chanInvariant_runLaws.reset
  have stored : EveryChan StoredLaws State.reset := everyChan_reset chanInvariant_storedLaws.reset
  refine ⟨fun i => (run i).1, fun i => (run i).2.1, fun i => (run i).2.2, fun i => (stored i).1, fun i => (stored i).2.1,
    fun i => (stored i).2.2, everyChan_reset fun held => ?load, motionLaw_of_nothingRuns fun i => ?motion, ?attention,
    ?tripout, ?authority, ⟨fun n => ?console, ?pendant⟩, everyChan_reset chanInvariant_faultLaw.reset, ?supply, ?link,
    ?input, everyChan_reset chanInvariant_watchLaw.reset, fun g => ?progress⟩
  case load => simp [LoadLaw, State.resetChan, State.resetLoad, deriveLoad, ringMean]
  case motion => simp [reset_chan, State.resetChan]
  case attention => simp [AttentionLaw, State.reset, State.resetNotices]
  case tripout => simp [TripoutLaw, State.reset, State.resetStops]
  case authority => simp [AuthorityLaw, ownerOf, reset_chan, reset_console, State.resetChan, State.resetGroup]
  case console =>
    rw [reset_console]
    simp [ConsoleGroupLaw, GroupTimerLaw, State.resetGroup, State.resetProfile, GroupState.inMove, GroupState.stoppable]
  case pendant =>
    change PendantGroupLaw State.resetPendant
    simp [PendantGroupLaw, GroupTimerLaw, State.resetPendant, State.resetGroup, State.resetProfile, GroupState.inMove]
  case supply => simp [SupplyLaw, State.reset]
  case link => simp [MonitorLinkLaw, State.reset, State.resetStops]
  case input => simp [InputLaw, reset_chan, State.resetChan, State.resetLoad]
  case progress =>
    cases g with
    | pendant => simp [State.reset, State.grp, Groups.get, State.resetPendant, State.resetGroup, State.resetProfile]
    | console n => rw [reset_console]; simp [State.resetGroup, State.resetProfile]

end Sys2Proof.Machine
end

section
/-! PROOFS. Channel inputs and sequence timers: a fault report made after a write of the channel's own record, start
completion, and the statements of the thermal contact, the current sense, the start timers and the reference period. -/

namespace Sys2Proof.Machine

open Sys2Proof.Safety Relation

variable {i : Channel} {k : FaultKind} {cause : TripCause} {s t u : State} {c : Chan}

/-! ### Reports after a write of the channel's own record -/

/-- `s'` differs from `s` in run items of channel `i` and in notices raised: the state in which a report on `i` is made. -/
structure Prepared (i : Channel) (s s' : State) : Prop where
  groups : s'.groups = s.groups
  part : KeepsPart s s'
  others : ∀ j, j ≠ i → s'.chan j = s.chan j
  stored : KeepsStored (s.chan i) (s'.chan i)
  authority : KeepsAuthority (s.chan i) (s'.chan i)
  position : (s'.chan i).position = (s.chan i).position

theorem prepared_setChan (hs : KeepsStored (s.chan i) c) (ha : KeepsAuthority (s.chan i) c)
    (hp : c.position = (s.chan i).position) : Prepared i s (s.setChan i c) :=
  ⟨rfl, keepsPart_of_records _ _, fun j hj => by simp [hj], by simpa using hs, by simpa using ha, by simpa using hp⟩

theorem Prepared.keepsRecords_trans (h : Prepared i s u) (hr : KeepsRecords u t) : KeepsRecords s t := by
  intro j
  by_cases hj : j = i
  · subst hj
    obtain ⟨hs, ha, hp⟩ := hr j
    have hs' := h.stored
    have ha' := h.authority
    simp only [KeepsStored, KeepsAuthority] at hs hs' ha ha' ⊢
    simp [hs, hs', ha, ha', hp, h.position]
  · exact h.others j hj ▸ hr j

theorem Prepared.keepsOthers_trans (h : Prepared i s u) (ho : KeepsOthers i u t) : KeepsOthers i s t := by
  intro j hj hg
  have same := h.others j hj
  rw [← same]
  exact ho j hj (by rw [same, h.authority.2]; exact hg)

theorem Prepared.tripTaken (h : Prepared i s u) (ht : TripTaken cause i u t) : TripTaken cause i s t := by
  intro g
  have hgrp (g : GroupId) : u.grp g = s.grp g := by simp [State.grp, h.groups]
  obtain ⟨moving, counted, other⟩ := ht g
  rw [h.authority.2, hgrp] at moving counted other
  refine ⟨fun hg hm => ?_, counted, other⟩
  obtain ⟨state, trip, update, start, deadline, noticed, fellows⟩ := moving hg hm
  refine ⟨state, trip, update, start, deadline, noticed, fun j hj hjg => ?_⟩
  have same := h.others j hj
  exact same ▸ fellows j hj (same ▸ hjg)

theorem Prepared.faultTaken (h : Prepared i s u) (hst : (u.chan i).state = (s.chan i).state)
    (hf : (u.chan i).faults = (s.chan i).faults) (ht : FaultTaken i k u t) : FaultTaken i k s t := by
  obtain ⟨state, faults, drops, noticed, trip, records, part, others⟩ := ht
  exact ⟨state, hf ▸ faults, hst ▸ drops, noticed, h.tripTaken trip, h.keepsRecords_trans records,
    keepsPart_trans h.part part, h.keepsOthers_trans others⟩

/-- The record of a channel on which a fault has been reported is the one of the table of R10, whatever its group does. -/
theorem faultReport_chan_self (ho : (s.chan i).state ≠ .off) :
    (faultReport i k s).chan i = chanFault s.timebase k (s.chan i) := by
  set r := (s.setChan i (chanFault s.timebase k (s.chan i))).raise (.chan i .fault) with hr
  have hri : r.chan i = chanFault s.timebase k (s.chan i) := by simp [hr]
  have hf : (r.chan i).state = .faulted := by rw [hri]; exact chanFault_state _ _ _ ho
  have hreport : faultReport i k s = (tripGroupOf (faultCause k) i r).retrip := by simp [faultReport, ho, hr]
  rw [hreport, State.retrip_chan, (tripGroupOf_of_faulted (i := i) hf).2.2.chan_of_faulted hf, hri]

/-! ### Start completion (R6, R113) -/

theorem startMs_1000 (now : Time) : startMs now 1000 = some (now + 1000000) := by simp [startMs, afterMs]

theorem startCompletion_eq :
    startCompletion i s = tellRunning i (s.setChan i (chanEnterRunning s.timebase (s.chan i))) := rfl

/-- The group of channel `i` has every other member arrived or RUNNING. -/
theorem all_running_iff (g : GroupId) (hi : (s.chan i).state = .running) :
    ((s.members g).all fun k => (s.member g k).arrived || decide ((s.chan k).state = .running)) = true ↔
      ∀ j : Channel, (s.chan j).group = some g → j ≠ i →
        ((s.grp g).prof.members.get j).arrived = true ∨ (s.chan j).state = .running := by
  simp only [List.all_eq_true, State.mem_members, Bool.or_eq_true, decide_eq_true_eq, State.member]
  constructor
  · exact fun h j hj _ => h j hj
  · intro h j hj
    by_cases hji : j = i
    · exact .inr (hji ▸ hi)
    · exact h j hj hji

/-- What a start completion leaves, said of the record that the channel has before it. -/
theorem startCompleted_startCompletion (hs : KeepsAuthority (s.chan i) c) :
    StartCompleted i c s (startCompletion i (s.setChan i c)) := by
  obtain ⟨-, hgc⟩ := hs
  set v := s.setChan i (chanEnterRunning s.timebase c) with hv
  have hstart : startCompletion i (s.setChan i c) = tellRunning i v := by simp [startCompletion_eq, hv]
  have hvi : v.chan i = chanEnterRunning s.timebase c := by simp [hv]
  have hvg : (v.chan i).group = (s.chan i).group := by rw [hvi]; exact hgc
  have hgroup (j : Channel) : (v.chan j).group = (s.chan j).group := by
    by_cases hj : j = i
    · rw [hj, hvg]
    · simp [hv, hj]
  have hstate (j : Channel) (hj : j ≠ i) : v.chan j = s.chan j := by simp [hv, hj]
  have record : v.chan i =
      { c with
        state := .running
        out := { c.out with torqueTimer := none, brakeTimer := none }
        pos := { c.pos with
          wrongDir := 0, noMotion := if c.cfg.kind = .fixedSpeed then some (s.timebase + 1000000) else none } } := by
    rw [hvi]; simp only [chanEnterRunning, startMs_1000]
  have all (g : GroupId) := all_running_iff (s := v) (i := i) g (by rw [hvi]; rfl)
  have part : KeepsPart s v := keepsPart_of_records _ _
  rw [hstart]
  unfold tellRunning
  rw [hvg]
  cases hg : (s.chan i).group with
  | none => exact ⟨record, hstate, fun g => by simp [hv, hg], rfl, part⟩
  | some g =>
    dsimp only
    have cond : ((v.grp g).state = .starting ∧
        ((v.members g).all fun k => (v.member g k).arrived || decide ((v.chan k).state = .running)) = true) ↔
        ((s.grp g).state = .starting ∧ ∀ j : Channel, (s.chan j).group = some g → j ≠ i →
          ((s.grp g).prof.members.get j).arrived = true ∨ (s.chan j).state = .running) := by
      rw [all g]
      refine and_congr Iff.rfl (forall_congr' fun j => ?_)
      rw [hgroup j]
      refine imp_congr_right fun _ => imp_congr_right fun hj => ?_
      rw [hstate j hj]; rfl
    split
    next h =>
      refine ⟨record, hstate, fun h' => ?_, rfl, keepsPart_trans part (keepsPart_of_records _ _)⟩
      by_cases hh : h' = g
      · subst hh
        rw [if_pos ⟨hg, cond.mp h⟩]
        simp [hv]
      · have hne : (s.chan i).group ≠ some h' := by simpa [hg] using Ne.symm hh
        simp [hv, hh, hne]
    next h =>
      refine ⟨record, hstate, fun h' => ?_, rfl, part⟩
      by_cases hh : h' = g
      · subst hh
        rw [if_neg fun hc => h (cond.mpr ⟨hc.2.1, hc.2.2⟩)]
        rfl
      · have hne : (s.chan i).group ≠ some h' := by simpa [hg] using Ne.symm hh
        simp [hv, hne]

/-! ### The thermal contact, the current sense and the stuck contactor (R14, R34) -/

theorem exec_thermalChange (isOpen : Bool) : exec (.thermalChange i isOpen) s = .next (thermalTo i isOpen s) := rfl

theorem exec_currentSenseChange (active : Bool) :
    exec (.currentSenseChange i active) s = .next (currentTo i active s) := rfl

theorem exec_stuckContactorTimeout : exec (.stuckContactorTimeout i) s = .next (stuckTimeout i s) := rfl

/-- Writing the channel record that stands changes nothing. -/
theorem State.setChan_eq_self (h : c = s.chan i) : s.setChan i c = s := by
  have hc : s.chans.set i c = s.chans := Chans.ext_get fun j => by
    by_cases hj : j = i
    · simp [hj, h, State.chan]
    · simp [hj]
  simp [State.setChan, hc]

theorem thermalTo_eq (isOpen : Bool) :
    thermalTo i isOpen s =
      if isOpen = true ∧ (s.chan i).thermal = false then
        (s.setChan i { s.chan i with thermal := true }).raise (.chan i .thermal)
      else s.setChan i { s.chan i with thermal := isOpen } := by
  unfold thermalTo
  split
  next h =>
    have same : s.setChan i { s.chan i with thermal := isOpen } = s := State.setChan_eq_self (by rw [← h])
    rw [if_neg (by rintro ⟨h1, h2⟩; simp [h1, h2] at h), same]
  next h =>
    cases isOpen
    · simp
    · simp [Bool.eq_false_iff.mpr h]

/-- The stuck-contactor watch as R34 states it. -/
theorem watchStuck_eq_stuck (now : Time) :
    watchStuck now c = { c with out := { c.out with
      stuck :=
        if c.state ≠ .off ∧ c.out.cs = true ∧ c.out.raise = false ∧ c.out.lower = false then
          (if c.out.stuck = .idle then .timing (now + 100000) else c.out.stuck)
        else .idle } } := by
  have cond : stuckCond c = true ↔
      c.state ≠ .off ∧ c.out.cs = true ∧ c.out.raise = false ∧ c.out.lower = false := by
    simp [stuckCond, and_assoc]
  unfold watchStuck
  split
  next h =>
    rw [if_pos (cond.mp h)]
    split
    next hi => rw [if_pos hi]; rfl
    next e he => rw [if_neg (by simp [he])]
    next he => rw [if_neg (by simp [he])]
  next h => rw [if_neg fun hc => h (cond.mpr hc)]

theorem stuckTimeout_of_timing {e : Time} (h : (s.chan i).out.stuck = .timing e) :
    stuckTimeout i s = faultReport i .stuckContactor
      (s.setChan i { s.chan i with out := { (s.chan i).out with stuck := .reported } }) := by
  simp [stuckTimeout, h]

/-- A report on channel `i` after a write of its run items alone is a report of the state before it. -/
theorem faultTaken_after_setChan (ho : (s.chan i).state ≠ .off) (hs : KeepsStored (s.chan i) c)
    (ha : KeepsAuthority (s.chan i) c) (hp : c.position = (s.chan i).position) (hst : c.state = (s.chan i).state)
    (hf : c.faults = (s.chan i).faults) : FaultTaken i k s (faultReport i k (s.setChan i c)) :=
  (prepared_setChan hs ha hp).faultTaken (by simpa using hst) (by simpa using hf)
    (faultTaken_faultReport (by simpa [hst] using ho))

/-- Settles O5, by the branches of each input. -/
theorem thermalAndCurrentInputs : Obligations.ThermalAndCurrentInputs := by
  unfold Obligations.ThermalAndCurrentInputs
  intro i isOpen active s
  refine ⟨by rw [exec_thermalChange, thermalTo_eq], ?_, ?_⟩
  · rw [exec_currentSenseChange, currentTo, State.modChan_eq, watchStuck_eq_stuck]
  · rintro ⟨e, he⟩ ho
    refine ⟨_, exec_stuckContactorTimeout, ?_⟩
    rw [stuckTimeout_of_timing he]
    exact faultTaken_after_setChan ho ⟨rfl, rfl, rfl, rfl, rfl, rfl, rfl, rfl, rfl⟩ ⟨rfl, rfl⟩ rfl rfl rfl

end Sys2Proof.Machine
end

section
/-! PROOFS. The start timers, the reference period, the speed and no-motion timers and the illegal encoder transition: what
a report leaves of the channel's own record, and their statements. -/

namespace Sys2Proof.Machine

open Sys2Proof.Safety Relation

variable {i : Channel} {k : FaultKind} {s t : State} {c : Chan} {now : Time}

/-! ### The record that a report leaves (R10, R33, R39) -/

theorem chanFault_of_not_faulted (ho : c.state ≠ .off) (hf : c.state ≠ .faulted) :
    chanFault now k c = chanEnterFaulted now { c with faults := c.faults ||| faultBit k } := by
  cases h : c.state <;> simp_all [chanFault]

theorem chanEnterFaulted_confirm : (chanEnterFaulted now c).out.confirmTimer = faultConfirm now c := by
  unfold chanEnterFaulted
  dsimp only
  obtain ⟨w, h⟩ := watchStuck_eq now (c :=
    { leaveRunning now c with
      state := .faulted
      startPending := none
      gen := { (leaveRunning now c).gen with pendingDuty := none }
      out := { (leaveRunning now c).out with
        raise := false, lower := false, brk := false, torqueTimer := none, brakeTimer := none, stopHoldTimer := none
        confirmTimer := faultConfirm now c, dwellTimer := none }
      pos := { (leaveRunning now c).pos with
        slipArmed := if c.cfg.bfbFitted then !c.out.bfb else (faultConfirm now c).isNone, noMotion := none } })
  rw [h]

theorem chanFault_confirm (ho : c.state ≠ .off) (hf : c.state ≠ .faulted) :
    (chanFault now k c).out.confirmTimer = faultConfirm now c := by
  rw [chanFault_of_not_faulted ho hf, chanEnterFaulted_confirm]
  rfl

/-- A report leaves the position unit but for the arming of the slip check and the no-motion timer (R10, R55, R59). -/
theorem chanFault_pos :
    ∃ a m, (chanFault now k c).pos = { c.pos with slipArmed := a, noMotion := m } ∧
      (c.pos.noMotion = none → m = none) := by
  have same : ∃ a m, c.pos = { c.pos with slipArmed := a, noMotion := m } ∧ (c.pos.noMotion = none → m = none) :=
    ⟨_, _, rfl, id⟩
  by_cases ho : c.state = .off
  · rw [chanFault, ho]; exact same
  by_cases hf : c.state = .faulted
  · rw [chanFault, hf]; exact same
  rw [chanFault_of_not_faulted ho hf]
  refine ⟨(chanEnterFaulted now { c with faults := c.faults ||| faultBit k }).pos.slipArmed, none, ?_, fun _ => rfl⟩
  simp only [chanEnterFaulted, watchStuck_pos]
  unfold leaveRunning
  split <;> rfl

theorem chanFault_gen_of_running (h : c.state = .running) :
    (chanFault now k c).gen.duty = 0 ∧ (chanFault now k c).gen.pendingDuty = none := by
  rw [chanFault_of_not_faulted (by simp [h]) (by simp [h])]
  simp [chanEnterFaulted, leaveRunning, h]

/-! ### The start timers (R27, R28) -/

theorem exec_torqueTimerExpiry : exec (.torqueTimerExpiry i) s = .next (torqueExpired i s) := rfl

theorem exec_brakeTimerExpiry : exec (.brakeTimerExpiry i) s = .next (brakeExpired i s) := rfl

theorem torqueExpired_proven (hs : (s.chan i).state = .starting) (ht : (s.chan i).out.torqueTimer ≠ none)
    (hcs : (s.chan i).out.cs = true) :
    torqueExpired i s =
      if (s.chan i).cfg.bfbFitted = true ∧ (s.chan i).out.bfb = true then
        startCompletion i (s.setChan i (chanReleaseBrake s.timebase (s.chan i)))
      else s.setChan i (chanReleaseBrake s.timebase (s.chan i)) := by
  simp [torqueExpired, hs, Option.isSome_iff_ne_none.mpr ht, hcs]

theorem torqueExpired_unproven (hs : (s.chan i).state = .starting) (ht : (s.chan i).out.torqueTimer ≠ none)
    (hcs : (s.chan i).out.cs = false) :
    torqueExpired i s = faultReport i .noCurrent
      (s.setChan i { s.chan i with out := { (s.chan i).out with torqueTimer := none } }) := by
  simp [torqueExpired, hs, Option.isSome_iff_ne_none.mpr ht, hcs]

theorem brakeExpired_eq (hs : (s.chan i).state = .starting) (ht : (s.chan i).out.brakeTimer ≠ none) :
    brakeExpired i s =
      if (s.chan i).cfg.bfbFitted = true then
        faultReport i .brakeNoRelease
          (s.setChan i { s.chan i with out := { (s.chan i).out with brakeTimer := none } })
      else startCompletion i (s.setChan i { s.chan i with out := { (s.chan i).out with brakeTimer := none } }) := by
  simp [brakeExpired, hs, Option.isSome_iff_ne_none.mpr ht]

/-- Settles O8, by the current at the first timer and the brake feedback at the second. -/
theorem startTimersExpire : Obligations.StartTimersExpire := by
  unfold Obligations.StartTimersExpire
  intro i s hs
  have ho : (s.chan i).state ≠ .off := by simp [hs]
  have hf : (s.chan i).state ≠ .faulted := by simp [hs]
  rw [exec_torqueTimerExpiry, exec_brakeTimerExpiry]
  refine ⟨fun ht hb => ⟨fun hcs hset => ?_, fun hcs hfit hbfb => ⟨_, rfl, ?_⟩, fun hcs => ⟨_, rfl, ?_⟩⟩,
    fun ht hb => ⟨fun hfit => ⟨_, rfl, ?_⟩, fun hfit => ⟨_, rfl, ?_⟩⟩⟩
  · rw [torqueExpired_proven hs ht hcs, if_neg (by rintro ⟨h1, h2⟩; simp [h1, h2] at hset)]
    rfl
  · rw [torqueExpired_proven hs ht hcs, if_pos ⟨hfit, hbfb⟩]
    exact startCompleted_startCompletion (c := chanReleaseBrake s.timebase (s.chan i)) ⟨rfl, rfl⟩
  · rw [torqueExpired_unproven hs ht hcs]
    refine ⟨faultTaken_after_setChan ho ⟨rfl, rfl, rfl, rfl, rfl, rfl, rfl, rfl, rfl⟩ ⟨rfl, rfl⟩ rfl rfl rfl, ?_⟩
    rw [faultReport_chan_self (by simpa using ho), chanFault_confirm (by simpa using ho) (by simpa using hf)]
    simp [faultConfirm, hs, hb]
  · rw [brakeExpired_eq hs ht, if_pos hfit]
    refine ⟨faultTaken_after_setChan ho ⟨rfl, rfl, rfl, rfl, rfl, rfl, rfl, rfl, rfl⟩ ⟨rfl, rfl⟩ rfl rfl rfl, ?_⟩
    rw [faultReport_chan_self (by simpa using ho), chanFault_confirm (by simpa using ho) (by simpa using hf)]
    simp [faultConfirm, hs, hb]
  · rw [brakeExpired_eq hs ht, if_neg (by simp [hfit])]
    exact startCompleted_startCompletion
      (c := { s.chan i with out := { (s.chan i).out with brakeTimer := none } }) ⟨rfl, rfl⟩

/-! ### The reference period and the timers of the position unit (R37, R38, R53, R59) -/

theorem exec_referencePeriodStart :
    exec (.referencePeriodStart i) s = .next (s.setChan i (periodStarts s.timebase (s.chan i))) := rfl

theorem exec_speedTimeoutExpiry : exec (.speedTimeoutExpiry i) s = .next (speedExpired i s) := rfl

theorem exec_noMotionExpiry : exec (.noMotionExpiry i) s = .next (motionExpired i s) := rfl

/-- The no-motion timer after a period start, as R59 states it. -/
theorem periodStarts_eq :
    periodStarts now c =
      { c with
        gen := { duty := c.gen.pendingDuty.getD c.gen.duty, pendingDuty := none, periodCode := c.cfg.refCode,
                 periodStart := now }
        pos := { c.pos with
          noMotion :=
            if c.cfg.kind = .variableSpeed ∧ c.state = .running then
              (if c.gen.pendingDuty.getD c.gen.duty < 16 then none
               else if c.pos.noMotion = none then some (now + 1000000) else c.pos.noMotion)
            else c.pos.noMotion } } := by
  have timer (d : Nat) (m : Timer) : (if 16 ≤ d then (if m.isSome then m else startMs now 1000) else none) =
      if d < 16 then none else if m = none then some (now + 1000000) else m := by
    by_cases hd : 16 ≤ d
    · have hlt : ¬d < 16 := by omega
      rw [if_pos hd, if_neg hlt, startMs_1000]
      cases m <;> simp
    · rw [if_neg hd, if_pos (by omega)]
  simp only [periodStarts, timer]

theorem timerDue_iff_due {e : Time} : timerDue now (some e) = true ↔ Due now e := by simp [Due]

theorem speedExpired_of_due {e : Time} (he : (s.chan i).pos.speedTimeout = some e) (hd : Due s.timebase e) :
    speedExpired i s =
      s.setChan i { s.chan i with pos := { (s.chan i).pos with capture := .empty, speed := 0, speedTimeout := none } } := by
  rw [speedExpired, he, if_pos (timerDue_iff_due.mpr hd)]
  rfl

theorem speedExpired_of_not_due {e : Time} (he : (s.chan i).pos.speedTimeout = some e) (hd : ¬Due s.timebase e) :
    speedExpired i s = s := by
  rw [speedExpired, he, if_neg fun h => hd (timerDue_iff_due.mp h)]

theorem motionExpired_of_due {e : Time} (he : (s.chan i).pos.noMotion = some e) (hd : Due s.timebase e)
    (hr : (s.chan i).state = .running) :
    motionExpired i s = faultReport i .noMotion
      (s.setChan i { s.chan i with pos := { (s.chan i).pos with noMotion := none } }) := by
  rw [motionExpired, he, if_pos (timerDue_iff_due.mpr hd)]
  simp [hr]

theorem motionExpired_of_not_due {e : Time} (he : (s.chan i).pos.noMotion = some e) (hd : ¬Due s.timebase e) :
    motionExpired i s = s := by
  rw [motionExpired, he, if_neg fun h => hd (timerDue_iff_due.mp h)]

/-- The level of REFn as R37 states it: the length of a period comes in half microseconds. -/
theorem refLine_eq :
    s.refLine i =
      decide ((s.timebase - (s.chan i).gen.periodStart).toNat * 2 * 255 <
        (s.chan i).gen.duty * periodHalfMicros (s.chan i).gen.periodCode) := by
  have order (n : Nat) : 2 * 255 * n = n * 2 * 255 := by omega
  simp only [State.refLine, order]

/-- Settles O11, by whether the expiry is due. -/
theorem periodSpeedAndMotionTimers : Obligations.PeriodSpeedAndMotionTimers := by
  unfold Obligations.PeriodSpeedAndMotionTimers
  intro i s
  refine ⟨by rw [exec_referencePeriodStart, periodStarts_eq], fun e he => ⟨fun hd => ?_, fun hd => ?_⟩,
    fun e he => ⟨fun hr hd => ⟨_, exec_noMotionExpiry, ?_⟩, fun hd => ?_⟩, ?_⟩
  · rw [exec_speedTimeoutExpiry, speedExpired_of_due he hd]
  · rw [exec_speedTimeoutExpiry, speedExpired_of_not_due he hd]
  · have ho : (s.chan i).state ≠ .off := by simp [hr]
    rw [motionExpired_of_due he hd hr]
    refine ⟨faultTaken_after_setChan ho ⟨rfl, rfl, rfl, rfl, rfl, rfl, rfl, rfl, rfl⟩ ⟨rfl, rfl⟩ rfl rfl rfl, ?_⟩
    rw [faultReport_chan_self (by simpa using ho)]
    obtain ⟨a, m, hpos, hm⟩ := chanFault_pos (now := (s.setChan i { s.chan i with
      pos := { (s.chan i).pos with noMotion := none } }).timebase) (k := .noMotion)
      (c := (s.setChan i { s.chan i with pos := { (s.chan i).pos with noMotion := none } }).chan i)
    refine ⟨?_, chanFault_gen_of_running (by simpa using hr)⟩
    rw [hpos]
    exact hm (by simp)
  · rw [exec_noMotionExpiry, motionExpired_of_not_due he hd]
  · rw [refLine_eq]
    rfl

/-! ### The illegal transition (R50) -/

theorem exec_encoderChange (seen : EncPair) : exec (.encoderChange i seen) s = .next (encoderTo i seen s) := rfl

/-- What the loss of the reference leaves (R52). -/
theorem loseReference_eq :
    loseReference i s =
      if (s.chan i).referenced = true then (s.setChan i { s.chan i with referenced := false }).raise (.chan i .refLost)
      else s := rfl

theorem loseReference_chan (j : Channel) :
    (loseReference i s).chan j = if j = i then { s.chan i with referenced := false } else s.chan j := by
  rw [loseReference_eq]
  split
  next h => simp
  next h =>
    split
    next hj => rw [hj, ← Bool.eq_false_iff.mpr h]
    next => rfl

theorem loseReference_groups : (loseReference i s).groups = s.groups := by
  rw [loseReference_eq]; split <;> rfl

theorem loseReference_timebase : (loseReference i s).timebase = s.timebase := by
  rw [loseReference_eq]; split <;> rfl

theorem keepsPart_loseReference : KeepsPart s (loseReference i s) := by
  rw [loseReference_eq]
  split
  · exact keepsPart_trans (keepsPart_of_records _ _) (keepsPart_raise _)
  · exact keepsPart_of_records s.chans s.groups

theorem pendingBoth_loseReference (h : (s.chan i).referenced = true) :
    PendingBoth (.chan i .refLost) (loseReference i s) := by
  rw [loseReference_eq, if_pos h]
  exact State.pendingBoth_raise _ _

/-- The state in which an illegal transition is reported: the seen pair is held, the reference lost, the measurement
emptied. -/
def transitionLost (i : Channel) (seen : EncPair) (s : State) : State :=
  let r := loseReference i (s.setChan i { s.chan i with pos := { (s.chan i).pos with held := seen } })
  r.setChan i { r.chan i with
    pos := { (r.chan i).pos with capture := .empty, speed := 0, speedTimeout := none, lastEdge := none } }

theorem transitionLost_chan_self (seen : EncPair) :
    (transitionLost i seen s).chan i =
      { s.chan i with
        referenced := false
        pos := { (s.chan i).pos with
          held := seen, capture := .empty, speed := 0, speedTimeout := none, lastEdge := none } } := by
  simp [transitionLost, loseReference_chan]

theorem prepared_transitionLost (seen : EncPair) : Prepared i s (transitionLost i seen s) where
  groups := by simp [transitionLost, loseReference_groups]
  part := keepsPart_trans (keepsPart_of_records _ _)
    (keepsPart_trans (keepsPart_loseReference (i := i)) (keepsPart_of_records _ _))
  others j hj := by simp [transitionLost, loseReference_chan, hj]
  stored := by rw [transitionLost_chan_self]; exact ⟨rfl, rfl, rfl, rfl, rfl, rfl, rfl, rfl, rfl⟩
  authority := by rw [transitionLost_chan_self]; exact ⟨rfl, rfl⟩
  position := by rw [transitionLost_chan_self]

theorem encoderTo_of_illegal {seen : EncPair} (ho : (s.chan i).state ≠ .off)
    (h : readPair (s.chan i).pos.held seen = .illegal) :
    encoderTo i seen s = faultReport i .encoder (transitionLost i seen s) := by
  simp only [encoderTo, if_neg ho, h]
  rfl

/-- Settles O13: ENCODER is reported in the state that the lost transition leaves. -/
theorem illegalTransitionLosesReference : Obligations.IllegalTransitionLosesReference := by
  unfold Obligations.IllegalTransitionLosesReference
  intro i seen s ho ha hb
  have hi := transitionLost_chan_self (s := s) (i := i) seen
  have taken : FaultTaken i .encoder s (faultReport i .encoder (transitionLost i seen s)) :=
    (prepared_transitionLost seen).faultTaken (by rw [hi]) (by rw [hi]) (faultTaken_faultReport (by rwa [hi]))
  have record := faultReport_chan_self (k := .encoder) (i := i) (s := transitionLost i seen s) (by rwa [hi])
  rw [hi] at record
  have kept := chanFault_kept (transitionLost i seen s).timebase { s.chan i with
    referenced := false
    pos := { (s.chan i).pos with
      held := seen, capture := .empty, speed := 0, speedTimeout := none, lastEdge := none } } .encoder
  obtain ⟨a, m, hpos, -⟩ := chanFault_pos (now := (transitionLost i seen s).timebase) (k := .encoder) (c :=
    { s.chan i with
      referenced := false
      pos := { (s.chan i).pos with
        held := seen, capture := .empty, speed := 0, speedTimeout := none, lastEdge := none } })
  refine ⟨_, exec_encoderChange seen, ?_⟩
  rw [encoderTo_of_illegal ho ((readPair_other_iff _ _).2.mpr ⟨ha, hb⟩)]
  refine ⟨taken, ?_⟩
  rw [record, hpos]
  refine ⟨kept.position, kept.referenced, rfl, rfl, rfl, rfl, rfl, rfl, rfl, fun href => ?_⟩
  have before : PendingBoth (.chan i .refLost) (transitionLost i seen s) :=
    pendingBoth_loseReference (s := s.setChan i { s.chan i with pos := { (s.chan i).pos with held := seen } })
      (by simpa using href)
  exact pendingBoth_of_keepsNotices before (faultTaken_faultReport (by rwa [hi])).2.2.2.2.2.2.1.1

end Sys2Proof.Machine
end

section
/-! PROOFS. A trip of a group that stays TRIPPED, the steps of R4 on a PARKED channel, and the statement of the reversal
dwell. -/

namespace Sys2Proof.Machine

open Sys2Proof.Safety Relation

variable {i : Channel} {g : GroupId} {cause : TripCause} {d : Dir} {s t u : State} {c p : Chan} {now : Time}

/-! ### A trip of a group that stays TRIPPED (R100, R119) -/

/-- The test of R100 does not take group `g` out of TRIPPED when it enters it: it is a console group, PENB is active, or a
member is not PARKED after its quick stop. -/
def StaysTripped (g : GroupId) (s : State) : Prop :=
  g = .pendant → s.arb.penb = true ∨
    ∃ j, (s.chan j).group = some g ∧ (chanStop s.timebase .quick (s.chan j)).state ≠ .parked

theorem pendantExit_of_penb (h : s.arb.penb = true) : pendantExit s = s := by simp [pendantExit, h]

theorem tripRecords_arb (ch : Option Channel) : (tripRecords g cause ch s).arb = s.arb := by rw [tripRecords_eq]

/-- Entry to TRIPPED of a group that stays there. -/
theorem tripEntered_of_stays (ch : Option Channel) (hstay : StaysTripped g s) :
    TripEntered g cause ch s (enterTripped g cause ch s) := by
  have hpart : KeepsPart s (tripRecords g cause ch s) := by rw [tripRecords_eq]; exact keepsPart_of_records _ _
  have hrecord := (tripRecords_grp (s := s) (g := g) (cause := cause) ch g).trans (if_pos rfl)
  have hothers (h : GroupId) (hne : h ≠ g) :=
    (tripRecords_grp (s := s) (g := g) (cause := cause) ch h).trans (if_neg hne)
  cases g with
  | console n =>
    rw [enterTripped_console_eq]
    refine ⟨hrecord, hothers, tripRecords_chan (cause := cause) ch, fun m hm => ?_,
      keepsPart_trans hpart (keepsPart_trans (keepsPart_raise _) keepsPart_retrip)⟩
    cases hm
    exact State.pendingBoth_raise _ _
  | pendant =>
    have stays : pendantExit (tripRecords .pendant cause ch s).retrip = (tripRecords .pendant cause ch s).retrip := by
      rcases hstay rfl with hp | ⟨j, hj, hst⟩
      · exact pendantExit_of_penb (by simpa [tripRecords_arb] using hp)
      · have hj' := tripRecords_chan (cause := cause) (s := s) (g := .pendant) ch j
        rw [if_pos hj] at hj'
        exact pendantExit_of_not_parked (i := j) (by simp [hj', (chanStop_kept _ _ _).group, hj]) (by simpa [hj'])
    rw [enterTripped_pendant_eq, stays]
    exact ⟨hrecord, hothers, tripRecords_chan (cause := cause) ch, fun m hm => (nomatch hm),
      keepsPart_trans hpart keepsPart_retrip⟩

/-- A trip that names a channel reaches the channel's group, which stays TRIPPED (R119). -/
theorem tripGroup_of_stays (hg : (s.chan i).group = some g) (hstay : StaysTripped g s) :
    TripTaken cause i s (tripGroup cause (some i) g s) ∧ KeepsPart s (tripGroup cause (some i) g s) ∧
      FellowsStopped i s (tripGroup cause (some i) g s) := by
  obtain ⟨hrest, htripped, hmove⟩ := tripGroup_cases s cause (some i) g
  have states : ((s.grp g).state = .idle ∨ (s.grp g).state = .paused) ∨ (s.grp g).state = .tripped ∨
      (s.grp g).state.inMove = true := by cases (s.grp g).state <;> simp [GroupState.inMove]
  rcases states with hidle | hcount | hin
  · rw [hrest hidle]
    refine ⟨tripTaken_of_group hg (fun _ _ => rfl) (fun _ => rfl) ?_ ?_, keepsPart_of_records _ _, fun j => .inl rfl⟩
    all_goals rcases hidle with h | h <;> simp [h, GroupState.inMove]
  · rw [htripped hcount]
    exact ⟨tripTaken_of_group hg (fun h hne => by simp [hne]) (by simp [hcount]) (by simp)
      (by simp [hcount, GroupState.inMove]), keepsPart_of_records _ _, fun j => .inl rfl⟩
  · rw [hmove hin]
    have entered := tripEntered_of_stays (cause := cause) (some i) hstay
    refine ⟨tripTaken_of_group hg entered.others ?_ ?_ fun _ => entered, entered.part, fun j => ?_⟩
    · rintro (h | h) <;> simp [h, GroupState.inMove] at hin
    · intro h; simp [h, GroupState.inMove] at hin
    · rw [entered.chans]
      split
      next hj => exact .inr ⟨by simp [hj], hj.trans hg.symm, rfl⟩
      next => exact .inl rfl

/-- A trip that names a channel reaches its group, if it is in one (R119). -/
theorem tripGroupOf_of_stays (hstay : ∀ g, (s.chan i).group = some g → StaysTripped g s) :
    TripTaken cause i s (tripGroupOf cause i s) ∧ KeepsPart s (tripGroupOf cause i s) ∧
      FellowsStopped i s (tripGroupOf cause i s) := by
  unfold tripGroupOf
  split
  next hg => exact ⟨fun g => by simp [hg], keepsPart_of_records _ _, fun j => .inl rfl⟩
  next g hg => exact tripGroup_of_stays hg (hstay g hg)

/-- A trip leaves the position, the stored items and the authority of every channel. -/
theorem FellowsStopped.keepsRecords (h : FellowsStopped i s t) : KeepsRecords s t := fun j => (h.chanKept j).stored

/-! ### The steps of R4 on a PARKED channel -/

theorem startTry_of_stopped (h : s.stops.estop ≠ .clear ∨ s.stops.monitor = .low) :
    startTry i d s = s.setChan i { s.chan i with startPending := none } := by simp [startTry, h]

theorem startTry_of_limited (h : ¬(s.stops.estop ≠ .clear ∨ s.stops.monitor = .low))
    (hl : limitOpen (s.chan i) d = true) : startTry i d s = limitRefused i s := by
  simp only [startTry, if_neg h, if_pos hl]

theorem startTry_of_waits (h : ¬(s.stops.estop ≠ .clear ∨ s.stops.monitor = .low))
    (hl : limitOpen (s.chan i) d = false)
    (hw : s.supply.state ≠ .on ∨ ((s.chan i).lastDir = some d.opposite ∧ (s.chan i).out.dwellTimer ≠ none)) :
    startTry i d s = s.setChan i { s.chan i with startPending := some d } := by
  simp only [startTry, if_neg h, hl, Bool.false_eq_true, if_false]
  rcases hw with hw | hw
  · rw [if_pos hw]
  · rw [if_pos (show (s.chan i).lastDir = some d.opposite ∧ (s.chan i).out.dwellTimer.isSome = true from
      ⟨hw.1, Option.isSome_iff_ne_none.mpr hw.2⟩)]
    exact ite_self _

theorem startTry_of_free (h : ¬(s.stops.estop ≠ .clear ∨ s.stops.monitor = .low))
    (hl : limitOpen (s.chan i) d = false)
    (hw : ¬(s.supply.state ≠ .on ∨ ((s.chan i).lastDir = some d.opposite ∧ (s.chan i).out.dwellTimer ≠ none))) :
    startTry i d s = s.setChan i (chanEnterStarting s.timebase d (s.chan i)) := by
  have hd : ¬((s.chan i).lastDir = some d.opposite ∧ (s.chan i).out.dwellTimer.isSome = true) := fun hd =>
    hw (.inr ⟨hd.1, Option.isSome_iff_ne_none.mp hd.2⟩)
  simp only [startTry, if_neg h, hl, Bool.false_eq_true, if_false, if_neg fun h => hw (.inl h), if_neg hd]

/-- A refused start drops the pending direction, raises LIMIT and trips the group (R16). -/
theorem limitRefused_taken (hp : (s.chan i).state = .parked)
    (hpen : (s.chan i).group = some .pendant → s.arb.penb = true) :
    (limitRefused i s).chan i = { s.chan i with startPending := none } ∧ PendingBoth (.chan i .limit) (limitRefused i s) ∧
      TripTaken .limitSwitch i s (limitRefused i s) ∧ KeepsRecords s (limitRefused i s) ∧ KeepsPart s (limitRefused i s) ∧
      KeepsOthers i s (limitRefused i s) := by
  set r := (s.setChan i { s.chan i with startPending := none }).raise (.chan i .limit) with hr
  have hri : r.chan i = { s.chan i with startPending := none } := by simp [hr]
  have prepared : Prepared i s r := by
    refine ⟨rfl, keepsPart_trans (keepsPart_of_records _ _) (keepsPart_raise _), fun j hj => by simp [hr, hj], ?_, ?_, ?_⟩
    all_goals rw [hri]
    · exact ⟨rfl, rfl, rfl, rfl, rfl, rfl, rfl, rfl, rfl⟩
    · exact ⟨rfl, rfl⟩
  have hrefused : limitRefused i s = tripGroupOf .limitSwitch i r := rfl
  obtain ⟨taken, part, fellows⟩ := tripGroupOf_of_stays (cause := .limitSwitch) (i := i) (s := r) fun g hg hgp =>
    .inl (hpen (by simpa [hri, hgp] using hg))
  have hi : (tripGroupOf .limitSwitch i r).chan i = r.chan i := by
    rcases fellows i with e | ⟨-, -, e⟩
    · exact e
    · rw [e, (chanStop_at_rest _ _ .quick).2 (by simpa [hri] using hp), hri]
  rw [hrefused, hi]
  exact ⟨hri, pendingBoth_of_keepsNotices (State.pendingBoth_raise _ _) part.1, prepared.tripTaken taken,
    prepared.keepsRecords_trans fellows.keepsRecords, keepsPart_trans prepared.part part,
    prepared.keepsOthers_trans fellows.keepsOthers⟩

/-- The items of a channel that enters STARTING (R26). -/
theorem chanEnterStarting_items :
    ∃ w, chanEnterStarting now d c =
      { c with
        state := .starting
        lastDir := some d
        startPending := none
        out := { c.out with
          raise := decide (d = .up), lower := decide (d = .down), brk := false
          torqueTimer := startMs now c.cfg.torqueTime, brakeTimer := none, stopHoldTimer := none, confirmTimer := none
          dwellTimer := none, stuck := w }
        pos := { c.pos with slipArmed := false } } := by
  unfold chanEnterStarting
  exact watchStuck_eq _ _

/-- A start tried on a PARKED channel with the record `p` goes as R4 says. -/
theorem retestMade_startTry (hp : p.state = .parked) (hs : KeepsStored (s.chan i) p) (ha : KeepsAuthority (s.chan i) p)
    (hpos : p.position = (s.chan i).position) : RetestMade i d p s (startTry i d (s.setChan i p)) := by
  have prepared := prepared_setChan hs ha hpos
  have hlimit : limitOpen p d = (match d with | .up => p.upperOpen | .down => p.lowerOpen) := by cases d <;> rfl
  refine ⟨fun h => ?_, fun h hl hpen => ?_, fun h hl hw => ?_, fun h hl hw => ?_⟩
  · rw [startTry_of_stopped (by simpa using h)]; simp
  · have hi : (s.setChan i p).chan i = p := by simp
    rw [startTry_of_limited (by simpa using h) (by rw [hi, hlimit]; exact hl)]
    obtain ⟨record, noticed, taken, records, part, others⟩ := limitRefused_taken (s := s.setChan i p) (i := i)
      (by rwa [hi]) fun hg => hpen (by rwa [hi, ha.2] at hg)
    exact ⟨record.trans (by rw [hi]), noticed, prepared.tripTaken taken, prepared.keepsRecords_trans records,
      keepsPart_trans prepared.part part, prepared.keepsOthers_trans others⟩
  · rw [startTry_of_waits (by simpa using h) (by rw [State.chan_setChan, if_pos rfl, hlimit]; exact Bool.eq_false_iff.mpr hl) (by simpa using hw)]; simp
  · rw [startTry_of_free (by simpa using h) (by rw [State.chan_setChan, if_pos rfl, hlimit]; exact Bool.eq_false_iff.mpr hl) (by simpa using hw)]
    obtain ⟨w, hstart⟩ := chanEnterStarting_items (now := s.timebase) (d := d) (c := p)
    have hst : (s.setChan i p).setChan i (chanEnterStarting (s.setChan i p).timebase d ((s.setChan i p).chan i)) =
        s.setChan i (chanEnterStarting s.timebase d p) := by simp
    rw [hst, hstart]
    have same := prepared_setChan (s := s) (i := i) (c := chanEnterStarting s.timebase d p)
      (by rw [hstart]; exact hs) (by rw [hstart]; exact ha) (by rw [hstart]; exact hpos)
    rw [hstart] at same
    have records : KeepsRecords _ _ := same.keepsRecords_trans fun j => ⟨⟨rfl, rfl, rfl, rfl, rfl, rfl, rfl, rfl, rfl⟩, ⟨rfl, rfl⟩, rfl⟩
    exact ⟨by simp, by simp, by simp, by simp, by simp, by simp, by simp, by simp, by simp, by simp, records,
      same.others, rfl, rfl, same.part⟩

/-! ### The reversal dwell (R35) -/

theorem exec_reversalDwellExpiry : exec (.reversalDwellExpiry i) s = .next (dwellExpired i s) := rfl

theorem retestPending_of_none (h : (s.chan i).startPending = none) : retestPending i s = s := by
  simp [retestPending, h]

theorem retestPending_of_some (h : (s.chan i).startPending = some d) (hp : (s.chan i).state = .parked) :
    retestPending i s = startTry i d s := by
  simp [retestPending, h, hp]

theorem dwellExpired_eq (h : (s.chan i).out.dwellTimer ≠ none) :
    dwellExpired i s =
      retestPending i (s.setChan i { s.chan i with out := { (s.chan i).out with dwellTimer := none } }) := by
  simp [dwellExpired, Option.isSome_iff_ne_none.mpr h]

/-- Settles O10: the expiry retests the start pending by the steps of R4. -/
theorem dwellExpiryRetestsTheStart : Obligations.DwellExpiryRetestsTheStart := by
  unfold Obligations.DwellExpiryRetestsTheStart
  intro i s hd
  rw [exec_reversalDwellExpiry, dwellExpired_eq hd]
  refine ⟨fun hn => by rw [retestPending_of_none (by simpa using hn)], fun d hsd hp => ⟨_, rfl, ?_⟩⟩
  rw [retestPending_of_some (by simpa using hsd) (by simpa using hp)]
  exact retestMade_startTry hp ⟨rfl, rfl, rfl, rfl, rfl, rfl, rfl, rfl, rfl⟩ ⟨rfl, rfl⟩ rfl

end Sys2Proof.Machine
end

section
/-! PROOFS. The control supply above its hysteresis, the refresh of a link, the ends of a frame and of a response, the
characters of a frame, and the requests that the link interface refuses itself. -/

namespace Sys2Proof.Machine

open Sys2Proof.Safety Relation

variable {c d : Console} {code b : Byte} {p bytes : List Byte} {gap : Time} {s t : State}

/-! ### Control low ends (R159) -/

theorem exec_vctlAboveHysteresis (mv : Nat) : exec (.vctlAboveHysteresis mv) s = .next (vctlTo mv s) := rfl

theorem thresholdMv_eq (n : Nat) : thresholdMv n = 18000 + 500 * n := rfl

/-- Above the hysteresis control low ends (R159). -/
theorem monitorCompare_ends (hm : s.stops.monitor = .low) (hv : thresholdMv s.settings.level + 500 < s.stops.vctl) :
    monitorCompare s = controlLowEnds s := by
  unfold monitorCompare
  simp only [hm, if_pos hv]

/-- Settles O19, by the branch of the monitor that ends control low. -/
theorem controlLowEndsAboveHysteresis : Obligations.ControlLowEnds := by
  unfold Obligations.ControlLowEnds
  intro mv s hm hv
  refine ⟨_, exec_vctlAboveHysteresis mv, ?_⟩
  rw [vctlTo, monitorCompare_ends (by simpa using hm) (by simpa [thresholdMv_eq] using hv)]
  exact ⟨State.pendingBoth_raise _ _, State.tripoutLaw_retrip _, rfl⟩

/-! ### The refresh of a link (R84, R85) -/

theorem refreshLink_of_active (h : (s.link c).state = .active) :
    refreshLink c s = s.setLink c { state := .active, timer := startMs s.timebase s.settings.linkTimeout } := by
  simp [refreshLink, h]

theorem refreshLink_of_not_active (h : (s.link c).state ≠ .active) :
    refreshLink c s =
      (s.setLink c { state := .active, timer := startMs s.timebase s.settings.linkTimeout }).raiseLink c := by
  simp [refreshLink, h]

/-- A console's box with LINK added is the one that R183 asks for. -/
theorem raiseLink_eq :
    s.raiseLink c = s.setBox c.other
      { pending := (s.box c.other).pending ||| noticeBit .link, mask := (s.box c.other).mask
        atn := decide (((s.box c.other).pending ||| noticeBit .link) &&& (s.box c.other).mask ≠ 0) } := by
  rw [State.raiseLink, boxRaise, noticeBox_eq]

/-- Settles O26, by whether the link was ACTIVE. -/
theorem goodFrameRefreshesLink : Obligations.GoodFrameRefreshesLink := by
  unfold Obligations.GoodFrameRefreshesLink
  intro c s
  refine ⟨_, rfl, refreshLink_link _ _, refreshLink_link_other _ _, refreshLink_box _ _, fun h => ?_, fun h => ?_,
    refreshLink_of_active, fun h => ?_, refreshLink_chans, refreshLink_groups, refreshLink_supply _ _,
    refreshLink_scanner _ _, refreshLink_stops _ _, refreshLink_settings _ _, ?_, refreshLink_station _ _,
    refreshLink_timebase _ _, refreshLink_pending _ _⟩
  · rw [refreshLink_of_active h]; rfl
  · rw [refreshLink_of_not_active h]; simp
  · rw [refreshLink_of_not_active h, raiseLink_eq]; rfl
  · by_cases h : (s.link c).state = .active
    · rw [refreshLink_of_active h]; rfl
    · rw [refreshLink_of_not_active h]; rfl

/-! ### The ends of a frame and of a response (R163, R165, R173) -/

theorem exec_gapTimerExpiry : exec (.gapTimerExpiry c) s = .next (gapExpired c s) := rfl

theorem exec_frameDiscarded (why : DiscardReason) : exec (.frameDiscarded c why) s = .next (abandon c s) := rfl

theorem exec_responseSent : exec (.responseSent c) s = .next (responseDone c s) := rfl

theorem gapExpired_of_receiving (h : s.port c = .receiving bytes gap) :
    gapExpired c s = if Due s.timebase gap then s.setPort c .hunting else s := by
  simp [gapExpired, h]

theorem abandon_of_receiving (h : s.port c = .receiving bytes gap) : abandon c s = s.setPort c .hunting := by
  simp [abandon, h, isAnswering]

/-- Settles O27, by the receiver state. -/
theorem receiverReturnsToHunting : Obligations.ReceiverReturnsToHunting := by
  unfold Obligations.ReceiverReturnsToHunting
  intro c why s
  rw [exec_gapTimerExpiry, exec_frameDiscarded, exec_responseSent]
  refine ⟨fun bytes gap h => ⟨fun hd => ?_, fun hd => ?_, ?_⟩, fun r h => ⟨?_, ?_, ?_⟩⟩
  · rw [gapExpired_of_receiving h, if_pos hd]
  · rw [gapExpired_of_receiving h, if_neg hd]
  · rw [abandon_of_receiving h]
  · simp [responseDone, h, isAnswering]
  · simp [gapExpired, h]
  · simp [abandon, h, isAnswering]

/-! ### The characters of a frame (R163, R164, R165) -/

theorem exec_requestCharacterReceived : exec (.requestCharacterReceived c b) s = .next (character c b s) := rfl

theorem gapFrom_eq (now : Time) : gapFrom now = now + 2000 := by simp [gapFrom, afterMs]

theorem character_of_start (h : s.port c = .hunting) (hb : b = 0xA5) :
    character c b s = s.setPort c (.receiving [] (s.timebase + 2000)) := by
  simp only [character, h, if_pos hb, gapFrom_eq]

theorem character_of_noise (h : s.port c = .hunting) (hb : b ≠ 0xA5) : character c b s = s := by
  simp only [character, h, if_neg hb]

theorem character_of_answering (h : isAnswering (s.port c) = true) : character c b s = s := by
  cases hp : s.port c <;> simp_all [character, isAnswering]

theorem character_of_receiving (h : s.port c = .receiving bytes gap) :
    character c b s = frameByte c (bytes ++ [b]) s := by simp only [character, h]

/-- A character that neither has too long a LEN nor ends the frame is collected, and starts the gap timer again. -/
theorem frameByte_collects (hlen : ¬(p.length = 2 ∧ 64 < byteAt p 1)) (hend : ¬(2 ≤ p.length ∧ p.length = byteAt p 1 + 5)) :
    frameByte c p s = s.setPort c (.receiving p (s.timebase + 2000)) := by
  rw [frameByte, if_neg hlen, if_neg hend, gapFrom_eq]

/-- Settles O29, by the receiver state and the number of bytes collected. -/
theorem charactersCollectAFrame : Obligations.CharactersCollectAFrame := by
  unfold Obligations.CharactersCollectAFrame
  intro c b s
  rw [exec_requestCharacterReceived]
  refine ⟨fun h hb => by rw [character_of_start h hb], fun h hb => by rw [character_of_noise h hb],
    fun h => by rw [character_of_answering h], fun bytes gap h => ?_⟩
  rw [character_of_receiving h]
  refine ⟨fun h0 => ?_, fun h1 hb => ?_, fun h1 hb => ?_, fun h2 hb => ?_⟩
  · obtain rfl := List.length_eq_zero_iff.mp h0
    rw [frameByte_collects (by simp) (by simp)]
    rfl
  · obtain ⟨a, rfl⟩ := List.length_eq_one_iff.mp h1
    rw [frameByte, if_pos ⟨rfl, by simpa [byteAt] using hb⟩]
  · obtain ⟨a, rfl⟩ := List.length_eq_one_iff.mp h1
    rw [frameByte_collects (by simpa [byteAt] using hb) (by simp [byteAt])]
  · have hbyte : byteAt (bytes ++ [b]) 1 = (bytes.getD 1 0).toNat := by
      simp [byteAt, List.getD_eq_getElem?_getD, List.getElem?_append_left (show 1 < bytes.length by omega)]
    rw [frameByte_collects (by simp; omega) (by rw [hbyte, List.length_append, List.length_singleton]; omega)]

/-! ### Requests that the link interface refuses (R169, R171) -/

/-- Every request of a fixed length is a frame whose length is tested first (step 1 of R171). -/
theorem fixedRequests_frames (e : Byte × Nat × Instr) (he : e ∈ fixedRequests c p) :
    ∃ f, ∀ s, exec e.2.2 s = .next (addressedFrame c e.1 p (withLength e.2.1 p f) s) := by
  simp only [fixedRequests, List.cons_append, List.nil_append, List.mem_cons, List.not_mem_nil, or_false] at he
  rcases he with rfl | rfl | rfl | rfl | rfl | rfl | rfl | rfl | rfl | rfl | rfl | rfl | rfl | rfl | rfl | rfl | rfl | rfl |
    rfl | rfl | rfl | rfl | rfl | rfl | rfl | rfl | rfl | rfl | rfl | rfl
  all_goals exact ⟨_, fun _ => rfl⟩

theorem addressedFrame_wrong_length {n : Nat} (h : Ready c p s) (hn : p.length ≠ n) (f : State → Taken) :
    addressedFrame c code p (withLength n p f) s = answered c code .badFrame [] (refreshLink c s) := by
  rw [addressedFrame_ready s c code p _ h, takeAddressed_eq, withLength_of_ne _ _ hn]
  rfl

/-- A broadcast of a wrong length has no response (R169). -/
theorem broadcastFrame_wrong_length {n : Nat} (h : Ready c p s) (hn : p.length ≠ n) (f : State → Taken) :
    broadcastFrame c p (withLength n p f) s = (refreshLink c s).setPort c .hunting := by
  rw [broadcastFrame_ready s c p _ h, takeBroadcast, withLength_of_ne _ _ hn]
  rfl

theorem exec_loadCue_eq : exec (.loadCue c p) s = .next (addressedFrame c 0x32 p (reqLoadCue c p) s) := rfl

theorem exec_unknownRequest_eq :
    exec (.unknownRequest c code p) s = .next (addressedFrame c code p (requestOf c code p) s) := rfl

theorem exec_go_broadcast_eq : exec (.go c .broadcast p) s = .next (broadcastFrame c p (reqGo c p) s) := rfl

theorem exec_hold_broadcast_eq : exec (.hold c .broadcast p) s = .next (broadcastFrame c p (reqHold c p) s) := rfl

theorem exec_stop_broadcast_eq : exec (.stop c .broadcast p) s = .next (broadcastFrame c p (reqStop p) s) := rfl

/-- A code of no request names none (step 2 of R171). -/
theorem requestOf_of_unknown (h : requestCodes.contains code = false) : requestOf c code p = refuse .unknownRequest := by
  have other : ∀ x ∈ requestCodes, code.toNat ≠ x.toNat := by
    intro x hx hc
    have hmem : requestCodes.contains code = true := by
      rw [List.contains_iff_mem, BitVec.eq_of_toNat_eq hc]; exact hx
    exact Bool.noConfusion (hmem.symm.trans h)
  simp only [requestCodes, List.cons_append, List.nil_append, List.forall_mem_cons] at other
  unfold requestOf
  split <;> simp_all

theorem reqLoadCue_of_wrong_length (h : p.length < 7 ∨ p.length ≠ 7 + 3 * byteAt p 6) :
    reqLoadCue c p s = refuse .badFrame s := by
  have hfit : cueFits p = false := by
    simp only [cueFits, Bool.and_eq_false_iff, decide_eq_false_iff_not]
    omega
  simp [reqLoadCue, hfit]

/-- Settles O28: each length is tested before anything else, and an unknown code names no request. -/
theorem linkInterfaceRefuses : Obligations.LinkInterfaceRefuses := by
  unfold Obligations.LinkInterfaceRefuses
  intro c code p s h
  refine ⟨fun hcode => ?_, exec_ignoredBroadcast h, fun e he hn => ?_, fun hn => ?_, fun hn => ⟨?_, ?_, ?_, ?_⟩⟩
  · rw [exec_unknownRequest_eq, requestOf_of_unknown hcode, addressedFrame_ready s c code p _ h]
    rfl
  · obtain ⟨f, hf⟩ := fixedRequests_frames e he
    rw [hf, addressedFrame_wrong_length h hn]
  · rw [exec_loadCue_eq, addressedFrame_ready s c _ p _ h, takeAddressed_eq, reqLoadCue_of_wrong_length hn]
    rfl
  · rw [takeAddressed_eq, show requestOf c 0x40 p = withLength 1 p (withField (yesNoAt p 0) power) from rfl,
      withLength_of_ne _ _ hn]
    rfl
  · rw [exec_go_broadcast_eq, reqGo, broadcastFrame_wrong_length h hn]
  · rw [exec_hold_broadcast_eq, reqHold, broadcastFrame_wrong_length h hn]
  · rw [exec_stop_broadcast_eq, reqStop, broadcastFrame_wrong_length h hn]

end Sys2Proof.Machine
end

section
/-! PROOFS. The characters of a whole frame, one a step: they are collected, and the last of them takes the frame's request,
its broadcast, or drops it. -/

namespace Sys2Proof.Machine

open Sys2Proof.Safety Relation

variable {c d : Console} {b : Byte} {bytes acc l : List Byte} {gap : Time} {s t : State} {m n : Nat} {rest : List Instr}

/-! ### Steps on characters that wait -/

/-- A step on a character that waits. -/
theorem run_character :
    Sys2Proof.core.run (n + 1) { s with pending := .requestCharacterReceived c b :: rest } =
      Sys2Proof.core.run n (character c b { s with pending := rest }) := rfl

theorem State.setPort_setPort (r q : Receiver) : (s.setPort c r).setPort c q = s.setPort c q := by
  cases c <;> rfl

/-- Writing the receiver state that stands changes nothing. -/
theorem State.setPort_eq_self {r : Receiver} (h : s.port c = r) : s.setPort c r = s := by
  subst h
  cases c <;> rfl

/-- A character that makes the collected bytes `p` does not end or abandon the frame. -/
def StaysOpen (p : List Byte) : Prop := ¬(p.length = 2 ∧ 64 < byteAt p 1) ∧ ¬(2 ≤ p.length ∧ p.length = byteAt p 1 + 5)

/-- Characters that leave the frame open are collected. -/
theorem run_collects (hopen : ∀ k, 0 < k → k ≤ l.length → StaysOpen (acc ++ l.take k))
    (hs : s.port c = .receiving acc gap) :
    ∃ gap', Sys2Proof.core.run (l.length + m) { s with pending := l.map (.requestCharacterReceived c) ++ rest } =
      Sys2Proof.core.run m ({ s with pending := rest }.setPort c (.receiving (acc ++ l) gap')) := by
  induction l generalizing acc gap s with
  | nil =>
    refine ⟨gap, ?_⟩
    rw [List.append_nil, State.setPort_eq_self (s := { s with pending := rest }) hs]
    simp
  | cons x l ih =>
    have first : StaysOpen (acc ++ [x]) := by simpa using hopen 1 (by omega) (by simp)
    set u : State := { s with pending := l.map (.requestCharacterReceived c) ++ rest } with hu
    have hchar : character c x u = u.setPort c (.receiving (acc ++ [x]) (u.timebase + 2000)) := by
      rw [character_of_receiving (s := u) hs, frameByte_collects first.1 first.2]
    have later : ∀ k, 0 < k → k ≤ l.length → StaysOpen ((acc ++ [x]) ++ l.take k) := by
      intro k hk hkl
      simpa using hopen (k + 1) (by omega) (by simpa using hkl)
    have port : (s.setPort c (.receiving (acc ++ [x]) (u.timebase + 2000))).port c =
        .receiving (acc ++ [x]) (u.timebase + 2000) := by simp
    obtain ⟨gap', hrun⟩ := ih later port
    refine ⟨gap', ?_⟩
    have step : Sys2Proof.core.run ((x :: l).length + m)
        { s with pending := (x :: l).map (.requestCharacterReceived c) ++ rest } =
        Sys2Proof.core.run (l.length + m) (character c x u) := by
      rw [List.length_cons, Nat.add_right_comm]
      exact run_character
    have same : character c x u =
        { s.setPort c (.receiving (acc ++ [x]) (u.timebase + 2000)) with
          pending := l.map (.requestCharacterReceived c) ++ rest } := by rw [hchar]; rfl
    have final : { s.setPort c (.receiving (acc ++ [x]) (u.timebase + 2000)) with pending := rest }.setPort c
        (.receiving (acc ++ [x] ++ l) gap') = { s with pending := rest }.setPort c (.receiving (acc ++ x :: l) gap') := by
      rw [List.append_assoc]
      exact State.setPort_setPort (s := { s with pending := rest }) _ _
    rw [step, same, hrun, final]

/-- A receiver that is answering loses the characters (R173). -/
theorem run_answering (h : isAnswering (s.port c) = true) :
    Sys2Proof.core.run l.length { s with pending := l.map (.requestCharacterReceived c) } =
      .next { s with pending := [] } := by
  induction l with
  | nil => rfl
  | cons x l ih =>
    have step : Sys2Proof.core.run (x :: l).length { s with pending := (x :: l).map (.requestCharacterReceived c) } =
        Sys2Proof.core.run l.length (character c x { s with pending := l.map (.requestCharacterReceived c) }) :=
      run_character
    rw [step, character_of_answering (s := { s with pending := l.map (.requestCharacterReceived c) }) h, ih]

/-! ### The bytes of a frame (R164, R166) -/

/-- The bytes of a frame between the start byte and the CRC. -/
def frameBody (addr code : Byte) (payload : List Byte) : List Byte :=
  [addr, BitVec.ofNat 8 payload.length, code] ++ payload

variable {addr code hi lo : Byte} {payload : List Byte}

theorem length_frameBody : (frameBody addr code payload).length = payload.length + 3 := by simp [frameBody]

/-- LEN of a frame whose payload is 64 bytes at most. -/
theorem byteAt_len (h : payload.length ≤ 64) (tail : List Byte) :
    byteAt (addr :: BitVec.ofNat 8 payload.length :: tail) 1 = payload.length := by
  simp [byteAt]; omega

/-- No proper beginning of a frame ends or abandons it. -/
theorem staysOpen_prefix (h : payload.length ≤ 64) (k : Nat) (hk : 0 < k) (hkl : k ≤ payload.length + 4) :
    StaysOpen ((frameBody addr code payload ++ [hi]).take k) := by
  have hlen : ((frameBody addr code payload ++ [hi]).take k).length = k := by
    rw [List.length_take, List.length_append, length_frameBody, List.length_singleton]
    omega
  by_cases h1 : k = 1
  · subst h1
    exact ⟨by simp [hlen], by simp [hlen]⟩
  · have hbyte : byteAt ((frameBody addr code payload ++ [hi]).take k) 1 = payload.length := by
      obtain ⟨j, rfl⟩ : ∃ j, k = j + 2 := ⟨k - 2, by omega⟩
      exact byteAt_len h _
    exact ⟨by rw [hbyte]; omega, by rw [hbyte, hlen]; omega⟩

/-- The characters of a whole frame come to the frame's end (R164). -/
theorem run_frame (h : payload.length ≤ 64) (hs : s.port c = .hunting) :
    Sys2Proof.core.run ([0xA5] ++ frameBody addr code payload ++ [hi, lo]).length
        { s with pending := ([0xA5] ++ frameBody addr code payload ++ [hi, lo]).map (.requestCharacterReceived c) } =
      .next (frameEnd c (frameBody addr code payload ++ [hi, lo]) { s with pending := [] }) := by
  set body := frameBody addr code payload with hbody
  set queue := (body ++ [hi]).map (.requestCharacterReceived c) ++ [Instr.requestCharacterReceived c lo] with hqueue
  have hmap : ([0xA5] ++ body ++ [hi, lo]).map (Instr.requestCharacterReceived c) =
      .requestCharacterReceived c 0xA5 :: queue := by simp [hqueue]
  have hlen : ([0xA5] ++ body ++ [hi, lo]).length = (body ++ [hi]).length + 1 + 1 := by simp
  have start : character c 0xA5 { s with pending := queue } =
      { s.setPort c (.receiving [] (s.timebase + 2000)) with pending := queue } := by
    rw [character_of_start (s := { s with pending := queue }) hs rfl]
    rfl
  obtain ⟨gap, hrun⟩ := run_collects (c := c) (l := body ++ [hi]) (acc := []) (m := 1)
    (rest := [.requestCharacterReceived c lo]) (s := s.setPort c (.receiving [] (s.timebase + 2000)))
    (gap := s.timebase + 2000)
    (fun k hk hkl => staysOpen_prefix h k hk (by
      rw [List.length_append, hbody, length_frameBody, List.length_singleton] at hkl; omega)) (by simp)
  rw [hmap, hlen]
  calc
    _ = Sys2Proof.core.run ((body ++ [hi]).length + 1) (character c 0xA5 { s with pending := queue }) := run_character
    _ = Sys2Proof.core.run 1 ({ s.setPort c (.receiving [] (s.timebase + 2000)) with
          pending := [Instr.requestCharacterReceived c lo] }.setPort c (.receiving (body ++ [hi]) gap)) := by
        rw [start]; exact hrun
    _ = .next (character c lo (({ s with pending := [] }.setPort c (.receiving [] (s.timebase + 2000))).setPort c
          (.receiving (body ++ [hi]) gap))) := by rfl
    _ = .next (frameEnd c (body ++ [hi, lo]) { s with pending := [] }) := by
        have ends : 2 ≤ (body ++ [hi, lo]).length ∧ (body ++ [hi, lo]).length = byteAt (body ++ [hi, lo]) 1 + 5 := by
          have hb : byteAt (body ++ [hi, lo]) 1 = payload.length := byteAt_len h _
          rw [hb, List.length_append, hbody, length_frameBody]
          simp
        have long : ¬((body ++ [hi, lo]).length = 2 ∧ 64 < byteAt (body ++ [hi, lo]) 1) := by
          rw [List.length_append, hbody, length_frameBody]
          simp
        rw [State.setPort_setPort, character_of_receiving (bytes := body ++ [hi]) (gap := gap) (by simp), List.append_assoc,
          List.cons_append, List.nil_append, frameByte, if_neg long, if_pos ends]
        simp only [frameEnd, State.setPort_setPort]

/-- The two CRC bytes of a frame are right (R166). -/
theorem crcGood_iff :
    crcGood (frameBody addr code payload ++ [hi, lo]) = true ↔
      hi = (crc16 (frameBody addr code payload)).extractLsb' 8 8 ∧
        lo = (crc16 (frameBody addr code payload)).extractLsb' 0 8 := by
  set body := frameBody addr code payload
  have hlen : (body ++ [hi, lo]).length - 2 = body.length := by simp
  have hspan : crcSpan (body ++ [hi, lo]) = body := by rw [crcSpan, hlen, List.take_left]
  have hword : wordAt (body ++ [hi, lo]) body.length = 256 * hi.toNat + lo.toNat := by simp [wordAt, byteAt]
  rw [crcGood, hspan, hlen, hword, decide_eq_true_eq]
  constructor
  · intro h
    constructor <;> apply BitVec.eq_of_toNat_eq <;> simp [← h] <;> omega
  · rintro ⟨h1, h2⟩
    have h1' := congrArg BitVec.toNat h1
    have h2' := congrArg BitVec.toNat h2
    simp only [BitVec.extractLsb'_toNat, Nat.shiftRight_zero] at h1' h2'
    have hlt := (crc16 body).isLt
    rw [h1', h2', Nat.shiftRight_eq_div_pow]
    omega

theorem framePayload_eq : framePayload (frameBody addr code payload ++ [hi, lo]) = payload := by
  have hlen : (frameBody addr code payload ++ [hi, lo]).length - 2 = (frameBody addr code payload).length := by simp
  rw [framePayload, crcSpan, hlen, List.take_left]
  rfl

/-- The end of a frame by its CRC and its address (R164, R168). -/
theorem frameEnd_eq (hs : s.port c = .hunting) :
    frameEnd c (frameBody addr code payload ++ [hi, lo]) s =
      if crcGood (frameBody addr code payload ++ [hi, lo]) && hasStation s then
        if addr.toNat = s.station.toNat then takeAddressed c code (requestOf c code payload) s
        else if addr.toNat = 31 then takeBroadcast c (broadcastOf c code payload) s
        else s
      else s := by
  simp only [frameEnd, framePayload_eq, State.setPort_eq_self hs]
  rfl

theorem hasStation_iff : hasStation s = true ↔ 1 ≤ s.station.toNat ∧ s.station.toNat ≤ 30 := by simp [hasStation]

/-- GO, HOLD and STOP are the requests of a broadcast (R169). -/
theorem broadcastOf_of_taken (h : code = 0x34 ∨ code = 0x35 ∨ code = 0x36) :
    broadcastOf c code payload = requestOf c code payload := by
  rcases h with rfl | rfl | rfl <;> rfl

/-- An ignored broadcast is refreshed alone (R169). -/
theorem takeBroadcast_ignored (hs : s.port c = .hunting) : takeBroadcast c ignored s = refreshLink c s :=
  State.setPort_eq_self (by rw [show (ignored (refreshLink c s)).1 = refreshLink c s from rfl, refreshLink_port, hs])

/-! ### Whole frames that are not read (R163, R167, R173) -/

/-- Every whole frame is a frame on its link. -/
theorem wholeFrames_frames (i : Instr) (hi : i ∈ wholeFrames c code payload) :
    ∃ p take, ∀ s, exec i s = .next (frameOn c p take s) := by
  rcases List.mem_append.mp hi with hi | hi
  · obtain ⟨e, he, rfl⟩ := List.mem_map.mp hi
    obtain ⟨f, hf⟩ := fixedRequests_frames e he
    exact ⟨_, _, hf⟩
  · simp only [List.mem_cons, List.not_mem_nil, or_false] at hi
    rcases hi with rfl | rfl | rfl | rfl | rfl | rfl | rfl | rfl
    all_goals exact ⟨_, _, fun _ => rfl⟩

/-- A rack without a station address drops a frame (R167). -/
theorem frameOn_unstationed (hs : s.port c = .hunting) (hst : ¬(1 ≤ s.station.toNat ∧ s.station.toNat ≤ 30))
    (p : List Byte) (take : State → State) : frameOn c p take s = s := by
  have hno : hasStation s = false := Bool.eq_false_iff.mpr fun h => hst (hasStation_iff.mp h)
  simp [frameOn, takesFrame, hno, State.setPort_eq_self hs]

/-- Settles O30: the characters come to the frame's end, which takes the request by the CRC and the address. -/
theorem frameBytesMakeTheRequest : Obligations.FrameBytesMakeTheRequest := by
  unfold Obligations.FrameBytesMakeTheRequest
  intro c addr code crcHigh crcLow payload bytes s hp body frame arrives good stationed idle
  have hgood : crcGood (frameBody addr code payload ++ [crcHigh, crcLow]) = true ↔ good := crcGood_iff
  have hidle (h : s.port c = .hunting) : idle.port c = .hunting := h
  have ends (h : s.port c = .hunting) :
      arrives frame = .next (frameEnd c (frameBody addr code payload ++ [crcHigh, crcLow]) idle) := run_frame hp h
  have station : hasStation idle = true ↔ stationed := hasStation_iff
  refine ⟨fun h hg hst ha => ?_, fun h hg hst ha => ⟨fun hcode => ?_, fun h34 h35 h36 => ?_⟩, fun h hbad => ?_,
    fun h => ⟨run_answering h, fun i hi => ?_⟩, fun h hst i hi => ?_⟩
  · rw [ends h, frameEnd_eq (hidle h), hgood.mpr hg, station.mpr hst, Bool.and_self, if_pos rfl, if_pos ha]
  · have hne : ¬addr.toNat = idle.station.toNat := by
      have := hst.2
      have : idle.station.toNat = s.station.toNat := rfl
      rw [ha]
      simp
      omega
    rw [ends h, frameEnd_eq (hidle h), hgood.mpr hg, station.mpr hst, Bool.and_self, if_pos rfl, if_neg hne,
      if_pos (by rw [ha]; rfl), broadcastOf_of_taken hcode]
  · have hne : ¬addr.toNat = idle.station.toNat := by
      have := hst.2
      have : idle.station.toNat = s.station.toNat := rfl
      rw [ha]
      simp
      omega
    rw [ends h, frameEnd_eq (hidle h), hgood.mpr hg, station.mpr hst, Bool.and_self, if_pos rfl, if_neg hne,
      if_pos (by rw [ha]; rfl), broadcastOf_of_not_broadcastCode (by simpa [broadcastCodes] using And.intro h34 (And.intro h35 h36)),
      takeBroadcast_ignored (hidle h)]
  · rw [ends h, frameEnd_eq (hidle h)]
    rcases hbad with hg | hst | ⟨h1, h2⟩
    · rw [Bool.eq_false_iff.mpr fun h => hg (hgood.mp h), Bool.false_and, if_neg (by simp)]
    · rw [Bool.eq_false_iff.mpr fun h => hst (station.mp h), Bool.and_false, if_neg (by simp)]
    · have h31 : ¬addr.toNat = 31 := fun e => h2 (BitVec.eq_of_toNat_eq e)
      rw [if_neg (show ¬addr.toNat = idle.station.toNat from h1), if_neg h31, ite_self]
  · obtain ⟨p, take, hf⟩ := wholeFrames_frames i hi
    rw [hf, frameOn_answering _ _ _ _ h]
  · obtain ⟨p, take, hf⟩ := wholeFrames_frames i hi
    rw [hf, frameOn_unstationed h hst]

end Sys2Proof.Machine
end

section
/-! PROOFS. The five reads: the snapshots byte by byte, each field at its offset, and the statement that a read answers with
its snapshot and changes nothing but the refresh. -/

namespace Sys2Proof.Machine

open Sys2Proof.Safety Relation

variable {c : Console} {b : Byte} {p : List Byte} {k n : Nat} {s : State}

/-! ### A field at its offset (R184) -/

theorem byteAt_of (h : p[k]? = some (BitVec.ofNat 8 n)) : byteAt p k = n % 256 := by
  simp [byteAt, List.getD_eq_getElem?_getD, h]

/-- A field whose values fit a byte reads as it is. -/
theorem codeAt_of (hn : n < 256) (h : p[k]? = some (BitVec.ofNat 8 n)) : byteAt p k = n := by
  rw [byteAt_of h, Nat.mod_eq_of_lt hn]

theorem wordIs_of (h : p[k]? = some (BitVec.ofNat 8 (n / 256))) (h' : p[k + 1]? = some (BitVec.ofNat 8 n)) :
    WordIs p k n := by
  rw [WordIs, wordAt, byteAt_of h, byteAt_of h']
  omega

/-- A yes/no byte in the form that the statements read. -/
theorem bit8_eq (x : Bool) : bit8 x = [BitVec.ofNat 8 (yesNo x)] := by cases x <;> rfl

theorem yesNo_lt (x : Bool) : yesNo x < 256 := by cases x <;> decide

theorem toNat_eq_yesNo (x : Bool) : x.toNat = yesNo x := by cases x <;> rfl

theorem setBytes_two (n : Nat) : setBytes 2 n = [BitVec.ofNat 8 n, BitVec.ofNat 8 (n / 256)] := rfl

/-- The bytes of a block that stands at offset `k`. -/
theorem getElem?_block {pre block post : List Byte} {j : Nat} (hk : pre.length = k) (hj : j < block.length) :
    (pre ++ block ++ post)[k + j]? = block[j]? := by
  subst hk
  rw [List.append_assoc, List.getElem?_append_right (Nat.le_add_right _ _), Nat.add_sub_cancel_left,
    List.getElem?_append_left hj]

/-! ### The numeric codes fit a byte -/

theorem kindCode_lt (x : Kind) : kindCode x < 256 := by cases x <;> decide
theorem stateCode_lt (x : ChanState) : stateCode x < 256 := by cases x <;> simp [stateCode]
theorem holderCode_lt (x : Holder) : holderCode x < 256 := by
  cases x with
  | none => decide
  | console d => cases d <;> decide
  | pendant => decide
theorem windowCode_lt (x : WindowState) : windowCode x < 256 := by cases x <;> decide
theorem optDirCode_lt (x : Option Dir) : optDirCode x < 256 := by
  cases x with
  | none => decide
  | some d => cases d <;> decide
theorem loadCode_lt (x : LoadStatus) : loadCode x < 256 := by cases x <;> decide
theorem groupStateCode_lt (x : GroupState) : groupStateCode x < 256 := by cases x <;> decide
theorem moveCode_lt (x : MoveKind) : moveCode x < 256 := by cases x <;> decide
theorem phaseCode_lt (x : Phase) : phaseCode x < 256 := by cases x <;> decide
theorem linkCode_lt (x : LinkState) : linkCode x < 256 := by cases x <;> decide
theorem supplyCode_lt (x : SupplyState) : supplyCode x < 256 := by cases x <;> decide
theorem estopCode_lt (x : EstopState) : estopCode x < 256 := by cases x <;> decide
theorem estopCauseCode_lt (x : EstopCause) : estopCauseCode x < 256 := by cases x <;> decide
theorem monitorCode_lt (x : MonitorState) : monitorCode x < 256 := by cases x <;> decide
theorem tripCode_lt (x : TripCause) : tripCode x < 256 := by cases x <;> simp [tripCode]
theorem tripKindCode_lt (x : TripCause) : tripKindCode x < 256 := by
  cases x with
  | channelFault f => cases f <;> decide
  | syncLag | syncLead | syncStall | startTimeout | loadShift | limitSwitch | referenceLost | estop | supplyLow |
      supplyLost => decide
theorem groupCode_lt (x : Option GroupId) : groupCode x < 256 := by
  cases x with
  | none => decide
  | some g =>
    cases g with
    | pendant => decide
    | console g => simp only [groupCode]; omega

/-! ### Blocks that several layouts share -/

/-- The bytes of a trip record (R185). -/
def tripByte (r : Option TripRecord) (k : Fin 4) : Nat :=
  match r with
  | none => [0, 255, 255, 0].get k
  | some x =>
    [tripCode x.cause, tripKindCode x.cause, (match x.channel with | none => 255 | some i => i.val), x.further].get k

theorem tripBytes_eq (r : Option TripRecord) :
    tripBytes r = [BitVec.ofNat 8 (tripByte r 0), BitVec.ofNat 8 (tripByte r 1), BitVec.ofNat 8 (tripByte r 2),
      BitVec.ofNat 8 (tripByte r 3)] := by
  cases r <;> rfl

/-- A trip record whose four bytes stand at offset `k`. -/
theorem tripIs_of (r : Option TripRecord) (h0 : p[k]? = some (BitVec.ofNat 8 (tripByte r 0)))
    (h1 : p[k + 1]? = some (BitVec.ofNat 8 (tripByte r 1))) (h2 : p[k + 2]? = some (BitVec.ofNat 8 (tripByte r 2)))
    (h3 : p[k + 3]? = some (BitVec.ofNat 8 (tripByte r 3))) : TripIs p k r := by
  cases r with
  | none => exact ⟨byteAt_of h0, byteAt_of h1, byteAt_of h2, byteAt_of h3⟩
  | some x =>
    refine ⟨codeAt_of (tripCode_lt _) h0, (codeAt_of (tripKindCode_lt _) h1).trans ?_, (codeAt_of ?_ h2).trans ?_,
      byteAt_of h3⟩
    · cases x.cause <;> rfl
    · simp only [tripByte, List.get]
      split <;> omega
    · rfl

/-- A configuration block, byte by byte. -/
theorem configBytes_eq (f : ChanConfig) :
    configBytes f =
      [BitVec.ofNat 8 (kindCode f.kind), BitVec.ofNat 8 (f.ratedSpeed / 256), BitVec.ofNat 8 f.ratedSpeed,
        BitVec.ofNat 8 (f.ratedLoad / 256), BitVec.ofNat 8 f.ratedLoad, BitVec.ofNat 8 f.gainK, BitVec.ofNat 8 f.coast,
        BitVec.ofNat 8 (yesNo f.bfbFitted), BitVec.ofNat 8 (f.torqueTime / 256), BitVec.ofNat 8 f.torqueTime,
        BitVec.ofNat 8 (f.brakeTime / 256), BitVec.ofNat 8 f.brakeTime, BitVec.ofNat 8 (f.stopHold / 256),
        BitVec.ofNat 8 f.stopHold, BitVec.ofNat 8 (f.dwell / 256), BitVec.ofNat 8 f.dwell, BitVec.ofNat 8 f.slipCount,
        BitVec.ofNat 8 f.refCode] := by
  rw [configBytes, bit8_eq]
  rfl

/-- The windows, byte by byte. -/
theorem windowsBytes_eq (w : Windows) :
    windowsBytes w =
      [BitVec.ofNat 8 (w.trimOn / 256), BitVec.ofNat 8 w.trimOn, BitVec.ofNat 8 (w.trimOff / 256), BitVec.ofNat 8 w.trimOff,
        BitVec.ofNat 8 (w.holdLag / 256), BitVec.ofNat 8 w.holdLag, BitVec.ofNat 8 (w.releaseLag / 256),
        BitVec.ofNat 8 w.releaseLag, BitVec.ofNat 8 (w.tripLag / 256), BitVec.ofNat 8 w.tripLag,
        BitVec.ofNat 8 (w.tripLead / 256), BitVec.ofNat 8 w.tripLead, BitVec.ofNat 8 (w.arriveBand / 256),
        BitVec.ofNat 8 w.arriveBand, BitVec.ofNat 8 (w.settleBand / 256), BitVec.ofNat 8 w.settleBand,
        BitVec.ofNat 8 (w.holdTimeout / 256), BitVec.ofNat 8 w.holdTimeout, BitVec.ofNat 8 (w.shareTolerance / 256),
        BitVec.ofNat 8 w.shareTolerance] := rfl

/-- The settings, byte by byte. -/
theorem settingsBytes_eq (v : Settings) :
    settingsBytes v =
      [BitVec.ofNat 8 v.level, BitVec.ofNat 8 v.mask.toNat, BitVec.ofNat 8 (v.linkTimeout / 256),
        BitVec.ofNat 8 v.linkTimeout, BitVec.ofNat 8 (v.holdWindow / 256), BitVec.ofNat 8 v.holdWindow,
        BitVec.ofNat 8 v.pendantSpeed, v.enable] := rfl

/-! ### READ_CHANNEL (R23) -/

theorem length_channelSnapshot (x : Chan) : (channelSnapshot x).length = 48 := by
  unfold channelSnapshot
  simp [configBytes_eq, bit8_eq, u8, u16]

/-- The condition bits of READ_CHANNEL. -/
theorem conditions_lt (x : Chan) : yesNo x.thermal + 2 * yesNo x.upperOpen + 4 * yesNo x.lowerOpen < 256 := by
  cases x.thermal <;> cases x.upperOpen <;> cases x.lowerOpen <;> decide

theorem pendingKind_lt (x : Option (Side × Nat)) : pendingKind x < 256 := by
  rcases x with _ | ⟨_ | _, _⟩ <;> simp [pendingKind]

theorem channelFields_channelSnapshot (x : Chan) : ChannelFields (channelSnapshot x) x := by
  have hbytes : channelSnapshot x =
      [BitVec.ofNat 8 (kindCode x.cfg.kind), BitVec.ofNat 8 (stateCode x.state), BitVec.ofNat 8 (x.position / 256),
        BitVec.ofNat 8 x.position, BitVec.ofNat 8 (yesNo x.referenced), BitVec.ofNat 8 (windowCode x.window),
        BitVec.ofNat 8 (x.upper / 256), BitVec.ofNat 8 x.upper, BitVec.ofNat 8 (x.lower / 256), BitVec.ofNat 8 x.lower,
        BitVec.ofNat 8 (pendingKind x.pendingLimit), BitVec.ofNat 8 (pendingValue x.pendingLimit / 256),
        BitVec.ofNat 8 (pendingValue x.pendingLimit), BitVec.ofNat 8 (holderCode x.holder),
        BitVec.ofNat 8 (groupCode x.group)] ++ configBytes x.cfg ++
      [BitVec.ofNat 8 (x.envMin / 256), BitVec.ofNat 8 x.envMin, BitVec.ofNat 8 (x.envMax / 256), BitVec.ofNat 8 x.envMax,
        BitVec.ofNat 8 x.faults.toNat, BitVec.ofNat 8 (x.faults.toNat / 256),
        BitVec.ofNat 8 (yesNo x.thermal + 2 * yesNo x.upperOpen + 4 * yesNo x.lowerOpen),
        BitVec.ofNat 8 (optDirCode x.lastDir), BitVec.ofNat 8 (optDirCode x.startPending),
        BitVec.ofNat 8 (x.pos.speed / 256), BitVec.ofNat 8 x.pos.speed, BitVec.ofNat 8 (x.load.filtered / 256),
        BitVec.ofNat 8 x.load.filtered, BitVec.ofNat 8 (loadCode x.load.status), BitVec.ofNat 8 x.gen.duty] := by
    unfold channelSnapshot
    simp only [bit8_eq, toNat_eq_yesNo, u8, u16, setBytes_two, List.cons_append, List.nil_append, List.append_assoc]
  have faults : x.faults.toNat / 256 < 256 := by
    have := x.faults.isLt
    omega
  have config (k : Nat) (p : List Byte) (h : ∀ j, j < 18 → p[k + j]? = (configBytes x.cfg)[j]?) : ConfigIs p k x.cfg := by
    rw [configBytes_eq] at h
    exact ⟨codeAt_of (kindCode_lt _) (h 0 (by omega)), wordIs_of (h 1 (by omega)) (h 2 (by omega)),
      wordIs_of (h 3 (by omega)) (h 4 (by omega)), byteAt_of (h 5 (by omega)), byteAt_of (h 6 (by omega)),
      codeAt_of (yesNo_lt _) (h 7 (by omega)), wordIs_of (h 8 (by omega)) (h 9 (by omega)),
      wordIs_of (h 10 (by omega)) (h 11 (by omega)), wordIs_of (h 12 (by omega)) (h 13 (by omega)),
      wordIs_of (h 14 (by omega)) (h 15 (by omega)), byteAt_of (h 16 (by omega)), byteAt_of (h 17 (by omega))⟩
  have pendingLimit : match x.pendingLimit with
      | none => byteAt (channelSnapshot x) 10 = 0 ∧ WordIs (channelSnapshot x) 11 0
      | some (.upper, v) => byteAt (channelSnapshot x) 10 = 1 ∧ WordIs (channelSnapshot x) 11 v
      | some (.lower, v) => byteAt (channelSnapshot x) 10 = 2 ∧ WordIs (channelSnapshot x) 11 v := by
    have kind : byteAt (channelSnapshot x) 10 = pendingKind x.pendingLimit := by
      rw [hbytes]; exact codeAt_of (pendingKind_lt _) rfl
    have value : WordIs (channelSnapshot x) 11 (pendingValue x.pendingLimit) := by rw [hbytes]; exact wordIs_of rfl rfl
    split
    next h => rw [h] at kind value; exact ⟨kind, value⟩
    next h => rw [h] at kind value; exact ⟨kind, value⟩
    next h => rw [h] at kind value; exact ⟨kind, value⟩
  have block : ConfigIs (channelSnapshot x) 15 x.cfg := config 15 _ fun j hj => by
    rw [hbytes]
    exact getElem?_block (by simp) (by rw [configBytes_eq]; simpa using hj)
  have member : byteAt (channelSnapshot x) 14 = groupCode x.group := by
    rw [hbytes]; exact codeAt_of (groupCode_lt _) rfl
  rw [configBytes_eq] at hbytes
  refine ⟨?_, ?_, ?_, ?_, ?_, ?_, ?_, pendingLimit, ?_, member.trans ?_, block, ?_, ?_, ?_, ?_, ?_, ?_, ?_, ?_, ?_, ?_, ?_⟩
  case refine_9 => rcases x.group with _ | (g | _) <;> rfl
  all_goals rw [hbytes]
  · exact codeAt_of (kindCode_lt _) rfl
  · exact codeAt_of (stateCode_lt _) rfl
  · exact wordIs_of rfl rfl
  · exact codeAt_of (yesNo_lt _) rfl
  · exact codeAt_of (windowCode_lt _) rfl
  · exact wordIs_of rfl rfl
  · exact wordIs_of rfl rfl
  · exact codeAt_of (holderCode_lt _) rfl
  · exact wordIs_of rfl rfl
  · exact wordIs_of rfl rfl
  · exact byteAt_of rfl
  · exact codeAt_of faults rfl
  · exact codeAt_of (conditions_lt x) rfl
  · exact codeAt_of (optDirCode_lt _) rfl
  · exact codeAt_of (optDirCode_lt _) rfl
  · exact wordIs_of rfl rfl
  · exact wordIs_of rfl rfl
  · exact codeAt_of (loadCode_lt _) rfl
  · exact byteAt_of rfl

end Sys2Proof.Machine
end

section
/-! PROOFS. READ_PART, READ_GROUP, READ_QUEUE and READ_NOTICES field by field, and the statement of the five reads. -/

namespace Sys2Proof.Machine

open Sys2Proof.Safety Relation

variable {c : Console} {b : Byte} {p : List Byte} {k n : Nat} {s : State}

/-! ### READ_NOTICES (R182) -/

theorem length_noticesSnapshot (x : NoticeBox) : (noticesSnapshot x).length = 15 := by
  unfold noticesSnapshot
  simp [bit8_eq]

theorem noticeFields_noticesSnapshot (x : NoticeBox) : NoticeFields (noticesSnapshot x) x := by
  have hbytes : noticesSnapshot x = setBytes 7 x.pending.toNat ++ (setBytes 7 x.mask.toNat ++ bit8 x.atn) :=
    List.append_assoc _ _ _
  rw [hbytes]
  refine ⟨fun k => ⟨?_, ?_⟩, ?_⟩
  · rw [byteAt, List.getD_append _ _ _ _ (by simp), getD_setBytes _ _ _ k.isLt, BitVec.toNat_ofNat]
  · rw [byteAt, List.getD_append_right _ _ _ _ (by simp), length_setBytes, Nat.add_sub_cancel_left,
      List.getD_append _ _ _ _ (by simp), getD_setBytes _ _ _ k.isLt, BitVec.toNat_ofNat]
  · rw [byteAt, List.getD_append_right _ _ _ _ (by simp), List.getD_append_right _ _ _ _ (by simp), bit8_eq]
    simp only [length_setBytes]
    exact codeAt_of (yesNo_lt _) rfl

/-! ### READ_PART (R175) -/

theorem settingsLevel_lt (v : ClassSet) : v.toNat < 256 := by have := v.isLt; omega

theorem station_lt (v : BitVec 5) : v.toNat < 256 := by have := v.isLt; omega

/-- The pendant's inputs as READ_PART packs them. -/
theorem pendantBits_eq (a : Arbiter) :
    pendantBits a = yesNo a.pup + 2 * yesNo a.pdn + 4 * yesNo a.penb + 8 * yesNo a.pstopClosed + 16 * yesNo a.ppres := by
  simp only [pendantBits, toNat_eq_yesNo]

theorem pendantBits_lt (a : Arbiter) : pendantBits a < 256 := by
  have small (x : Bool) : x.toNat ≤ 1 := by cases x <;> decide
  have := small a.pup
  have := small a.pdn
  have := small a.penb
  have := small a.pstopClosed
  have := small a.ppres
  unfold pendantBits
  omega

/-- The bytes of READ_PART before the holders. -/
def partHead (s : State) : List Byte :=
  [BitVec.ofNat 8 s.station.toNat, BitVec.ofNat 8 (linkCode (s.link .a).state), BitVec.ofNat 8 (linkCode (s.link .b).state),
    BitVec.ofNat 8 s.settings.level, BitVec.ofNat 8 s.settings.mask.toNat, BitVec.ofNat 8 (s.settings.linkTimeout / 256),
    BitVec.ofNat 8 s.settings.linkTimeout, BitVec.ofNat 8 (s.settings.holdWindow / 256),
    BitVec.ofNat 8 s.settings.holdWindow, BitVec.ofNat 8 s.settings.pendantSpeed, s.settings.enable,
    BitVec.ofNat 8 (supplyCode s.supply.state), BitVec.ofNat 8 (estopCode s.stops.estop),
    BitVec.ofNat 8 (estopCauseCode s.stops.cause), BitVec.ofNat 8 (yesNo s.stops.rstin),
    BitVec.ofNat 8 (monitorCode s.stops.monitor), BitVec.ofNat 8 (yesNo s.stops.tripout), s.arb.psel,
    BitVec.ofNat 8 (pendantBits s.arb), BitVec.ofNat 8 (groupStateCode (s.grp .pendant).state), s.memberSet .pendant,
    BitVec.ofNat 8 (tripByte (s.grp .pendant).trip 0), BitVec.ofNat 8 (tripByte (s.grp .pendant).trip 1),
    BitVec.ofNat 8 (tripByte (s.grp .pendant).trip 2), BitVec.ofNat 8 (tripByte (s.grp .pendant).trip 3),
    BitVec.ofNat 8 (phaseCode (s.grp .pendant).prof.phase), BitVec.ofNat 8 ((s.grp .pendant).prof.j / 65536 / 256),
    BitVec.ofNat 8 ((s.grp .pendant).prof.j / 65536), BitVec.ofNat 8 ((s.grp .pendant).prof.j / 256),
    BitVec.ofNat 8 (s.grp .pendant).prof.j, BitVec.ofNat 8 ((s.grp .pendant).prof.q / 256),
    BitVec.ofNat 8 (s.grp .pendant).prof.q, BitVec.ofNat 8 (dirCode (s.grp .pendant).prof.dir)]

theorem partSnapshot_eq : partSnapshot s = partHead s ++ holdersBytes s := by
  unfold partSnapshot partHead
  simp only [settingsBytes_eq, tripBytes_eq, bit8_eq, u8, u16, u32, List.cons_append, List.nil_append]

theorem holdersBytes_eq : holdersBytes s = channels.map fun i => BitVec.ofNat 8 (holderCode (s.chan i).holder) := rfl

theorem length_partSnapshot : (partSnapshot s).length = 41 := by
  rw [partSnapshot_eq, List.length_append, holdersBytes_eq, List.length_map]
  rfl

theorem channels_getElem? (i : Channel) : channels[i.val]? = some i := by
  fin_cases i <;> rfl

theorem partHolders (i : Channel) : byteAt (partSnapshot s) (33 + i.val) = holderCode (s.chan i).holder := by
  refine codeAt_of (holderCode_lt _) ?_
  have hhead : (partHead s).length = 33 := rfl
  rw [partSnapshot_eq, List.getElem?_append_right (by omega), hhead, Nat.add_sub_cancel_left, holdersBytes_eq,
    List.getElem?_map, channels_getElem?]
  rfl

/-- A membership byte reads as the members. -/
theorem memberSet_getLsbD (g : GroupId) (i : Channel) :
    (s.memberSet g).getLsbD i.val = decide ((s.chan i).group = some g) := inSet_setOf _ i

theorem partFields_partSnapshot : PartFields (partSnapshot s) s := by
  refine ⟨?_, ?_, ?_, ?_, ?_, ?_, ?_, ?_, ?_, ?_, ?_, ?_, ?_, ?_, ?_, ?_, ?_, ?_, ?_, ?_, ?_, fun _ => ⟨?_, ?_⟩, ?_, ?_,
    partHolders⟩
  all_goals rw [partSnapshot_eq]
  · exact codeAt_of (station_lt _) rfl
  · exact codeAt_of (linkCode_lt _) rfl
  · exact codeAt_of (linkCode_lt _) rfl
  · exact byteAt_of rfl
  · exact codeAt_of (settingsLevel_lt _) rfl
  · exact wordIs_of rfl rfl
  · exact wordIs_of rfl rfl
  · exact byteAt_of rfl
  · rfl
  · exact codeAt_of (supplyCode_lt _) rfl
  · exact codeAt_of (estopCode_lt _) rfl
  · exact codeAt_of (estopCauseCode_lt _) rfl
  · exact codeAt_of (yesNo_lt _) rfl
  · exact codeAt_of (monitorCode_lt _) rfl
  · exact codeAt_of (yesNo_lt _) rfl
  · rfl
  · exact (codeAt_of (pendantBits_lt _) rfl).trans (pendantBits_eq _)
  · exact codeAt_of (groupStateCode_lt _) rfl
  · exact memberSet_getLsbD .pendant
  · exact tripIs_of _ rfl rfl rfl rfl
  · exact codeAt_of (phaseCode_lt _) rfl
  · exact wordIs_of rfl rfl
  · exact wordIs_of rfl rfl
  · exact wordIs_of rfl rfl
  · exact codeAt_of (optDirCode_lt _) rfl

/-! ### READ_GROUP (R123) -/

/-- The displacement that a group reports: progress for a cue, displacement for a jog. -/
def travelOf (r : Group) : Nat :=
  match r.moveKind with
  | .cue => r.prof.p
  | .jog => r.prof.j

theorem travelBytes_eq (r : Group) : travelBytes r.moveKind r.prof = u32 (travelOf r) := by
  unfold travelBytes travelOf
  cases r.moveKind <;> rfl

/-- The bytes of READ_GROUP before the members. -/
def groupHead (g : GroupId) (s : State) : List Byte :=
  [BitVec.ofNat 8 (holderCode (s.grp g).owner), s.memberSet g, BitVec.ofNat 8 (s.grp g).interval,
    BitVec.ofNat 8 ((s.grp g).windows.trimOn / 256), BitVec.ofNat 8 (s.grp g).windows.trimOn,
    BitVec.ofNat 8 ((s.grp g).windows.trimOff / 256), BitVec.ofNat 8 (s.grp g).windows.trimOff,
    BitVec.ofNat 8 ((s.grp g).windows.holdLag / 256), BitVec.ofNat 8 (s.grp g).windows.holdLag,
    BitVec.ofNat 8 ((s.grp g).windows.releaseLag / 256), BitVec.ofNat 8 (s.grp g).windows.releaseLag,
    BitVec.ofNat 8 ((s.grp g).windows.tripLag / 256), BitVec.ofNat 8 (s.grp g).windows.tripLag,
    BitVec.ofNat 8 ((s.grp g).windows.tripLead / 256), BitVec.ofNat 8 (s.grp g).windows.tripLead,
    BitVec.ofNat 8 ((s.grp g).windows.arriveBand / 256), BitVec.ofNat 8 (s.grp g).windows.arriveBand,
    BitVec.ofNat 8 ((s.grp g).windows.settleBand / 256), BitVec.ofNat 8 (s.grp g).windows.settleBand,
    BitVec.ofNat 8 ((s.grp g).windows.holdTimeout / 256), BitVec.ofNat 8 (s.grp g).windows.holdTimeout,
    BitVec.ofNat 8 ((s.grp g).windows.shareTolerance / 256), BitVec.ofNat 8 (s.grp g).windows.shareTolerance,
    BitVec.ofNat 8 (groupStateCode (s.grp g).state), BitVec.ofNat 8 (moveCode (s.grp g).moveKind),
    BitVec.ofNat 8 (tripByte (s.grp g).trip 0), BitVec.ofNat 8 (tripByte (s.grp g).trip 1),
    BitVec.ofNat 8 (tripByte (s.grp g).trip 2), BitVec.ofNat 8 (tripByte (s.grp g).trip 3),
    BitVec.ofNat 8 (s.grp g).queue.length, BitVec.ofNat 8 (deadlineLeft s.timebase (s.grp g).deadline / 256),
    BitVec.ofNat 8 (deadlineLeft s.timebase (s.grp g).deadline), BitVec.ofNat 8 (phaseCode (s.grp g).prof.phase),
    BitVec.ofNat 8 (travelOf (s.grp g) / 65536 / 256), BitVec.ofNat 8 (travelOf (s.grp g) / 65536),
    BitVec.ofNat 8 (travelOf (s.grp g) / 256), BitVec.ofNat 8 (travelOf (s.grp g)),
    BitVec.ofNat 8 ((s.grp g).prof.q / 256), BitVec.ofNat 8 (s.grp g).prof.q]

/-- The target that a member reports, 0 before a plan. -/
def targetOf (m : Member) : Nat :=
  match m.plan with
  | none => 0
  | some x => x.target

/-- The member's six bytes. -/
theorem memberBytes_eq (i : Channel) (m : Member) :
    memberBytes i m =
      [BitVec.ofNat 8 i.val, BitVec.ofNat 8 (targetOf m / 256), BitVec.ofNat 8 (targetOf m),
        BitVec.ofNat 8 ((BitVec.ofInt 16 (max (-32768) (min 32767 m.err))).toNat / 256),
        BitVec.ofNat 8 (BitVec.ofInt 16 (max (-32768) (min 32767 m.err))).toNat,
        BitVec.ofNat 8 (yesNo m.arrived + 2 * yesNo m.trimPaused)] := by
  unfold memberBytes
  rw [toNat_eq_yesNo, toNat_eq_yesNo]
  rfl

theorem groupSnapshot_eq (g : GroupId) :
    groupSnapshot g s = groupHead g s ++ (s.members g).flatMap fun i => memberBytes i (s.member g i) := by
  unfold groupSnapshot groupHead
  simp only [windowsBytes_eq, travelBytes_eq, tripBytes_eq, u8, u16, u32, List.cons_append, List.nil_append]

theorem length_groupHead (g : GroupId) : (groupHead g s).length = 39 := rfl

theorem length_memberBytes (i : Channel) (m : Member) : (memberBytes i m).length = 6 := by
  rw [memberBytes_eq]
  rfl

theorem length_groupSnapshot (g : GroupId) : (groupSnapshot g s).length = 39 + 6 * (s.members g).length := by
  have members (l : List Channel) : (l.flatMap fun i => memberBytes i (s.member g i)).length = 6 * l.length := by
    induction l with
    | nil => rfl
    | cons i l ih => rw [List.flatMap_cons, List.length_append, ih, length_memberBytes, List.length_cons]; omega
  rw [groupSnapshot_eq, List.length_append, members, length_groupHead]

/-- Blocks of six bytes, one after the other. -/
theorem getElem?_flatMap_blocks {f : Channel → List Byte} (hf : ∀ i, (f i).length = 6) {l : List Channel} {n j : Nat}
    {i : Channel} (hj : j < 6) (h : l[n]? = some i) : (l.flatMap f)[6 * n + j]? = (f i)[j]? := by
  induction l generalizing n with
  | nil => simp at h
  | cons x l ih =>
    rw [List.flatMap_cons]
    cases n with
    | zero =>
      obtain rfl : x = i := by simpa using h
      rw [List.getElem?_append_left (by rw [hf]; omega), Nat.mul_zero, Nat.zero_add]
    | succ n =>
      rw [List.getElem?_append_right (by rw [hf]; omega), hf, ← ih (n := n) (by simpa using h)]
      exact congrArg _ (by omega)

/-- The bytes of the n-th member of READ_GROUP. -/
theorem groupSnapshot_member (g : GroupId) {i : Channel} {j : Nat} (hj : j < 6) (h : (s.members g)[n]? = some i) :
    (groupSnapshot g s)[39 + 6 * n + j]? = (memberBytes i (s.member g i))[j]? := by
  rw [groupSnapshot_eq, List.getElem?_append_right (by rw [length_groupHead]; omega), length_groupHead,
    ← getElem?_flatMap_blocks (f := fun i => memberBytes i (s.member g i)) (fun i => length_memberBytes _ _) hj h]
  exact congrArg _ (by omega)

theorem wordAt_of_wordIs (hn : n < 65536) (h : WordIs p k n) : wordAt p k = n := h.trans (Nat.mod_eq_of_lt hn)

/-- A reported error is the clamped one in two's complement (R185). -/
theorem toNat_ofInt_reported (x : Int) : (BitVec.ofInt 16 (max (-32768) (min 32767 x))).toNat = reportedError x := by
  rw [BitVec.toNat_ofInt]
  rfl

theorem flags_lt (m : Member) : yesNo m.arrived + 2 * yesNo m.trimPaused < 256 := by
  cases m.arrived <;> cases m.trimPaused <;> decide

/-- The four fields of the n-th member. -/
theorem groupMember_fields (g : GroupId) {i : Channel} (h : (s.members g)[n]? = some i) :
    let m := (s.grp g).prof.members.get i
    byteAt (groupSnapshot g s) (39 + 6 * n) = i.val ∧ WordIs (groupSnapshot g s) (40 + 6 * n) (targetOf m) ∧
      wordAt (groupSnapshot g s) (42 + 6 * n) = reportedError m.err ∧
      byteAt (groupSnapshot g s) (44 + 6 * n) = yesNo m.arrived + 2 * yesNo m.trimPaused := by
  intro m
  have block (k j : Nat) (hj : j < 6) (hk : k = 39 + 6 * n + j) :
      (groupSnapshot g s)[k]? = (memberBytes i m)[j]? := by
    rw [hk]
    exact groupSnapshot_member g hj h
  have hi : i.val < 256 := by omega
  have err : (BitVec.ofInt 16 (max (-32768) (min 32767 m.err))).toNat < 65536 := BitVec.isLt _
  have hm := memberBytes_eq i m
  refine ⟨codeAt_of hi ?_, wordIs_of ?_ ?_, (wordAt_of_wordIs err (wordIs_of ?_ ?_)).trans (toNat_ofInt_reported _),
    codeAt_of (flags_lt _) ?_⟩
  · rw [block _ 0 (by omega) (by omega), hm]; rfl
  · rw [block _ 1 (by omega) (by omega), hm]; rfl
  · rw [block _ 2 (by omega) (by omega), hm]; rfl
  · rw [block _ 3 (by omega) (by omega), hm]; rfl
  · rw [block _ 4 (by omega) (by omega), hm]; rfl
  · rw [block _ 5 (by omega) (by omega), hm]; rfl

theorem groupFields_groupSnapshot (g : GroupId) : GroupFields (groupSnapshot g s) g s := by
  have deadline : WordIs (groupSnapshot g s) 30 (deadlineLeft s.timebase (s.grp g).deadline) := by
    rw [groupSnapshot_eq]; exact wordIs_of rfl rfl
  have travel : WordIs (groupSnapshot g s) 33 (travelOf (s.grp g) / 65536) ∧
      WordIs (groupSnapshot g s) 35 (travelOf (s.grp g)) := by
    rw [groupSnapshot_eq]; exact ⟨wordIs_of rfl rfl, wordIs_of rfl rfl⟩
  have left : match (s.grp g).deadline with
      | none => WordIs (groupSnapshot g s) 30 65535
      | some e => (e - s.timebase).toNat ≤ 1000000 →
          WordIs (groupSnapshot g s) 30 ((e - s.timebase).toNat / 1000) := by
    split
    next h => rw [h] at deadline; exact deadline
    next e h =>
      intro hle
      rw [h, deadlineLeft, if_pos hle] at deadline
      exact deadline
  refine ⟨?_, ?_, ?_, ?_, ?_, ?_, ?_, ?_, ?_, ?_, ?_, ?_, ?_, ?_, ?_, ?_, ?_, left, ?_, fun _ => ?_, ?_, fun k i hi => ?_⟩
  case refine_19 =>
    unfold travelOf at travel
    exact travel
  case refine_21 =>
    obtain ⟨h1, h2, h3, h4⟩ := groupMember_fields (s := s) g (n := k.val) hi
    refine ⟨h1, ?_, h3, h4⟩
    unfold targetOf at h2
    exact h2
  all_goals rw [groupSnapshot_eq]
  · exact codeAt_of (holderCode_lt _) rfl
  · exact memberSet_getLsbD g
  · exact byteAt_of rfl
  · exact wordIs_of rfl rfl
  · exact wordIs_of rfl rfl
  · exact wordIs_of rfl rfl
  · exact wordIs_of rfl rfl
  · exact wordIs_of rfl rfl
  · exact wordIs_of rfl rfl
  · exact wordIs_of rfl rfl
  · exact wordIs_of rfl rfl
  · exact wordIs_of rfl rfl
  · exact wordIs_of rfl rfl
  · exact codeAt_of (groupStateCode_lt _) rfl
  · exact codeAt_of (moveCode_lt _) rfl
  · exact tripIs_of _ rfl rfl rfl rfl
  · exact byteAt_of rfl
  · exact codeAt_of (phaseCode_lt _) rfl
  · exact wordIs_of rfl rfl

/-! ### READ_QUEUE and the requests (R23, R123, R175, R182) -/

/-- A queue as READ_QUEUE lays it out. -/
theorem queueSnapshot_eq (queue : List Cue) :
    queueSnapshot queue =
      BitVec.ofNat 8 queue.length :: queue.flatMap fun q =>
        [BitVec.ofNat 8 (q.tag / 256), BitVec.ofNat 8 q.tag, BitVec.ofNat 8 q.speed, BitVec.ofNat 8 q.ramp,
          (match q.follow with | .stopAtEnd => 0 | .autoNext => 1), BitVec.ofNat 8 q.entries.length] ++
        q.entries.flatMap fun v => [BitVec.ofNat 8 v.1.val, BitVec.ofNat 8 (v.2 / 256), BitVec.ofNat 8 v.2] := by
  have cue (q : Cue) : cueBytes q =
      [BitVec.ofNat 8 (q.tag / 256), BitVec.ofNat 8 q.tag, BitVec.ofNat 8 q.speed, BitVec.ofNat 8 q.ramp,
        (match q.follow with | .stopAtEnd => 0 | .autoNext => 1), BitVec.ofNat 8 q.entries.length] ++
      q.entries.flatMap fun v => [BitVec.ofNat 8 v.1.val, BitVec.ofNat 8 (v.2 / 256), BitVec.ofNat 8 v.2] := by
    unfold cueBytes
    cases q.follow <;> rfl
  rw [queueSnapshot, funext cue]
  rfl

theorem exec_readPart (h : Ready c [] s) :
    exec (.readPart c []) s = .next (replied c 0x01 (takenWith .ok partSnapshot (refreshLink c s))) :=
  congrArg Host.Outcome.next (emptyFrame_eq h _)

theorem exec_readNotices (h : Ready c [] s) :
    exec (.readNotices c []) s =
      .next (replied c 0x05 (takenWith .ok (fun s => noticesSnapshot (s.box c)) (refreshLink c s))) :=
  congrArg Host.Outcome.next (emptyFrame_eq h _)

theorem exec_readChannel (h : Ready c [b] s) :
    exec (.readChannel c [b]) s =
      .next (replied c 0x02 (withField (channelAt [b] 0)
        (fun i => takenWith .ok fun s => channelSnapshot (s.chan i)) (refreshLink c s))) :=
  congrArg Host.Outcome.next (byteFrame_eq h _)

theorem exec_readGroup (h : Ready c [b] s) :
    exec (.readGroup c [b]) s =
      .next (replied c 0x03 (withField (groupAt [b] 0)
        (fun g => takenWith .ok (groupSnapshot (.console g))) (refreshLink c s))) :=
  congrArg Host.Outcome.next (byteFrame_eq h _)

theorem exec_readQueue (h : Ready c [b] s) :
    exec (.readQueue c [b]) s =
      .next (replied c 0x04 (withField (groupAt [b] 0)
        (fun g => takenWith .ok fun s => queueSnapshot (s.grp (.console g)).queue) (refreshLink c s))) :=
  congrArg Host.Outcome.next (byteFrame_eq h _)

theorem channelAt_singleton {i : Channel} (h : b.toNat = i.val) : channelAt [b] 0 = some i := by
  have hb : byteAt [b] 0 = i.val := h
  simp [channelAt, hb]

theorem groupAt_singleton {g : ConsoleGroup} (h : b.toNat = g.val) : groupAt [b] 0 = some g := by
  have hb : byteAt [b] 0 = g.val := h
  simp [groupAt, hb]

theorem channelAt_of_out_of_range (h : 8 ≤ b.toNat) : channelAt [b] 0 = none := by
  simp [channelAt, byteAt, h]

theorem numericCodes : NumericCodes := by decide

theorem members_refreshLink (g : GroupId) : (refreshLink c s).members g = s.members g :=
  State.members_congr g fun i => by rw [refreshLink_chan]

/-- Settles O31, snapshot by snapshot. -/
theorem readsChangeNothing : Obligations.ReadsChangeNothing := by
  unfold Obligations.ReadsChangeNothing
  intro c b s h u
  have hb : Ready c [b] s := ready_of_length h (by simp)
  refine ⟨exec_readPart h, length_partSnapshot, exec_readNotices h, length_noticesSnapshot _,
    fun i hi => ⟨?_, length_channelSnapshot _⟩, fun g hg => ⟨?_, ?_, ?_⟩, fun hi => ?_, fun hg => ⟨?_, ?_⟩, numericCodes,
    partFields_partSnapshot, noticeFields_noticesSnapshot _, fun i => channelFields_channelSnapshot _,
    fun g => ⟨groupFields_groupSnapshot _, queueSnapshot_eq _⟩⟩
  · rw [exec_readChannel hb, channelAt_singleton hi]; rfl
  · rw [exec_readGroup hb, groupAt_singleton hg]; rfl
  · rw [length_groupSnapshot, members_refreshLink]
  · rw [exec_readQueue hb, groupAt_singleton hg]; rfl
  · rw [exec_readChannel hb, channelAt_of_out_of_range hi]; rfl
  · rw [exec_readGroup hb, groupAt_of_out_of_range hg]; rfl
  · rw [exec_readQueue hb, groupAt_of_out_of_range hg]; rfl

end Sys2Proof.Machine
end

section
/-! PROOFS. CONFIG_CHANNEL taken: the configuration that a block sends, what it makes of the channel's state, and the
statement. -/

namespace Sys2Proof.Machine

open Sys2Proof.Safety Relation

variable {c : Console} {i : Channel} {b : Byte} {p block : List Byte} {k n : Nat} {s : State} {f : ChanConfig} {x : Chan}
  {now : Time}

/-! ### The configuration that a block sends (R22) -/

/-- The configuration stored for a block: its enumerations, and its magnitudes clamped. -/
def storedConfig (block : List Byte) : ChanConfig :=
  { kind := if (block.getD 0 0).toNat = 0 then .absent else if (block.getD 0 0).toNat = 1 then .fixedSpeed else .variableSpeed
    ratedSpeed := max 1 (min 4000 (wordAt block 1)), ratedLoad := max 125 (min 5000 (wordAt block 3))
    gainK := byteAt block 5, coast := min 200 (byteAt block 6)
    bfbFitted := decide ((block.getD 7 0).toNat = 1)
    torqueTime := max 50 (min 500 (wordAt block 8)), brakeTime := max 100 (min 1000 (wordAt block 10))
    stopHold := min 500 (wordAt block 12), dwell := max 200 (min 2000 (wordAt block 14))
    slipCount := max 2 (min 64 (byteAt block 16)), refCode := byteAt block 17 }

theorem kindAt_of_le (h : byteAt p k ≤ 2) :
    kindAt p k = some (if byteAt p k = 0 then .absent else if byteAt p k = 1 then .fixedSpeed else .variableSpeed) := by
  unfold kindAt
  split
  next e => simp [e]
  next e => simp [e]
  next e => simp [e]
  next => grind

theorem yesNoAt_of_le (h : byteAt p k ≤ 1) : yesNoAt p k = some (decide (byteAt p k = 1)) := by
  unfold yesNoAt
  split
  next e => simp [e]
  next e => simp [e]
  next => grind

/-- A block whose enumerations are in range is read, and clamped as the table of R22 says. -/
theorem configAt_stored (hk : (block.getD 0 0).toNat ≤ 2) (hf : (block.getD 7 0).toNat ≤ 1)
    (hr : (block.getD 17 0).toNat ≤ 3) : ∃ f, configAt (b :: block) 1 = some f ∧ clampConfig f = storedConfig block := by
  have shift (j : Nat) : byteAt (b :: block) (1 + j) = byteAt block j := by rw [Nat.add_comm]; rfl
  have kind := kindAt_of_le (p := b :: block) (k := 1) hk
  have fitted := yesNoAt_of_le (p := b :: block) (k := 1 + 7) (by rw [shift]; exact hf)
  have code : frequencyAt (b :: block) (1 + 17) = some (byteAt (b :: block) (1 + 17)) := by
    rw [frequencyAt, if_pos (by rw [shift]; exact hr)]
  have gain : min 255 (byteAt (b :: block) (1 + 5)) = byteAt block 5 := by
    have := (block.getD 5 0).isLt
    rw [shift, byteAt]
    omega
  refine ⟨_, by rw [configAt, kind, fitted, code], ?_⟩
  simp only [clampConfig, storedConfig, wordAt, gain, clamp, Nat.zero_max]
  rfl

theorem storedConfig_absent_iff : (storedConfig block).kind = .absent ↔ (block.getD 0 0).toNat = 0 := by
  simp only [storedConfig]
  split
  next h => exact iff_of_true rfl h
  next h => split <;> exact iff_of_false (by simp) h

/-! ### What a taken CONFIG_CHANNEL makes of the state -/

theorem configTaken_chan (j : Channel) :
    (configTaken i f s).chan j = if j = i then configured s.timebase f (s.chan i) else s.chan j := by
  unfold configTaken
  dsimp only
  split <;> simp

theorem configTaken_groups : (configTaken i f s).groups = s.groups := by
  unfold configTaken
  dsimp only
  split <;> rfl

theorem keepsPart_configTaken : KeepsPart s (configTaken i f s) := by
  unfold configTaken
  dsimp only
  split
  · exact keepsPart_trans (keepsPart_of_records _ _) (keepsPart_raise _)
  · exact keepsPart_of_records _ _

theorem configTaken_refLost (h : (s.chan i).referenced = true)
    (hn : (configured s.timebase f (s.chan i)).referenced = false) : PendingBoth (.chan i .refLost) (configTaken i f s) := by
  unfold configTaken
  dsimp only
  rw [if_pos ⟨h, by simpa using hn⟩]
  exact State.pendingBoth_raise _ _

/-- The record with the values stored, before the kind acts (R22, R76). -/
def valuesStored (g : ChanConfig) (x : Chan) : Chan :=
  { x with
    cfg := g
    envMax := max 1 (min (g.ratedLoad * 5 / 4) x.envMax)
    envMin := min (max 1 (min (g.ratedLoad * 5 / 4) x.envMax) - 1) x.envMin }

theorem configured_eq : configured now f x = configState now (valuesStored (clampConfig f) x) := by
  rw [configured, storeEnvelope_eq]
  rfl

/-- The table of R22. -/
theorem configState_cases :
    (x.state = .off → x.cfg.kind = .absent → configState now x = x) ∧
    (x.state = .off → x.cfg.kind ≠ .absent → configState now x = chanLeaveOff now x) ∧
    (x.state = .parked → x.cfg.kind = .absent → configState now x = chanEnterOff x) ∧
    (x.state = .parked → x.cfg.kind ≠ .absent →
      configState now x = { x with pos := { x.pos with slipArmed := brakeKnownSet x } }) := by
  refine ⟨fun h hk => ?_, fun h hk => ?_, fun h hk => ?_, fun h hk => ?_⟩
  · simp [configState, h, hk]
  · cases hk' : x.cfg.kind <;> simp_all [configState]
  · simp [configState, h, hk]
  · cases hk' : x.cfg.kind <;> simp_all [configState]

/-- The record that leaves OFF (R3, R34, R55). -/
theorem chanLeaveOff_eq :
    chanLeaveOff now x =
      { x with
        state := .parked
        lastDir := none
        pos := { x.pos with slipArmed := if x.cfg.bfbFitted = true then !x.out.bfb else true }
        out := { x.out with
          stuck :=
            if x.out.cs = true ∧ x.out.raise = false ∧ x.out.lower = false then
              (if x.out.stuck = .idle then .timing (now + 100000) else x.out.stuck)
            else .idle } } := by
  rw [chanLeaveOff, watchStuck_eq_stuck]
  simp [brakeKnownSet]

theorem configChannel_of_free (hh : HeldBy c s i) (hg : (s.chan i).group = none)
    (hst : (s.chan i).state = .parked ∨ (s.chan i).state = .off) :
    configChannel c i f s = takenWith .ok (fun s => configEcho (s.chan i)) (configTaken i f s) := by
  have busy : ¬((s.chan i).state ≠ .parked ∧ (s.chan i).state ≠ .off) := by tauto
  rw [configChannel, asHeld_of_held _ _ hh]
  simp only [hg, Option.isSome_none, Bool.false_eq_true, if_false, if_neg busy]

/-- Settles O36, by the channel's state and the stored kind. -/
theorem configChannelStores : Obligations.ConfigChannelStores := by
  unfold Obligations.ConfigChannelStores
  intro c i block s hlen h hk hf hr hh hg hst
  obtain ⟨f, hread, hstored⟩ := configAt_stored (b := BitVec.ofNat 8 i.val) hk hf hr
  have hchan : (refreshLink c s).chan i = s.chan i := refreshLink_chan _ _ _
  have record : (configTaken i f (refreshLink c s)).chan i =
      configState s.timebase (valuesStored (storedConfig block) (s.chan i)) := by
    rw [configTaken_chan, if_pos rfl, configured_eq, hstored, hchan, refreshLink_timebase]
  have others (j : Channel) (hj : j ≠ i) : (configTaken i f (refreshLink c s)).chan j = s.chan j := by
    rw [configTaken_chan, if_neg hj, refreshLink_chan]
  have groups : (configTaken i f (refreshLink c s)).groups = s.groups := by rw [configTaken_groups, refreshLink_groups]
  have lost (hre : (s.chan i).referenced = true)
      (hn : (configState s.timebase (valuesStored (storedConfig block) (s.chan i))).referenced = false) :
      PendingBoth (.chan i .refLost) (configTaken i f (refreshLink c s)) :=
    configTaken_refLost (by rwa [hchan]) (by rwa [configured_eq, hstored, hchan, refreshLink_timebase])
  have part : KeepsPart (refreshLink c s) (configTaken i f (refreshLink c s)) := keepsPart_configTaken
  have fitted : (storedConfig block).bfbFitted = decide ((block.getD 7 0).toNat = 1) := rfl
  refine ⟨configTaken i f (refreshLink c s), ?_, ?_⟩
  · rw [exec_configChannel h i block hlen, hread, withField_some, configChannel_of_free (heldBy_refreshLink_iff.mpr hh)
      (by rwa [hchan]) (by rwa [hchan]), replied_takenWith]
  rw [record]
  obtain ⟨offAbsent, offPresent, parkedAbsent, parkedPresent⟩ :=
    configState_cases (now := s.timebase) (x := valuesStored (storedConfig block) (s.chan i))
  have kind := storedConfig_absent_iff (block := block)
  rcases hst with hst | hst <;> by_cases h0 : (block.getD 0 0).toNat = 0
  · have notOff : ¬((s.chan i).state = .off) := by simp [hst]
    rw [parkedAbsent hst (kind.mpr h0)] at lost ⊢
    exact ⟨rfl, fun _ => rfl, fun h => absurd h0 h, fun _ _ => ⟨rfl, rfl, rfl, rfl, fun hre => lost hre rfl⟩,
      fun _ h => absurd h0 h, rfl, rfl, ((if_neg fun h => notOff h.1).trans (if_pos h0)).symm, fun h => absurd h notOff,
      by rw [if_pos ⟨hst, h0⟩]; rfl, rfl, rfl, rfl, rfl, rfl, rfl, rfl, rfl, rfl, (if_pos ⟨hst, h0⟩).symm, ⟨rfl, rfl⟩, rfl,
      others, groups, part⟩
  · have notOff : ¬((s.chan i).state = .off) := by simp [hst]
    rw [parkedPresent hst fun e => h0 (kind.mp e)]
    exact ⟨rfl, fun h => absurd h h0, fun _ => hst, fun _ h => absurd h h0, fun _ _ => ⟨rfl, rfl, rfl, rfl⟩, rfl, rfl,
      by rw [if_neg fun h => notOff h.1, if_neg h0]; simp [brakeKnownSet, valuesStored, fitted],
      fun h => absurd h notOff, by rw [if_neg fun h => h0 h.2, if_neg fun h => notOff h.1]; rfl, rfl, rfl, rfl, rfl, rfl, rfl,
      rfl, rfl, rfl, (if_neg fun h => h0 h.2).symm, ⟨rfl, rfl⟩, rfl, others, groups, part⟩
  · have notParked : ¬((s.chan i).state = .parked) := by simp [hst]
    rw [offAbsent hst (kind.mpr h0)]
    exact ⟨rfl, fun _ => hst, fun h => absurd h0 h, fun h => absurd h notParked, fun h => absurd h notParked, rfl, rfl,
      (if_pos ⟨hst, h0⟩).symm, fun _ => ⟨rfl, rfl, rfl, (if_pos h0).symm⟩,
      by rw [if_neg fun h => notParked h.1, if_neg fun h => h.2 h0]; rfl, rfl, rfl, rfl, rfl, rfl, rfl, rfl, rfl, rfl,
      (if_neg fun h => notParked h.1).symm, ⟨rfl, rfl⟩, rfl, others, groups, part⟩
  · have notParked : ¬((s.chan i).state = .parked) := by simp [hst]
    rw [offPresent hst fun e => h0 (kind.mp e), chanLeaveOff_eq]
    exact ⟨rfl, fun h => absurd h h0, fun _ => rfl, fun h => absurd h notParked, fun h => absurd h notParked, rfl, rfl,
      Eq.trans (by simp [valuesStored, fitted]) ((if_neg fun h => h0 h.2).trans (if_neg h0)).symm,
      fun _ => ⟨rfl, rfl, rfl, (if_neg h0).symm⟩,
      congrArg (fun w => { (s.chan i).out with stuck := w }) (Eq.trans (if_neg fun h => notParked h.1) (if_pos ⟨hst, h0⟩)).symm, rfl, rfl, rfl, rfl, rfl, rfl, rfl, rfl, rfl,
      (if_neg fun h => notParked h.1).symm, ⟨rfl, rfl⟩, rfl, others, groups, part⟩

end Sys2Proof.Machine
end

section
/-! PROOFS. SET_LOAD_INPUT and SET_LOAD_CAL (R64, R65, R68, R72): the input that a byte names, the assignment and the scanner
it leaves, the calibration stored, and the statement. -/

namespace Sys2Proof.Machine

open Sys2Proof.Safety

variable {c : Console} {i : Channel} {s : State} {new : Option LoadInput} {p : List Byte} {b : Byte} {enable : EightSet}
  {x : Chan} {zeroPoint gain : Nat}

/-! ### The requests and their tests -/

/-- The byte that names an input, or none (R184). -/
def inputByte : Option LoadInput → Byte
  | none => 0xFF
  | some k => BitVec.ofNat 8 k.val

theorem inputAt_inputByte (n : Byte) : inputAt [n, inputByte new] 1 = some new := by
  cases new with
  | none => rfl
  | some k =>
    have small : byteAt [n, inputByte (some k)] 1 = k.val := by
      have := k.isLt
      simp [byteAt, inputByte]
      omega
    simp [inputAt, small]

theorem inputAt_out_of_range (n : Byte) (h : 8 ≤ b.toNat) (hb : b ≠ 0xFF) : inputAt [n, b] 1 = none := by
  have big : ¬byteAt [n, b] 1 < 8 := by simpa [byteAt] using h
  have named : byteAt [n, b] 1 ≠ 255 := fun e => hb (BitVec.eq_of_toNat_eq (by simpa [byteAt] using e))
  rw [inputAt, dif_neg big, if_neg named]

theorem exec_setLoadInput (h : Ready c [] s) (i : Channel) (b : Byte) :
    exec (.setLoadInput c [BitVec.ofNat 8 i.val, b]) s =
      .next (replied c 0x25
        (withField (inputAt [BitVec.ofNat 8 i.val, b] 1) (setLoadInput c i) (refreshLink c s))) :=
  congrArg Host.Outcome.next (channelFrame_eq h i [b] 2 _ rfl (by omega))

theorem exec_setLoadCal (h : Ready c [] s) (i : Channel) (a b d e : Byte) :
    exec (.setLoadCal c [BitVec.ofNat 8 i.val, a, b, d, e]) s =
      .next (replied c 0x26
        (setLoadCal c i (256 * a.toNat + b.toNat) (256 * d.toNat + e.toNat) (refreshLink c s))) :=
  congrArg Host.Outcome.next (channelFrame_eq h i [a, b, d, e] 5 _ rfl (by omega))

/-- The input wanted is assigned to another channel (R64). -/
theorem any_inputElsewhere_iff :
    new.any (inputElsewhere s i) = true ↔ new ≠ none ∧ ∃ j : Channel, j ≠ i ∧ (s.chan j).load.input = new := by
  cases new with
  | none => simp
  | some k => simp [inputElsewhere, List.any_eq_true, mem_channels]

theorem setLoadInput_of_free (hh : HeldBy c s i) (hm : ¬s.inMovingGroup i = true)
    (he : ¬new.any (inputElsewhere s i) = true) :
    setLoadInput c i new s = takenWith .ok (fun s => inputEcho (s.chan i)) (inputTaken i new s) := by
  rw [setLoadInput, asHeld_of_held _ _ hh]
  dsimp only
  rw [if_neg hm, if_neg he]

theorem setLoadInput_of_elsewhere (hh : HeldBy c s i) (hm : ¬s.inMovingGroup i = true)
    (he : new.any (inputElsewhere s i) = true) :
    setLoadInput c i new s = refuseWith .badValue (fun s => inputEcho (s.chan i)) s := by
  rw [setLoadInput, asHeld_of_held _ _ hh]
  dsimp only
  rw [if_neg hm, if_pos he]

theorem setLoadInput_of_moving (hh : HeldBy c s i) (hm : s.inMovingGroup i = true) :
    setLoadInput c i new s = refuseWith .busy (fun s => inputEcho (s.chan i)) s := by
  rw [setLoadInput, asHeld_of_held _ _ hh]
  exact if_pos hm

theorem setLoadCal_of_moving (hh : HeldBy c s i) (hm : s.inMovingGroup i = true) :
    setLoadCal c i zeroPoint gain s =
      refuseWith .busy (fun s => u16 (s.chan i).load.zero ++ u16 (s.chan i).load.gain) s := by
  rw [setLoadCal, asHeld_of_held _ _ hh]
  exact if_pos hm

theorem setLoadCal_of_free (hh : HeldBy c s i) (hm : ¬s.inMovingGroup i = true) :
    setLoadCal c i zeroPoint gain s =
      takenWith .ok (fun s => u16 (s.chan i).load.zero ++ u16 (s.chan i).load.gain)
        (s.modChan i (storeCal s.settings.enable zeroPoint gain)) := by
  rw [setLoadCal, asHeld_of_held _ _ hh]
  exact if_neg hm

/-! ### What a taken request stores -/

/-- The load items under a new assignment (R65). -/
def assigned (new : Option LoadInput) (u : LoadUnit) : LoadUnit :=
  { u with
    input := new, ring := [], filtered := 0, raw := none, overCount := 0, underCount := 0
    status := match new with | none => .none | some _ => .unknown }

theorem assignInput_load : ((assignInput i new s).chan i).load = assigned new (s.chan i).load := by
  rw [assignInput_chan, if_pos rfl]
  cases new <;> simp [assigned, emptyRing, deriveLoad]

/-- The conversion of the old or the new input is marked (R68); the scanner is otherwise as it was. -/
theorem assignInput_scanner :
    (assignInput i new s).scanner = (s.scanner.map fun v =>
      if new = some v.input ∨ (s.chan i).load.input = some v.input then { v with discard := true } else v) := by
  have reads (k : Option LoadInput) (v : Conversion) (hv : s.scanner = some v) :
      k.any (converting (s.modChan i fun c =>
        { c with load := { { emptyRing c.load with input := new, raw := none } with
          status := deriveLoad s.settings.enable { emptyRing c.load with input := new, raw := none } } })) = true ↔
        k = some v.input := by
    cases k with
    | none => simp
    | some k => simp [converting, State.modChan, hv, eq_comm]
  unfold assignInput
  dsimp only
  cases hv : s.scanner with
  | none => split <;> simp [markDiscard, State.modChan, hv]
  | some v =>
    simp only [Bool.or_eq_true, reads _ v hv, Option.map_some]
    split
    next marked => simp [markDiscard, State.modChan, hv, marked.symm]
    next kept => simp [State.modChan, hv, mt Or.symm kept]

theorem assignInput_notices : (assignInput i new s).notices = s.notices := by
  unfold assignInput
  dsimp only
  split <;> rfl

theorem keepsPart_assignInput : KeepsPart s { assignInput i new s with scanner := s.scanner } := by
  unfold assignInput
  dsimp only
  split <;> exact keepsPart_of_records _ _

/-- The load state that a stored calibration leaves: the ring is empty, so it is not VALID (R63, R72). -/
theorem storeCal_status :
    (storeCal enable zeroPoint gain x).load.status =
      match x.load.input with
      | none => .none
      | some k => if inSet enable k = true ∧ (x.load.raw = some 0 ∨ x.load.raw = some 4095) then .fault else .unknown := by
  have sensor : x.load.raw.any isSensorReading = true ↔ x.load.raw = some 0 ∨ x.load.raw = some 4095 := by
    cases x.load.raw <;> simp [isSensorReading]
  simp only [storeCal, deriveLoad, emptyRing]
  cases x.load.input with
  | none => rfl
  | some k =>
    by_cases he : inSet enable k = true <;> by_cases hr : x.load.raw.any isSensorReading = true <;>
      simp [he, hr, ← sensor]

/-! ### The statement -/

/-- Settles O39, by the tests of R64 and R72 in their order. -/
theorem loadInputAndCalibrationWrites : Obligations.LoadInputAndCalibrationWrites := by
  unfold Obligations.LoadInputAndCalibrationWrites
  intro c i new a b d e s h u n code inMove elsewhere calEcho
  have hcode : code = inputByte new := by cases new <;> rfl
  have hchan : u.chan i = s.chan i := refreshLink_chan s c i
  have hheld : HeldBy c u i ↔ HeldBy c s i := heldBy_refreshLink_iff
  have hmove : u.inMovingGroup i = true ↔ inMove := inMovingGroup_refreshLink_iff
  have hother : new.any (inputElsewhere u i) = true ↔ elsewhere := by
    rw [any_inputElsewhere_iff]
    simp [u, elsewhere]
  have scanner : u.scanner = s.scanner := by simp [u]
  have settings : u.settings = s.settings := by simp [u]
  have input : exec (.setLoadInput c [n, code]) s = .next (replied c 0x25 (setLoadInput c i new u)) := by
    rw [exec_setLoadInput h, hcode, inputAt_inputByte, withField_some]
  have cal := exec_setLoadCal h i a b d e
  refine ⟨fun hh => ⟨?_, ?_⟩, fun hh hm => ⟨?_, ?_⟩, fun hh hm he => ?_, fun ha hb => ?_, fun hh hm he hsame => ?_,
    fun hh hm he hnew => ?taken, fun hh hm => ?calibrated⟩
  · rw [input, setLoadInput, asHeld_of_not_held _ _ (mt hheld.mp hh), replied_refuseWith, hchan]
  · rw [cal, setLoadCal, asHeld_of_not_held _ _ (mt hheld.mp hh), replied_refuseWith, hchan]
  · rw [input, setLoadInput_of_moving (hheld.mpr hh) (hmove.mpr hm), replied_refuseWith, hchan]
  · rw [cal, setLoadCal_of_moving (hheld.mpr hh) (hmove.mpr hm), replied_refuseWith, hchan]
  · rw [input, setLoadInput_of_elsewhere (hheld.mpr hh) (mt hmove.mp hm) (hother.mpr he), replied_refuseWith, hchan]
  · rw [exec_setLoadInput h, inputAt_out_of_range _ ha hb, withField_none, replied_refuse]
  · rw [input, setLoadInput_of_free (hheld.mpr hh) (mt hmove.mp hm) (mt hother.mp he), replied_takenWith, inputTaken,
      if_pos (hchan ▸ hsame), hchan]
  case taken =>
    have chan (j : Channel) := assignInput_chan i new u j
    have load := assignInput_load (i := i) (new := new) (s := u)
    refine ⟨assignInput i new u, ?_, ?_, ?_, ?_, fun j hj => ?_, ?_, assignInput_notices, ?_⟩
    · rw [input, setLoadInput_of_free (hheld.mpr hh) (mt hmove.mp hm) (mt hother.mp he), replied_takenWith, inputTaken,
        if_neg (hchan ▸ hnew), inputEcho, load, hcode]
      cases new <;> rfl
    · rw [load, hchan]
      cases new <;> rfl
    · rw [assignInput_scanner, hchan, scanner]
    · rw [load, chan, if_pos rfl, ← load, chan, if_pos rfl, hchan]
    · rw [chan, if_neg hj]
      exact refreshLink_chan s c j
    · rw [assignInput_groups]
      exact refreshLink_groups
    · rw [← scanner]
      exact keepsPart_assignInput
  case calibrated =>
    have self : (u.modChan i (storeCal u.settings.enable (256 * a.toNat + b.toNat) (256 * d.toNat + e.toNat))).chan i =
        storeCal u.settings.enable (256 * a.toNat + b.toNat) (256 * d.toNat + e.toNat) (s.chan i) := by
      rw [← hchan]; simp
    refine ⟨_, by rw [cal, setLoadCal_of_free (hheld.mpr hh) (mt hmove.mp hm), replied_takenWith], ?_⟩
    rw [self]
    refine ⟨?_, ?_, rfl, rfl, rfl, rfl, rfl, rfl, ?_, rfl, fun j hj => ?_, ?_, rfl, keepsPart_of_records _ _⟩
    · rfl
    · rfl
    · rw [settings]
      exact storeCal_status
    · simp [hj, u]
    · exact refreshLink_groups

end Sys2Proof.Machine
end

section
/-! PROOFS. SET_GROUP and DISBAND (R104, R105, R106): the tests of R104 as the model's checks make them, what a taken request
leaves, and the statement. -/

namespace Sys2Proof.Machine

open Sys2Proof.Safety

variable {c : Console} {code b : Byte} {g : ConsoleGroup} {k : GroupId} {s : State} {p w : List Byte} {set : EightSet} {n : Nat}
  {v : Windows}

/-- A request frame of the length that its code requires is answered as the request replies (R170, R171, R173). -/
theorem fixedFrame_eq (h : Ready c p s) (hp : p.length = n) (f : State → Taken) :
    addressedFrame c code p (withLength n p f) s = replied c code (f (refreshLink c s)) := by
  rw [addressedFrame_ready s c code p _ h, takeAddressed_eq, withLength_of_eq _ _ hp]
  rfl

theorem groupAt_ofNat_cons (g : ConsoleGroup) (p : List Byte) : groupAt (BitVec.ofNat 8 g.val :: p) 0 = some g := by
  have hb : byteAt (BitVec.ofNat 8 g.val :: p) 0 = g.val := by simp [byteAt]; omega
  simp [groupAt, hb]

theorem groupAt_cons_out_of_range (h : 4 ≤ b.toNat) (p : List Byte) : groupAt (b :: p) 0 = none := by
  simp [groupAt, byteAt, h]

/-! ### The tests of R104 -/

theorem firstFailure_nil : firstFailure [] = none := rfl

theorem firstFailure_cons (x : Bool) (r : Result) (l : List (Bool × Result)) :
    firstFailure ((x, r) :: l) = if x = true then some r else firstFailure l := by
  cases x <;> rfl

theorem allIn_eq_false_iff (q : Channel → Bool) : allIn set q = false ↔ ∃ i : Channel, inSet set i = true ∧ q i = false := by
  rw [← Bool.not_eq_true, allIn_iff]
  simp

/-- The checks of SET_GROUP find what the tests of R104 say, in their order. -/
theorem setGroupCheck_eq : setGroupCheck c g set s = setGroupRefusal c g set s := by
  have owner : (decide ((s.grp (.console g)).owner ≠ asHolder c) && decide ((s.grp (.console g)).owner ≠ .none)) = true ↔
      ¬OwnedBy c s g ∧ (s.grp (.console g)).owner ≠ .none := by
    rw [Bool.and_eq_true, decide_eq_true_eq, decide_eq_true_eq]
    rfl
  have holder : (!allIn set (holds c s)) = true ↔ ∃ i : Channel, inSet set i = true ∧ ¬HeldBy c s i := by
    rw [Bool.not_eq_true', allIn_eq_false_iff]
    exact exists_congr fun i => and_congr_right fun _ => by rw [← Bool.not_eq_true, holds_iff]
  have grouped : (!allIn set fun i => decide ((s.chan i).group = none) || s.isMember (.console g) i) = true ↔
      ∃ i : Channel, inSet set i = true ∧ (s.chan i).group ≠ none ∧ (s.chan i).group ≠ some (.console g) := by
    simp [allIn_eq_false_iff, State.isMember]
  have absent : (!allIn set fun i => decide ((s.chan i).state ≠ .off)) = true ↔
      ∃ i : Channel, inSet set i = true ∧ (s.chan i).state = .off := by simp [allIn_eq_false_iff]
  have kinds : (!oneKind set s) = true ↔
      ∃ i j : Channel, inSet set i = true ∧ inSet set j = true ∧ (s.chan i).cfg.kind ≠ (s.chan j).cfg.kind := by
    simp [oneKind, allIn_eq_false_iff]
  simp only [setGroupCheck, firstFailure_cons, firstFailure_nil]
  exact if_congr owner rfl (if_congr holder rfl (if_congr (by simp) rfl (if_congr grouped rfl (if_congr absent rfl
    (if_congr kinds rfl rfl)))))

theorem setGroupRefusal_none_idle (h : setGroupRefusal c g set s = none) : (s.grp (.console g)).state = .idle := by
  by_contra hne
  unfold setGroupRefusal at h
  rw [if_pos (c := _ ≠ GroupState.idle) hne] at h
  split_ifs at h

/-! ### The two requests and their frames -/

theorem exec_setGroup (h : Ready c [] s) (hp : p.length = 23) :
    exec (.setGroup c p) s = .next (replied c 0x30
      (withField (groupAt p 0) (fun g => withField (intervalAt p 2) fun n => setGroup c g (setAt p 1) n (windowsAt p 3))
        (refreshLink c s))) :=
  congrArg Host.Outcome.next (fixedFrame_eq (ready_of_length h (by omega)) hp _)

theorem exec_disband (h : Ready c [] s) (b : Byte) :
    exec (.disband c [b]) s = .next (replied c 0x31 (withField (groupAt [b] 0) (disband c) (refreshLink c s))) :=
  congrArg Host.Outcome.next (byteFrame_eq (ready_of_length h (by simp)) _)

/-- The tests of R104 on the state that the link refresh left find what they find before it. -/
theorem setGroupRefusal_refreshLink : setGroupRefusal c g set (refreshLink c s) = setGroupRefusal c g set s := by
  simp [setGroupRefusal, OwnedBy, HeldBy]

theorem setGroup_of_refused {r : Result} (h : setGroupRefusal c g set s = some r) :
    setGroup c g set n v s = refuseWith r (groupEcho (.console g)) s := by
  rw [setGroup, setGroupCheck_eq, h]

theorem setGroup_of_taken (h : setGroupRefusal c g set s = none) :
    setGroup c g set n v s = takenWith .ok (groupEcho (.console g)) (setGroupTaken c g set n v s) := by
  rw [setGroup, setGroupCheck_eq, h]

/-! ### What a taken request leaves -/

theorem writeMembers_chan (i : Channel) : (writeMembers k set s).chan i =
    { s.chan i with
      group := if inSet set i = true then some k else if (s.chan i).group = some k then none else (s.chan i).group } := by
  rw [writeMembers_eq]
  exact Chans.get_mapIdx _ _ _

theorem writeMembers_grp (h : GroupId) : (writeMembers k set s).grp h = s.grp h := rfl

theorem keepsPart_writeMembers (gs : Groups) : KeepsPart s { writeMembers k set s with groups := gs } :=
  keepsPart_of_records _ _

/-- A disbanded group has no member. -/
theorem disbandTaken_memberSet : (disbandTaken g s).memberSet (.console g) = 0 := by
  refine BitVec.eq_of_getLsbD_eq fun i hi => ?_
  have out := memberSet_getLsbD (s := disbandTaken g s) (.console g) ⟨i, hi⟩
  have group : ((disbandTaken g s).chan ⟨i, hi⟩).group ≠ some (.console g) := by
    rw [disbandTaken, State.retrip_chan, State.modGrp, State.setGrp_chan, writeMembers_chan]
    have none_in : ¬inSet 0 (⟨i, hi⟩ : Channel) = true := by simp [inSet]
    rw [if_neg none_in]
    split
    next => simp
    next h => exact h
  simpa [group] using out

/-! ### The statement -/

/-- Settles O41, by the tests of R104 and R106 in their order. -/
theorem setGroupAndDisband : Obligations.SetGroupAndDisband := by
  unfold Obligations.SetGroupAndDisband
  intro c g set n w s hw h u k p
  have hp (b : Byte) : ([b, set, n] ++ w).length = 23 := by simp [hw]
  have hgrp (k : GroupId) : u.grp k = s.grp k := refreshLink_grp s c k
  have hchan (i : Channel) : u.chan i = s.chan i := refreshLink_chan s c i
  have hown : owns c u g = true ↔ OwnedBy c s g := by rw [owns_iff, hgrp]
  have named : groupAt p 0 = some g := groupAt_ofNat_cons g _
  have frame : exec (.setGroup c p) s = _ := exec_setGroup h (hp _)
  have disbanded : exec (.disband c [BitVec.ofNat 8 g.val]) s = .next (replied c 0x31 (disband c g u)) := by
    rw [exec_disband h, groupAt_ofNat, withField_some]
  have set_out (hn : 2 < n.toNat) : intervalAt p 2 = none := if_neg (by simpa [p, byteAt] using hn)
  have setGroup_in (hn : n.toNat ≤ 2) : exec (.setGroup c p) s = .next
      (replied c 0x30 (setGroup c g set n.toNat (windowsAt p 3) u)) := by
    have interval : intervalAt p 2 = some n.toNat := if_pos hn
    have members : setAt p 1 = set := by simp [setAt, byteAt, p]
    rw [frame, named, withField_some, interval, withField_some, members]
  refine ⟨fun hn => ?_, fun b hb => ⟨?_, ?_⟩, fun hn r hr => ?_, fun hn hr => ?taken, fun ho => ?_, fun ho hm => ?_,
    fun ho hm => ?emptied⟩
  · rw [frame, named, withField_some, set_out hn, withField_none, replied_refuse]
  · rw [exec_setGroup h (hp _), List.cons_append, groupAt_cons_out_of_range hb, withField_none, replied_refuse]
  · rw [exec_disband h, groupAt_of_out_of_range hb, withField_none, replied_refuse]
  · rw [setGroup_in hn, setGroup_of_refused (setGroupRefusal_refreshLink.trans hr), replied_refuseWith]
  case taken =>
    have taken : (setGroupTaken c g set n.toNat (windowsAt p 3) u).grp k = { s.grp k with
        owner := asHolder c, interval := n.toNat, windows := clampWindows (windowsAt p 3), prof := State.resetProfile } := by
      rw [← hgrp k, setGroupTaken, State.modGrp, State.grp_setGrp, if_pos rfl, writeMembers_grp]
    refine ⟨_, by rw [setGroup_in hn, setGroup_of_taken (setGroupRefusal_refreshLink.trans hr), replied_takenWith],
      fun i => ?_, ?_⟩
    · rw [setGroupTaken, State.modGrp, State.setGrp_chan, writeMembers_chan, hchan]
    · rw [taken]
      refine ⟨rfl, rfl, rfl, setGroupRefusal_none_idle hr, rfl, rfl, Nat.zero_max _, rfl, Nat.zero_max _, rfl, rfl, rfl, rfl,
        rfl, rfl, fun j hj => ?_, keepsPart_writeMembers _⟩
      rw [setGroupTaken, State.modGrp, State.grp_setGrp, if_neg hj, writeMembers_grp, hgrp]
  · rw [disbanded, disband, if_neg (mt hown.mp ho), replied_refuseWith]
  · rw [disbanded, disband, if_pos (hown.mpr ho), if_pos (by rw [hgrp]; exact hm), replied_refuseWith]
  case emptied =>
    have own : (disbandTaken g u).grp k = { s.grp k with
        owner := .none, state := .idle, queue := [], trip := none, prof := State.resetProfile } := by
      rw [← hgrp k, disbandTaken, State.retrip_grp, State.modGrp, State.grp_setGrp, if_pos rfl, writeMembers_grp]
    refine ⟨disbandTaken g u, ?_, own, fun i => ?_, fun j hj => ?_, State.tripoutLaw_retrip _,
      keepsPart_trans (keepsPart_writeMembers _) keepsPart_retrip⟩
    · rw [disbanded, disband, if_pos (hown.mpr ho), if_neg (by rw [hgrp, hm]; simp), replied_takenWith, ownerEcho, own,
        disbandTaken_memberSet]
      rfl
    · have none_in : ¬inSet 0 i = true := by simp [inSet]
      rw [disbandTaken, State.retrip_chan, State.modGrp, State.setGrp_chan, writeMembers_chan, if_neg none_in, hchan]
    · rw [disbandTaken, State.retrip_grp, State.modGrp, State.grp_setGrp, if_neg hj, writeMembers_grp, hgrp]

end Sys2Proof.Machine
end

section
/-! PROOFS. LOAD_CUE (R107, R184, R185): the entries that a cue block spells, the blocks that name no cue, and the
statement. -/

namespace Sys2Proof.Machine

open Sys2Proof.Safety

variable {c : Console} {g : ConsoleGroup} {s : State} {p l : List Byte} {k n m : Nat} {es : List (Channel × Nat)}

/-! ### The bytes of a block -/

theorem byteAt_append (p l : List Byte) (k : Nat) : byteAt (p ++ l) (p.length + k) = byteAt l k := by
  simp [byteAt, List.getD_eq_getElem?_getD, List.getElem?_append_right]

theorem channelAt_eq_some (h : channelAt p k = some i) : byteAt p k = i.val := by
  unfold channelAt at h
  split at h
  next => rw [← Option.some_inj.mp h]
  next => cases h

theorem groupAt_of_four_le (h : 4 ≤ byteAt p k) : groupAt p k = none := dif_neg (by omega)

theorem followAt_of_two_le (h : 2 ≤ byteAt p k) : followAt p k = none := by
  unfold followAt
  split
  · omega
  · omega
  · rfl

/-! ### The entries (R185) -/

/-- The three bytes of an entry: its channel, and its target as a word. -/
def entryBytes (x : Channel × Byte × Byte) : List Byte := [BitVec.ofNat 8 x.1.val, x.2.1, x.2.2]

/-- The entry that three bytes name. -/
def entryOf (x : Channel × Byte × Byte) : Channel × Nat := (x.1, 256 * x.2.1.toNat + x.2.2.toNat)

/-- The bytes of entries, behind any bytes, are read as the entries. -/
theorem entriesAt_entryBytes (entries : List (Channel × Byte × Byte)) (p : List Byte) :
    entriesAt (p ++ entries.flatMap entryBytes) p.length entries.length = some (entries.map entryOf) := by
  induction entries generalizing p with
  | nil => rfl
  | cons x rest ih =>
    set q := p ++ (x :: rest).flatMap entryBytes with hq
    have split : q = (p ++ entryBytes x) ++ rest.flatMap entryBytes := by simp [hq]
    have byte (j : Nat) : byteAt q (p.length + j) = byteAt ((x :: rest).flatMap entryBytes) j := byteAt_append _ _ j
    have channel : channelAt q p.length = some x.1 := by
      have first : byteAt q p.length = x.1.val := (byte 0).trans (toNat_ofNat_fin8 x.1)
      simp [channelAt, first]
    have target : wordAt q (p.length + 1) = 256 * x.2.1.toNat + x.2.2.toNat := by
      rw [wordAt, byte 1, Nat.add_assoc, byte 2]
      rfl
    have others : entriesAt q (p.length + 3) rest.length = some (rest.map entryOf) := by
      rw [split]
      simpa [entryBytes] using ih (p ++ entryBytes x)
    rw [List.length_cons, entriesAt, channel, others, target]
    rfl

/-- Entries that are read have the channels that their bytes name. -/
theorem entriesAt_channels (h : entriesAt p k n = some es) :
    es.length = n ∧ ∀ (m : Nat) (hm : m < es.length), byteAt p (k + 3 * m) = es[m].1.val := by
  induction n generalizing k es with
  | zero =>
    obtain rfl : [] = es := Option.some_inj.mp h
    simp
  | succ n ih =>
    unfold entriesAt at h
    split at h
    next i rest hi hrest =>
      obtain rfl : _ :: rest = es := Option.some_inj.mp h
      obtain ⟨len, channels⟩ := ih hrest
      refine ⟨by simp [len], fun m hm => ?_⟩
      cases m with
      | zero => exact channelAt_eq_some hi
      | succ m =>
        rw [List.getElem_cons_succ, ← channels m (by simpa using hm)]
        congr 1
        omega
    next => cases h

theorem noRepeat_iff (es : List (Channel × Nat)) : noRepeat es = true ↔ (es.map Prod.fst).Nodup := by
  induction es with
  | nil => simp [noRepeat]
  | cons e rest ih =>
    have new : (!rest.any fun f => decide (f.1 = e.1)) = true ↔ e.1 ∉ rest.map Prod.fst := by
      simp only [Bool.not_eq_true', List.any_eq_false, decide_eq_true_eq, List.mem_map]
      grind
    rw [noRepeat, Bool.and_eq_true, new, ih, List.map_cons, List.nodup_cons]

/-! ### The cue of a block -/

/-- The bytes of a block are at fault: a field outside its range, or a channel named twice (R107). -/
def CueBytesBad (p : List Byte) : Prop :=
  2 ≤ byteAt p 5 ∨ byteAt p 6 = 0 ∨ 8 < byteAt p 6 ∨ (∃ m, m < byteAt p 6 ∧ 8 ≤ byteAt p (7 + 3 * m)) ∨
    ∃ m, m < byteAt p 6 ∧ ∃ l, l < m ∧ byteAt p (7 + 3 * l) = byteAt p (7 + 3 * m)

theorem cueAt_of_bad (h : CueBytesBad p) : cueAt p = none := by
  rw [Option.eq_none_iff_forall_ne_some]
  intro q hq
  unfold cueAt at hq
  split at hq
  next follow es hfollow hes =>
    split at hq
    next ok =>
      obtain ⟨least, most, distinct⟩ := ok
      obtain ⟨len, channels⟩ := entriesAt_channels hes
      rcases h with hf | h0 | h8 | ⟨m, hm, hc⟩ | ⟨m, hm, l, hl, heq⟩
      · rw [followAt_of_two_le hf] at hfollow
        cases hfollow
      · omega
      · omega
      · have small := (es[m]).1.isLt
        rw [← channels m (by omega)] at small
        omega
      · have nodup : (es.map Prod.fst).Nodup := (noRepeat_iff es).mp distinct
        rw [channels l (by omega), channels m (by omega)] at heq
        have same : l = m := (nodup.getElem_inj_iff (hi := by simp; omega) (hj := by simp; omega)).mp
          (by simpa using Fin.ext heq)
        omega
    next => cases hq
  next => cases hq

theorem cueFits_iff : cueFits p = true ↔ 7 ≤ p.length ∧ p.length = 7 + 3 * byteAt p 6 := by simp [cueFits]

theorem reqLoadCue_of_fits (h : cueFits p = true) :
    reqLoadCue c p s = withField (groupAt p 0) (fun g => withField (cueAt p) (loadCue c g)) s := by
  rw [reqLoadCue, if_pos h]

theorem reqLoadCue_of_bad (h : cueFits p = true) (hb : 4 ≤ byteAt p 0 ∨ CueBytesBad p) :
    reqLoadCue c p s = refuse .badValue s := by
  rw [reqLoadCue_of_fits h]
  rcases hb with hb | hb
  · rw [groupAt_of_four_le hb, withField_none]
  · rw [cueAt_of_bad hb]
    cases groupAt p 0 <;> rfl

theorem exec_loadCue (h : Ready c p s) : exec (.loadCue c p) s = .next (replied c 0x32 (reqLoadCue c p (refreshLink c s))) := by
  rw [exec_loadCue_eq, addressedFrame_ready s c _ p _ h, takeAddressed_eq]
  rfl

/-! ### LOAD_CUE of a cue -/

/-- The bytes of a follow value (R185). -/
def followByte : Follow → Byte
  | .stopAtEnd => 0
  | .autoNext => 1

/-- The block of a cue. -/
def cueBlock (g : ConsoleGroup) (t1 t2 speed ramp : Byte) (follow : Follow) (entries : List (Channel × Byte × Byte)) :
    List Byte :=
  [BitVec.ofNat 8 g.val, t1, t2, speed, ramp, followByte follow, BitVec.ofNat 8 entries.length] ++
    entries.flatMap entryBytes

section Block

variable {t1 t2 speed ramp : Byte} {follow : Follow} {entries : List (Channel × Byte × Byte)}

/-- The cue of a block, as sent. -/
def cueSent (t1 t2 speed ramp : Byte) (follow : Follow) (entries : List (Channel × Byte × Byte)) : Cue :=
  { tag := 256 * t1.toNat + t2.toNat, speed := speed.toNat, ramp := ramp.toNat, follow := follow
    entries := entries.map entryOf }

theorem cueBlock_count (h : entries.length ≤ 8) :
    byteAt (cueBlock g t1 t2 speed ramp follow entries) 6 = entries.length := by
  have count : (BitVec.ofNat 8 entries.length).toNat = entries.length := by simp; omega
  exact count

theorem cueBlock_length : (cueBlock g t1 t2 speed ramp follow entries).length = 7 + 3 * entries.length := by
  have bytes : (entries.flatMap entryBytes).length = 3 * entries.length := by
    induction entries with
    | nil => rfl
    | cons x rest ih => simp [entryBytes, ih]; omega
  simp [cueBlock, bytes]
  omega

/-- A well-made block names its group and its cue. -/
theorem reqLoadCue_of_block (h1 : 1 ≤ entries.length) (h8 : entries.length ≤ 8) (hd : (entries.map Prod.fst).Nodup) :
    reqLoadCue c (cueBlock g t1 t2 speed ramp follow entries) s =
      loadCue c g (cueSent t1 t2 speed ramp follow entries) s := by
  set p := cueBlock g t1 t2 speed ramp follow entries with hp
  have count : byteAt p 6 = entries.length := cueBlock_count h8
  have fits : cueFits p = true := cueFits_iff.mpr ⟨by rw [hp, cueBlock_length]; omega, by rw [count, hp, cueBlock_length]⟩
  have group : groupAt p 0 = some g := groupAt_ofNat_cons g _
  have followed : followAt p 5 = some follow := by cases follow <;> rfl
  have read : entriesAt p 7 entries.length = some (entries.map entryOf) :=
    entriesAt_entryBytes entries [BitVec.ofNat 8 g.val, t1, t2, speed, ramp, followByte follow, BitVec.ofNat 8 entries.length]
  have distinct : noRepeat (entries.map entryOf) = true := by
    rw [noRepeat_iff, List.map_map]
    exact hd
  have cue : cueAt p = some (cueSent t1 t2 speed ramp follow entries) := by
    rw [cueAt, followed, count, read]
    exact if_pos ⟨h1, h8, distinct⟩
  rw [reqLoadCue_of_fits fits, group, withField_some, cue, withField_some]

end Block

variable {q : Cue}

theorem loadCue_of_owner (ho : OwnedBy c s g) (hq : (s.grp (.console g)).queue.length < 4) :
    loadCue c g q s = takenWith .ok (fun s => queueCount g s ++ u8 (clampCue q).speed ++ u8 (clampCue q).ramp)
      (s.modGrp (.console g) fun r => { r with queue := r.queue ++ [clampCue q] }) := by
  rw [loadCue, if_pos ((owns_iff s c g).mpr ho), if_neg (by omega)]

theorem loadCue_of_full (ho : OwnedBy c s g) (hq : 4 ≤ (s.grp (.console g)).queue.length) :
    loadCue c g q s = refuseCue .queueFull g s := by
  rw [loadCue, if_pos ((owns_iff s c g).mpr ho), if_pos hq]

theorem loadCue_of_not_owner (ho : ¬OwnedBy c s g) : loadCue c g q s = refuseCue .notOwner g s := by
  rw [loadCue, if_neg (mt (owns_iff s c g).mp ho)]

/-- A refused cue echoes two free bytes, and draws them. -/
theorem replied_refuseCue (r : Result) : ∃ (y z : Byte) (n : Nat),
    replied c 0x32 (refuseCue r g s) = answered c 0x32 r (queueCount g s ++ [y, z]) { s with freeCount := n } :=
  ⟨_, _, _, rfl⟩

/-- Settles O42, by the tests of R107 in their order. -/
theorem loadCueAppends : Obligations.LoadCueAppends := by
  unfold Obligations.LoadCueAppends
  intro c g entries t1 t2 speed ramp follow block s h u k p q wellMade
  have hp : p = cueBlock g t1 t2 speed ramp follow entries := by cases follow <;> rfl
  have hgrp (k : GroupId) : u.grp k = s.grp k := refreshLink_grp s c k
  have hown : OwnedBy c u g ↔ OwnedBy c s g := by rw [OwnedBy, hgrp]
  have count : queueCount g u = u8 (s.grp k).queue.length := by rw [queueCount, hgrp]
  have taken (hw : wellMade) :
      exec (.loadCue c p) s = .next (replied c 0x32 (loadCue c g (cueSent t1 t2 speed ramp follow entries) u)) := by
    obtain ⟨least, most, distinct⟩ := hw
    have ready : Ready c p s := ready_of_length h (by rw [hp, cueBlock_length]; omega)
    rw [exec_loadCue ready, hp, reqLoadCue_of_block least most distinct]
  refine ⟨fun hw ho hq => ?appended, fun hw ho hq => ?full, fun hw ho => ?notOwner, fun hl => ?_, fun h7 hl hb => ?_⟩
  case appended =>
    have clamped : clampCue (cueSent t1 t2 speed ramp follow entries) = q := rfl
    rw [taken hw, loadCue_of_owner (hown.mpr ho) (by rwa [hgrp]), replied_takenWith, clamped, queueCount, State.modGrp,
      State.grp_setGrp, if_pos rfl, hgrp, List.length_append]
    rfl
  case full =>
    rw [taken hw, loadCue_of_full (hown.mpr ho) (by rwa [hgrp]), ← count]
    obtain ⟨y, z, n, e⟩ := replied_refuseCue (c := c) (g := g) (s := u) .queueFull
    exact ⟨y, z, n, by rw [e]⟩
  case notOwner =>
    rw [taken hw, loadCue_of_not_owner (mt hown.mp ho), ← count]
    obtain ⟨y, z, n, e⟩ := replied_refuseCue (c := c) (g := g) (s := u) .notOwner
    exact ⟨y, z, n, by rw [e]⟩
  · rw [exec_loadCue h, reqLoadCue_of_wrong_length hl, replied_refuse]
  · rw [exec_loadCue h, reqLoadCue_of_bad (cueFits_iff.mpr ⟨h7, hl⟩) hb, replied_refuse]

end Sys2Proof.Machine
end

section
/-! PROOFS. The pendant evaluation (R95, R96): what it makes of each channel, in ascending order, as the statements say it. -/

namespace Sys2Proof.Machine

open Sys2Proof.Safety

variable {s v : State} {f : State → Channel → State} {i j : Channel} {n : Nat}

/-! ### An operation made on every channel in ascending order -/

/-- The first `n` channels of such an operation. -/
def firstChannels (f : State → Channel → State) (s : State) (n : Nat) : State := (channels.take n).foldl f s

/-- The operation on channel `i` touches that channel's record alone. -/
def OneChannel (f : State → Channel → State) : Prop := ∀ s i j, j ≠ i → (f s i).chan j = s.chan j

theorem firstChannels_succ (i : Channel) : firstChannels f s (i.val + 1) = f (firstChannels f s i.val) i := by
  have front : channels.take (i.val + 1) = channels.take i.val ++ [i] := by revert i; decide
  rw [firstChannels, front, List.foldl_append]
  rfl

theorem firstChannels_eight : firstChannels f s 8 = channels.foldl f s := rfl

/-- A channel that is still to come is as it was. -/
theorem firstChannels_later (hf : OneChannel f) (hn : n ≤ j.val) : (firstChannels f s n).chan j = s.chan j := by
  induction n with
  | zero => rfl
  | succ n ih =>
    have later : j ≠ (⟨n, by omega⟩ : Channel) := fun e => by rw [e] at hn; simp at hn
    rw [firstChannels_succ (⟨n, by omega⟩ : Channel), hf _ _ _ later]
    exact ih (by omega)

/-- A channel that has been passed stays as it was left. -/
theorem firstChannels_earlier (hf : OneChannel f) (hj : j.val < n) (hn : n ≤ 8) :
    (firstChannels f s n).chan j = (firstChannels f s (j.val + 1)).chan j := by
  induction n with
  | zero => omega
  | succ n ih =>
    by_cases last : n = j.val
    · rw [last]
    · have earlier : j ≠ (⟨n, by omega⟩ : Channel) := fun e => last (by rw [e])
      rw [firstChannels_succ (⟨n, by omega⟩ : Channel), hf _ _ _ earlier]
      exact ih (by omega) (by omega)

/-- What the whole operation makes of channel `i`: its own turn, taken behind the channels before it. -/
theorem foldl_channels_chan (hf : OneChannel f) (i : Channel) :
    (channels.foldl f s).chan i = (f (firstChannels f s i.val) i).chan i := by
  rw [← firstChannels_eight, firstChannels_earlier hf i.isLt (by omega), firstChannels_succ]

/-- At its turn a channel is as it was. -/
theorem firstChannels_self (hf : OneChannel f) (i : Channel) : (firstChannels f s i.val).chan i = s.chan i :=
  firstChannels_later hf (by omega)

/-- The channels at the turn of `i`: those before it as they are left, the others as they were. -/
theorem firstChannels_chan (hf : OneChannel f) (i j : Channel) :
    (firstChannels f s i.val).chan j = if j < i then (channels.foldl f s).chan j else s.chan j := by
  split
  next h =>
    have before : j.val < i.val := h
    rw [← firstChannels_eight, firstChannels_earlier hf before (by omega), firstChannels_earlier hf j.isLt (by omega)]
  next h => exact firstChannels_later hf (by simpa using h)

/-! ### One channel of an evaluation -/

/-- The members of the pendant group are of one kind. -/
def PendantOneKind (s : State) : Prop :=
  ∀ i j : Channel, (s.chan i).group = some .pendant → (s.chan j).group = some .pendant →
    (s.chan i).cfg.kind = (s.chan j).cfg.kind

/-- Every member of the pendant group is of the kind of channel `i`. -/
def PendantFits (s : State) (i : Channel) : Prop :=
  ∀ j : Channel, (s.chan j).group = some .pendant → (s.chan j).cfg.kind = (s.chan i).cfg.kind

/-- The group's kind decides for all its members, which are of one kind (R95, R103). -/
theorem groupKind_fits (hk : PendantOneKind s) :
    (match s.groupKind .pendant with | none => true | some k => decide (k = (s.chan i).cfg.kind)) = true ↔
      PendantFits s i := by
  cases hm : s.members .pendant with
  | nil =>
    have empty : ∀ j : Channel, (s.chan j).group ≠ some .pendant := fun j hj => by
      have := (State.mem_members s .pendant j).mpr hj
      simp [hm] at this
    simp [State.groupKind, hm, PendantFits, empty]
  | cons m rest =>
    have member : (s.chan m).group = some .pendant := (State.mem_members s .pendant m).mp (by simp [hm])
    have kind : s.groupKind .pendant = some (s.chan m).cfg.kind := by simp [State.groupKind, hm]
    rw [kind]
    simp only [decide_eq_true_eq]
    exact ⟨fun e j hj => (hk j m hj member).trans e, fun fits => fits m member⟩

theorem evalChannel_oneChannel : OneChannel evalChannel := by
  intro s i j hj
  rcases evalChannel_cases s i with h | ⟨-, -, -, h⟩ | ⟨-, -, h⟩ <;> rw [h]
  · simp [hj]
  · simp [hj]

theorem releasePendant_oneChannel : OneChannel releasePendant := by
  intro s i j hj
  unfold releasePendant
  dsimp only
  split
  · simp [hj]
  · rfl

/-- The table of R95 for one channel. -/
theorem evalChannel_chan (hk : PendantOneKind s) (i : Channel) :
    let c := s.chan i
    (inSet s.arb.psel i = true → c.holder = .none ∧ c.state ≠ .off ∧ PendantFits s i →
      (evalChannel s i).chan i = { c with holder := .pendant, group := some .pendant }) ∧
    (inSet s.arb.psel i = true → ¬(c.holder = .none ∧ c.state ≠ .off ∧ PendantFits s i) →
      (evalChannel s i).chan i = c) ∧
    (¬inSet s.arb.psel i = true → c.holder = .pendant →
      (evalChannel s i).chan i = { c with holder := .none, group := none }) ∧
    (¬inSet s.arb.psel i = true → c.holder ≠ .pendant → (evalChannel s i).chan i = c) := by
  have fits := groupKind_fits (i := i) hk
  intro c
  unfold evalChannel
  refine ⟨fun hp h => ?_, fun hp h => ?_, fun hp h => ?_, fun hp h => ?_⟩
  · dsimp only
    rw [if_pos hp, if_pos ⟨h.1, h.2.1, fits.mpr h.2.2⟩]
    simp [c]
  · dsimp only
    rw [if_pos hp, if_neg fun g => h ⟨g.1, g.2.1, fits.mp g.2.2⟩]
  · dsimp only
    rw [if_neg hp, if_pos h]
    simp [c]
  · dsimp only
    rw [if_neg hp, if_neg h]

/-- An evaluation keeps the pendant group of one kind: a channel joins it only where it fits (R95). -/
theorem pendantOneKind_evalChannel (hk : PendantOneKind s) (i : Channel) : PendantOneKind (evalChannel s i) := by
  have kinds (j : Channel) : ((evalChannel s i).chan j).cfg = (s.chan j).cfg := by rw [(evalChannel_eq s i).2 j]
  have members (j : Channel) (hj : ((evalChannel s i).chan j).group = some .pendant) :
      (s.chan j).group = some .pendant ∨ (j = i ∧ PendantFits s i) := by
    by_cases hji : j = i
    · subst hji
      obtain ⟨takes, keeps, releases, rests⟩ := evalChannel_chan hk j
      by_cases hp : inSet s.arb.psel j = true
      · by_cases h : (s.chan j).holder = .none ∧ (s.chan j).state ≠ .off ∧ PendantFits s j
        · exact .inr ⟨rfl, h.2.2⟩
        · exact .inl (by rwa [keeps hp h] at hj)
      · by_cases h : (s.chan j).holder = .pendant
        · rw [releases hp h] at hj
          cases hj
        · exact .inl (by rwa [rests hp h] at hj)
    · exact .inl (by rwa [evalChannel_oneChannel s i j hji] at hj)
  intro a b ha hb
  rw [kinds, kinds]
  rcases members a ha with ga | ⟨rfl, fa⟩ <;> rcases members b hb with gb | ⟨rfl, fb⟩
  · exact hk a b ga gb
  · exact fb a ga
  · exact (fa b gb).symm
  · rfl

theorem pendantOneKind_foldl (l : List Channel) (hk : PendantOneKind s) : PendantOneKind (l.foldl evalChannel s) := by
  induction l generalizing s with
  | nil => exact hk
  | cons i l ih => exact ih (pendantOneKind_evalChannel hk i)

/-! ### The evaluation -/

theorem pendantEval_of_present (h : s.arb.ppres = true) : pendantEval s = channels.foldl evalChannel s := by
  rw [pendantEval, if_pos h]

theorem pendantEval_of_absent (h : s.arb.ppres = false) : pendantEval s = channels.foldl releasePendant s := by
  rw [pendantEval, if_neg (by simp [h])]

/-- With the pendant absent every channel that it holds is given back (R96). -/
theorem pendantEval_chan_of_absent (h : s.arb.ppres = false) (i : Channel) :
    (pendantEval s).chan i =
      if (s.chan i).holder = .pendant then { s.chan i with holder := .none, group := none } else s.chan i := by
  rw [pendantEval_of_absent h, foldl_channels_chan releasePendant_oneChannel]
  set v := firstChannels releasePendant s i.val with hv
  have self : v.chan i = s.chan i := firstChannels_self releasePendant_oneChannel i
  unfold releasePendant
  dsimp only
  rw [self]
  split
  · simp
  · exact self

/-- An evaluation leaves what R95 says, channel by channel in ascending order. -/
theorem pendantEvaluated_pendantEval (s : State) : PendantEvaluated s (pendantEval s) := by
  intro hk i
  cases hp : s.arb.ppres with
  | false =>
    rw [if_neg (by simp), pendantEval_chan_of_absent hp]
    split
    · exact ⟨rfl, rfl⟩
    · exact ⟨rfl, rfl⟩
  | true =>
    set v := firstChannels evalChannel s i.val with hv
    have self : v.chan i = s.chan i := firstChannels_self evalChannel_oneChannel i
    have psel : v.arb = s.arb := by rw [hv, firstChannels, (foldl_authority_eq s evalChannel evalChannel_eq _).1]
    have kind : PendantOneKind v := pendantOneKind_foldl _ hk
    have turn : (pendantEval s).chan i = (evalChannel v i).chan i := by
      rw [pendantEval_of_present hp, foldl_channels_chan evalChannel_oneChannel]
    have before (j : Channel) : v.chan j = if j < i then (pendantEval s).chan j else s.chan j := by
      rw [pendantEval_of_present hp]
      exact firstChannels_chan evalChannel_oneChannel i j
    have cfgs (j : Channel) : (v.chan j).cfg = (s.chan j).cfg := by
      rw [hv, firstChannels, (foldl_authority_eq s evalChannel evalChannel_eq _).2 j]
    have fits : PendantFits v i ↔ ∀ j : Channel,
        (j < i ∧ ((pendantEval s).chan j).group = some .pendant) ∨ (i ≤ j ∧ (s.chan j).group = some .pendant) →
          (s.chan j).cfg.kind = (s.chan i).cfg.kind := by
      unfold PendantFits
      refine forall_congr' fun j => ?_
      rw [cfgs, cfgs, before]
      by_cases hj : j < i
      · simp [hj, not_le.mpr hj]
      · simp [hj, not_lt.mp hj]
    obtain ⟨takes, keeps, releases, rests⟩ := evalChannel_chan kind i
    rw [self, psel] at takes keeps releases rests
    rw [turn]
    by_cases hs : inSet s.arb.psel i = true
    · rw [if_pos ⟨rfl, hs⟩]
      split
      next h => rw [takes hs ⟨h.1, h.2.1, fits.mpr h.2.2⟩]; exact ⟨rfl, rfl⟩
      next h => rw [keeps hs fun g => h ⟨g.1, g.2.1, fits.mp g.2.2⟩]; exact ⟨rfl, rfl⟩
    · rw [if_neg fun g => hs g.2]
      split
      next h => rw [releases hs h]; exact ⟨rfl, rfl⟩
      next h => rw [rests hs h]; exact ⟨rfl, rfl⟩

/-- The pendant group's entry to IDLE, with its record at `r`, leaves what R95 and R122 say. -/
theorem pendantEnds_pendantIdle {r : Group} : PendantEnds r s (pendantIdle (s.setGrp .pendant r)) := by
  set v := s.setGrp .pendant { r with state := .idle, updateTimer := none } with hv
  have idle : pendantIdle (s.setGrp .pendant r) = pendantEval v := by
    rw [pendantIdle, State.modGrp, State.grp_setGrp, if_pos rfl, State.setGrp_setGrp]
  have rest : pendantEval v = { v with chans := (pendantEval v).chans } := (pendantEval_eq v).1
  rw [idle]
  refine ⟨?_, fun n => ?_, ?_, (pendantEval_eq v).2, pendantEvaluated_pendantEval v, ?_⟩
  · rw [pendantEval_grp, hv, State.grp_setGrp, if_pos rfl]
  · rw [pendantEval_grp, hv, State.grp_setGrp, if_neg (by simp)]
  · rw [rest]; rfl
  · rw [rest]; exact keepsPart_of_records _ _

end Sys2Proof.Machine
end

section
/-! PROOFS. RESTART (R101, R102, R177, R178): what it makes of the groups, and that the evaluation behind it finds no
channel held; the statement. -/

namespace Sys2Proof.Machine

open Sys2Proof.Safety

variable {c : Console} {s t u : State} {i : Channel}

theorem exec_restart (h : Ready c [] s) : exec (.restart c []) s = .next (replied c 0x45 (restart (refreshLink c s))) :=
  congrArg Host.Outcome.next (fixedFrame_eq h rfl _)

/-- The link refresh writes the link of its console alone in the arbiter. -/
theorem refreshLink_arb : (refreshLink c s).arb = { s.arb with links := (refreshLink c s).arb.links } := by
  unfold refreshLink
  dsimp only
  split <;> rfl

theorem restartBusy_iff : restartBusy s = true ↔
    (∃ g : ConsoleGroup, (s.grp (.console g)).state.inMove = true) ∨ (s.grp .pendant).state ≠ .idle := by
  simp [restartBusy]

theorem restart_of_busy (h : restartBusy s = true) : restart s = refuseWith .busy (fun _ => []) s := if_pos h

theorem restart_of_free (h : ¬restartBusy s = true) : restart s = takenWith .ok (fun _ => []) (restarted s) := if_neg h

/-- The state that the evaluation behind a RESTART is made from. -/
def cleared (s : State) : State := emptied (unheld s)

theorem restarted_of_cleared : restarted s =
    { (pendantEval (cleared s)).retrip with notices := ⟨State.resetNotices, State.resetNotices⟩ } := by
  rw [restarted_eq, pendantEval_retrip, retrip_retrip]
  rfl

theorem cleared_chan (i : Channel) : (cleared s).chan i = { s.chan i with holder := .none, group := none } :=
  Chans.get_mapIdx _ _ _

/-- A console group out of a move returns to IDLE, with nothing of its selection left (R177). -/
theorem restartedGroup_of_still {r : Group} (h : r.state.inMove = false) :
    restartedGroup r = { r with owner := .none, queue := [], trip := none, state := .idle, prof := State.resetProfile } := by
  unfold restartedGroup
  cases hs : r.state <;> simp_all [GroupState.inMove]

theorem cleared_grp_console {g : ConsoleGroup} (h : (s.grp (.console g)).state.inMove = false) :
    (cleared s).grp (.console g) = { s.grp (.console g) with
      owner := .none, queue := [], trip := none, state := .idle, prof := State.resetProfile } := by
  rw [cleared, emptied_grp_console, unheld_grp_console]
  exact restartedGroup_of_still (r := { s.grp (.console g) with owner := .none }) h

theorem cleared_grp_pendant : (cleared s).grp .pendant = { s.grp .pendant with prof := State.resetProfile } := rfl

/-- An evaluation depends on the channels and on the pendant's presence and switches alone. -/
theorem pendantEvaluated_congr (hc : u.chans = s.chans) (hp : u.arb.ppres = s.arb.ppres) (hs : u.arb.psel = s.arb.psel)
    (h : PendantEvaluated u t) : PendantEvaluated s t := by
  have chan (i : Channel) : u.chan i = s.chan i := by rw [State.chan, hc]; rfl
  simpa only [PendantEvaluated, chan, hp, hs] using h

/-- A channel whose switch is open, or that is OFF, is held by none behind the evaluation of a RESTART. -/
theorem not_taken_of_cleared (h : inSet s.arb.psel i = false ∨ (s.chan i).state = .off) :
    ((pendantEval (cleared s)).chan i).holder = .none ∧ ((pendantEval (cleared s)).chan i).group = none := by
  have evaluated := pendantEvaluated_pendantEval (cleared s) (by simp [cleared_chan]) i
  simp only [cleared_chan, KeepsAuthority] at evaluated
  have psel : (cleared s).arb = s.arb := rfl
  rw [psel] at evaluated
  rcases h with h | h
  · rw [if_neg fun g => by simp [h] at g, if_neg (by simp)] at evaluated
    exact evaluated
  · split at evaluated
    · rw [if_neg fun g => g.2.1 h] at evaluated
      exact evaluated
    · rw [if_neg (by simp)] at evaluated
      exact evaluated

theorem not_taken_of_absent (h : s.arb.ppres = false) :
    ((pendantEval (cleared s)).chan i).holder = .none ∧ ((pendantEval (cleared s)).chan i).group = none := by
  rw [pendantEval_chan_of_absent (s := cleared s) h, cleared_chan, if_neg (by simp)]
  exact ⟨rfl, rfl⟩

/-- Settles O53: a RESTART out of a move clears every selection, and the evaluation behind it finds no channel held. -/
theorem restartClearsSelections : Obligations.RestartClearsSelections := by
  unfold Obligations.RestartClearsSelections
  intro c s h u busy
  have hgrp (k : GroupId) : u.grp k = s.grp k := refreshLink_grp s c k
  have hchans : u.chans = s.chans := refreshLink_chans
  have hchan (i : Channel) : u.chan i = s.chan i := refreshLink_chan s c i
  have hbusy : restartBusy u = true ↔ busy := by rw [restartBusy_iff]; simp [hgrp, busy]
  have ppres : u.arb.ppres = s.arb.ppres := by rw [refreshLink_arb]
  have psel : u.arb.psel = s.arb.psel := by rw [refreshLink_arb]
  refine ⟨fun hb => by rw [exec_restart h, restart_of_busy (hbusy.mpr hb), replied_refuseWith], fun hb => ?_⟩
  obtain ⟨still, -⟩ := not_or.mp hb
  have rest : pendantEval (cleared u) = { cleared u with chans := (pendantEval (cleared u)).chans } :=
    (pendantEval_eq (cleared u)).1
  have evaluated : PendantEvaluated { s with chans := s.chans.mapIdx fun _ c => { c with holder := .none, group := none } }
      (pendantEval (cleared u)) := by
    refine pendantEvaluated_congr (u := cleared u) ?_ ppres psel (pendantEvaluated_pendantEval (cleared u))
    rw [← hchans]
    rfl
  refine ⟨restarted u, by rw [exec_restart h, restart_of_free (mt hbusy.mp hb), replied_takenWith], ?_⟩
  rw [restarted_of_cleared]
  refine ⟨fun g => ?_, ?_, rfl, ?tripout, ?_, ?_, ?_, ?_, ?_, ?_, ?_, ?_, fun i => ?_, evaluated, fun hp i => ?_,
    fun hp i hi => ?_⟩
  case tripout => exact State.tripoutLaw_retrip (pendantEval (cleared u))
  · have console := cleared_grp_console (s := u) (g := g) (by simpa [hgrp] using not_exists.mp still g)
    rw [hgrp] at console
    exact (pendantEval_grp _ _).trans console
  · have pendant := cleared_grp_pendant (s := u)
    rw [hgrp] at pendant
    exact (pendantEval_grp _ _).trans pendant
  · rw [rest]; rfl
  · rw [rest]; exact refreshLink_settings _ _
  · rw [rest]; exact refreshLink_supply _ _
  · rw [← refreshLink_stops s c, rest]; rfl
  · rw [rest]; exact refreshLink_scanner _ _
  · rw [rest]; exact refreshLink_station _ _
  · rw [rest]; exact refreshLink_timebase _ _
  · rw [rest]; exact refreshLink_pending _ _
  · have kept := (pendantEval_eq (cleared u)).2 i
    rw [cleared_chan, hchan] at kept
    exact kept
  · exact not_taken_of_absent (ppres.trans hp)
  · exact not_taken_of_cleared (hi.imp (by rw [psel]; exact id) (by rw [hchan]; exact id))

end Sys2Proof.Machine
end

section
/-! PROOFS. SET_PART (R66, R157, R162, R176): the settings of its eight bytes, what a new enable set and the monitor's
comparison leave, and the statement. -/

namespace Sys2Proof.Machine

open Sys2Proof.Safety

variable {c : Console} {s : State} {i : Channel} {k : LoadInput} {new : EightSet} {x : Chan}
  {level mask a b d e speed enable : Byte}

/-! ### The settings of a block (R176, R184) -/

/-- The settings that eight bytes spell. -/
def settingsSent (level mask a b d e speed enable : Byte) : Settings :=
  { level := level.toNat, mask := BitVec.ofNat 5 mask.toNat, linkTimeout := 256 * a.toNat + b.toNat
    holdWindow := 256 * d.toNat + e.toNat, pendantSpeed := speed.toNat, enable := enable }

theorem settingsAt_out_of_range (h : 32 ≤ mask.toNat) : settingsAt [level, mask, a, b, d, e, speed, enable] 0 = none := by
  have big : ¬byteAt [level, mask, a, b, d, e, speed, enable] (0 + 1) < 32 := by simpa [byteAt] using h
  rw [settingsAt, classSetAt, if_neg big]
  rfl

theorem settingsAt_of_lt (h : mask.toNat < 32) :
    settingsAt [level, mask, a, b, d, e, speed, enable] 0 = some (settingsSent level mask a b d e speed enable) := by
  have enabled : setAt [level, mask, a, b, d, e, speed, enable] (0 + 7) = enable := by simp [setAt, byteAt]
  rw [settingsAt, classSetAt, if_pos (show byteAt [level, mask, a, b, d, e, speed, enable] (0 + 1) < 32 from h), enabled]
  rfl

theorem exec_setPart (h : Ready c [] s) : exec (.setPart c [level, mask, a, b, d, e, speed, enable]) s = .next (replied c 0x44
    (withField (settingsAt [level, mask, a, b, d, e, speed, enable] 0) setPart (refreshLink c s))) :=
  congrArg Host.Outcome.next (fixedFrame_eq (ready_of_length h (by simp)) rfl _)

/-! ### The monitor's comparison (R157, R159) -/

/-- The monitor state that a comparison leaves. -/
def monitorAfter (threshold vctl : Nat) : MonitorState → MonitorState
  | .normal => if vctl < threshold then .dip else .normal
  | .dip => if threshold ≤ vctl then .normal else .dip
  | .low => if threshold + 500 < vctl then .normal else .low

/-- The low timer that a comparison leaves. -/
def lowTimerAfter (threshold vctl : Nat) (now : Time) (timer : Option Time) : MonitorState → Option Time
  | .normal => if vctl < threshold then some (now + 10000) else timer
  | .dip => if threshold ≤ vctl then none else timer
  | .low => if threshold + 500 < vctl then none else timer

theorem startMs_10 (now : Time) : startMs now 10 = some (now + 10000) := by simp [startMs, afterMs]

/-- A comparison of VCTL with the threshold writes the monitor and its timer, and ends control low with a notice. -/
theorem monitorCompare_eq (s : State) : ∃ n o,
    monitorCompare s = { s with
      notices := n
      stops := { s.stops with
        tripout := o
        monitor := monitorAfter (thresholdMv s.settings.level) s.stops.vctl s.stops.monitor
        lowTimer := lowTimerAfter (thresholdMv s.settings.level) s.stops.vctl s.timebase s.stops.lowTimer s.stops.monitor } } ∧
    KeepsNotices s (monitorCompare s) := by
  unfold monitorCompare
  cases hm : s.stops.monitor with
  | normal =>
    dsimp only [monitorAfter, lowTimerAfter]
    split
    · exact ⟨_, s.stops.tripout, by rw [startMs_10], keepsNotices_rfl⟩
    · exact ⟨_, s.stops.tripout, by rw [← hm], keepsNotices_rfl⟩
  | dip =>
    dsimp only [monitorAfter, lowTimerAfter]
    split
    · exact ⟨_, _, rfl, keepsNotices_rfl⟩
    · exact ⟨_, s.stops.tripout, by rw [← hm], keepsNotices_rfl⟩
  | low =>
    dsimp only [monitorAfter, lowTimerAfter]
    split
    · exact ⟨_, _, rfl, State.keepsNotices_raise { s with stops := { s.stops with monitor := .normal, lowTimer := none } } _⟩
    · exact ⟨_, s.stops.tripout, by rw [← hm], keepsNotices_rfl⟩

/-! ### A new enable set (R66) -/

/-- The conversion in flight and the channels under a new enable set (R66). -/
theorem storeEnable_of_changed (h : s.settings.enable ≠ new) :
    storeEnable new s = { s with
      settings := { s.settings with enable := new }
      scanner := (storeEnable new s).scanner
      chans := s.chans.mapIdx fun _ c => enableChan s.settings.enable new c } ∧
    (∀ v : Conversion, s.scanner = some v → (storeEnable new s).scanner = some { v with discard := true }) ∧
    (s.scanner = none → (storeEnable new s).scanner = (channels.find? (inSet new)).map fun k =>
      { input := k, start := s.timebase, discard := false }) := by
  unfold storeEnable
  dsimp only
  rw [if_neg h]
  exact ⟨rfl, fun v hv => by simp [hv], fun hv => by simp [hv, startConversion, lowestInput]⟩

theorem storeEnable_of_same (h : s.settings.enable = new) : storeEnable new s = s := if_pos h

theorem enableChan_of_unassigned {old : EightSet} (h : x.load.input = none) : enableChan old new x = x := by
  simp [enableChan, h]

theorem enableChan_of_unchanged {old : EightSet} (h : x.load.input = some k) (he : inSet new k = inSet old k) :
    enableChan old new x = x := by simp [enableChan, h, he]

/-- A channel whose input enters or leaves the set is emptied, and its load is not known (R66). -/
theorem enableChan_of_changed {old : EightSet} (h : x.load.input = some k) (he : inSet new k ≠ inSet old k) :
    enableChan old new x = { x with load := { x.load with
      ring := [], filtered := 0, raw := none, overCount := 0, underCount := 0, status := .unknown } } := by
  have differ : ¬inSet old k = inSet new k := fun e => he e.symm
  simp [enableChan, h, differ, emptyRing, deriveLoad]

/-! ### The statement -/

/-- The state that SET_PART stores its settings in and then compares. -/
def partStored (v : Settings) (s : State) : State := { storeEnable v.enable s with settings := clampSettings v }

theorem setPartTaken_eq (v : Settings) : setPartTaken v s = (monitorCompare (partStored v s)).retrip := rfl

/-- Settles O52: the enable set acts first, then the monitor compares under the new threshold, and TRIPOUT follows. -/
theorem setPartStores : Obligations.SetPartStores := by
  unfold Obligations.SetPartStores
  intro c level mask a b d e speed enable s h u p threshold
  refine ⟨fun hm => ?_, fun hm => ?_⟩
  · rw [exec_setPart h, settingsAt_out_of_range hm, withField_none, replied_refuse]
  set v := settingsSent level mask a b d e speed enable with hv
  set w := partStored v u with hw
  have hchans : u.chans = s.chans := refreshLink_chans
  have hchan (i : Channel) : u.chan i = s.chan i := refreshLink_chan s c i
  have settings : u.settings = s.settings := refreshLink_settings s c
  have scanner : u.scanner = s.scanner := refreshLink_scanner s c
  have timebase : u.timebase = s.timebase := refreshLink_timebase s c
  have stored : w = { u with chans := w.chans, scanner := w.scanner, settings := clampSettings v } := by
    rw [hw]
    unfold partStored storeEnable
    dsimp only
    split <;> rfl
  have time : w.timebase = s.timebase := (congrArg State.timebase stored).trans timebase
  have groups : w.groups = s.groups := (storeEnable_groups enable u).trans refreshLink_groups
  have stops : w.stops = s.stops := (congrArg State.stops stored).trans (refreshLink_stops s c)
  have limit : thresholdMv w.settings.level = threshold := by
    change thresholdMv (clamp 0 15 level.toNat) = threshold
    rw [clamp, Nat.zero_max]
    rfl
  obtain ⟨n, o, compared, notices⟩ := monitorCompare_eq w
  refine ⟨setPartTaken v u, by rw [exec_setPart h, settingsAt_of_lt hm, withField_some, setPart, replied_takenWith], ?_⟩
  have taken : setPartTaken v u = (monitorCompare w).retrip := setPartTaken_eq v
  have kept : (monitorCompare w).retrip.settings = clampSettings v := by rw [compared]; rfl
  have chans : (monitorCompare w).retrip.chans = w.chans := by rw [compared]; rfl
  have chan (i : Channel) : (monitorCompare w).retrip.chan i = w.chan i := congrArg (fun x => x.get i) chans
  have scanned : (monitorCompare w).retrip.scanner = w.scanner := by rw [compared]; rfl
  rw [taken]
  refine ⟨?_, State.tripoutLaw_retrip _, ?_, ?_, ?_, fun same => ?_, fun changed => ?_⟩
  · rw [kept]
    simp only [clampSettings, clamp, Nat.zero_max, hv, settingsSent]
  · rw [compared]
    exact groups
  · have part : KeepsPart u { w with settings := s.settings, scanner := s.scanner } := by
      rw [stored, ← settings, ← scanner]
      exact keepsPart_of_records _ _
    refine keepsPart_trans part ?_
    rw [compared] at notices ⊢
    rw [← stops]
    exact ⟨notices, rfl, rfl, rfl, rfl, rfl, rfl, rfl, rfl, rfl, rfl, rfl⟩
  · rw [← stops, ← time, compared]
    dsimp only [State.retrip]
    rw [limit]
    congr 1
  · have unchanged : storeEnable v.enable u = u := storeEnable_of_same (by rw [settings]; exact same.symm)
    have record : w = { u with settings := clampSettings v } := by rw [hw, partStored, unchanged]
    rw [chans, scanned, record]
    exact ⟨hchans, scanner⟩
  · obtain ⟨written, flight, idle⟩ := storeEnable_of_changed (s := u) (new := v.enable) (by rw [settings]; exact changed.symm)
    have record (i : Channel) : w.chan i = enableChan s.settings.enable enable (s.chan i) := by
      have mapped : w.chans = u.chans.mapIdx fun _ c => enableChan u.settings.enable enable c :=
        congrArg State.chans written
      rw [State.chan, mapped, Chans.get_mapIdx, settings]
      rw [← hchan i]; rfl
    rw [scanner] at flight idle
    rw [timebase] at idle
    refine ⟨fun conv hc => scanned.trans (flight conv hc), fun hn => scanned.trans (idle hn), fun i hi => ?_,
      fun i k hi => ⟨fun he => ?_, fun he => ?_⟩⟩
    · rw [chan, record, enableChan_of_unassigned hi]
    · rw [chan, record, enableChan_of_unchanged hi he]
    · rw [chan, record, enableChan_of_changed hi he]

end Sys2Proof.Machine
end

section
/-! PROOFS. What an operation of one group leaves alone: the records of the other groups, the channels outside the group,
what no run touches of its own channels, and the rest of the part. -/

namespace Sys2Proof.Machine

open Sys2Proof.Safety

variable {s t u : State} {g : GroupId} {i : Channel} {n : ConsoleGroup} {d : Dir} {cause : TripCause}

/-- Nothing differs between `s` and `t` but the record and the runs of group `g`, the pending sets and TRIPOUT. -/
structure Within (g : GroupId) (s t : State) : Prop where
  groups : ∀ h, h ≠ g → t.grp h = s.grp h
  outside : ∀ i, (s.chan i).group ≠ some g → t.chan i = s.chan i
  kept : ∀ i, ChanKept (s.chan i) (t.chan i)
  part : KeepsPart s t

theorem Within.updateKeeps (h : Within g s t) : UpdateKeeps g s t :=
  ⟨h.groups, h.outside, fun i => (h.kept i).stored, h.part⟩

theorem Within.rfl' : Within g s s := ⟨fun _ _ => rfl, fun _ _ => rfl, fun _ => .rfl' _, keepsPart_of_records _ _⟩

theorem Within.trans (h : Within g s t) (k : Within g t u) : Within g s u :=
  ⟨fun x hx => (k.groups x hx).trans (h.groups x hx),
   fun i hi => (k.outside i (by rw [(h.kept i).group]; exact hi)).trans (h.outside i hi),
   fun i => (h.kept i).trans (k.kept i), keepsPart_trans h.part k.part⟩

theorem Within.foldl {α : Type} {f : State → α → State} {l : List α} {P : State → Prop} (hP : ∀ s t, Within g s t → P s → P t)
    (h : ∀ s a, P s → a ∈ l → Within g s (f s a)) (hs : P s) : Within g s (l.foldl f s) := by
  induction l generalizing s with
  | nil => exact .rfl'
  | cons a l ih =>
    have first := h s a hs (by simp)
    exact first.trans (ih (fun s a hs ha => h s a hs (by simp [ha])) (hP _ _ first hs))

theorem within_setGrp (r : Group) : Within g s (s.setGrp g r) :=
  ⟨fun h hh => by simp [hh], fun _ _ => rfl, fun _ => .rfl' _, keepsPart_of_records _ _⟩

theorem within_raise (x : Notice) : Within g s (s.raise x) :=
  ⟨fun _ _ => rfl, fun _ _ => rfl, fun _ => .rfl' _, keepsPart_raise _⟩

theorem within_raiseGroup (k : GroupNotice) : Within g s (raiseGroup g k s) := by
  cases g with
  | pendant => exact .rfl'
  | console n => exact within_raise _

theorem within_setChan {c : Chan} (hg : (s.chan i).group = some g) (h : ChanKept (s.chan i) c) : Within g s (s.setChan i c) := by
  refine ⟨fun _ _ => rfl, fun j hj => ?_, fun j => ?_, keepsPart_of_records _ _⟩
  · rw [State.chan_setChan, if_neg fun e : j = i => hj (e ▸ hg)]
  · rw [State.chan_setChan]
    split
    next e => rw [e]; exact h
    next => exact .rfl' _

theorem within_modProf (f : Profile → Profile) : Within g s (s.modProf g f) := within_setGrp _

/-! ### Trips -/

/-- The test of R100 does not take the group out of TRIPPED: it is a console group, or PENB is active. -/
abbrev Calm (g : GroupId) (s : State) : Prop := g = .pendant → s.arb.penb = true

theorem Within.calm (h : Within g s t) (hc : Calm g s) : Calm g t := fun hg => by
  obtain ⟨-, -, -, harb, -⟩ := h.part
  rw [harb]
  exact hc hg

theorem calm_console : Calm (.console n) s := fun h => nomatch h

/-- The entry of a group to TRIPPED that stays there touches that group alone. -/
theorem TripEntered.within {ch : Option Channel} (h : TripEntered g cause ch s t) : Within g s t := by
  refine ⟨h.others, fun i hi => ?_, fun i => ?_, h.part⟩
  · rw [h.chans, if_neg hi]
  · rw [h.chans]
    split
    · exact chanStop_kept _ _ _
    · exact .rfl' _

theorem within_tripGroup (hc : Calm g s) (ch : Option Channel) : Within g s (tripGroup cause ch g s) := by
  have entered := (tripEntered_of_stays (cause := cause) ch fun hg => .inl (hc hg)).within
  unfold tripGroup
  split
  case h_3 => exact within_setGrp _
  case h_1 | h_2 => exact .rfl'
  all_goals exact entered

theorem within_tripGroupOf (hc : Calm g s) (hg : (s.chan i).group = some g) : Within g s (tripGroupOf cause i s) := by
  unfold tripGroupOf
  rw [hg]
  exact within_tripGroup hc _

/-! ### Start requests -/

theorem within_limitRefused (hc : Calm g s) (hg : (s.chan i).group = some g) : Within g s (limitRefused i s) := by
  have refused := (within_setChan hg (chanKept_startPending (s.chan i) none)).trans (within_raise (g := g) (.chan i .limit))
  exact refused.trans (within_tripGroupOf (refused.calm hc) (by rw [(refused.kept i).group]; exact hg))

theorem within_startTry (hc : Calm g s) (hg : (s.chan i).group = some g) : Within g s (startTry i d s) := by
  rcases startTry_cases s i d with ⟨-, e⟩ | ⟨-, e⟩ | ⟨-, e⟩ | ⟨-, -, -, -, e⟩ <;> rw [e]
  · exact within_setChan hg (chanKept_startPending _ _)
  · exact within_limitRefused hc hg
  · exact within_setChan hg (chanKept_startPending _ _)
  · exact within_setChan hg (chanEnterStarting_kept _ _ _)

theorem within_startRequest (hc : Calm g s) (hg : (s.chan i).group = some g) : Within g s (startRequest i d s) := by
  obtain ⟨parked, stopping, other⟩ := startRequest_cases s i d
  cases hs : (s.chan i).state with
  | parked => rw [parked hs]; exact within_startTry hc hg
  | stopping f => rw [stopping ⟨f, hs⟩]; exact within_setChan hg (chanKept_startPending _ _)
  | starting => rw [other (.inl hs)]; exact .rfl'
  | running => rw [other (.inr (.inl hs))]; exact .rfl'
  | faulted => rw [other (.inr (.inr (.inl hs)))]; exact .rfl'
  | off => rw [other (.inr (.inr (.inr hs)))]; exact .rfl'

/-- An operation on members alone, one after another, stays within their group. -/
theorem within_foldl_members {f : State → Channel → State} (h : ∀ s i, Calm g s → (s.chan i).group = some g → Within g s (f s i))
    (hc : Calm g s) : Within g s ((s.members g).foldl f s) :=
  .foldl (P := fun t => Calm g t ∧ ∀ i ∈ s.members g, (t.chan i).group = some g)
    (fun _ _ w ⟨hc, hm⟩ => ⟨w.calm hc, fun i hi => by rw [(w.kept i).group]; exact hm i hi⟩)
    (fun _ i ⟨hc, hm⟩ hi => h _ i hc (hm i hi)) ⟨hc, fun i hi => (s.mem_members g i).mp hi⟩

theorem within_sendStart (hc : Calm g s) (hg : (s.chan i).group = some g) : Within g s (sendStart g s i) := by
  unfold sendStart
  dsimp only
  split
  · exact .rfl'
  · split
    · exact within_startRequest hc hg
    · exact .rfl'

theorem within_enterStarting (hc : Calm g s) : Within g s (enterStarting g s) := by
  rw [enterStarting_eq]
  have written := within_setGrp (s := s) (g := g) (startedRecord s.timebase (s.grp g))
  exact written.trans (within_foldl_members (fun _ _ => within_sendStart) (written.calm hc))

theorem within_startCue (hc : Calm g s) (cue : Cue) : Within g s (startCue g cue s) := by
  have planned := within_setGrp (s := s) (g := g) { s.grp g with moveKind := .cue, prof := planCue g cue s }
  exact planned.trans (within_enterStarting (planned.calm hc))

theorem within_startJog (hc : Calm g s) (f ramp : Nat) : Within g s (startJog g d f ramp s) := by
  have planned := within_setGrp (s := s) (g := g) { s.grp g with moveKind := .jog, prof := planJog g d f ramp s }
  exact planned.trans (within_enterStarting (planned.calm hc))

/-! ### Completion -/

theorem within_completionTold : Within g s (completionTold g s) := by
  have missed : Within g s (missCheck g s) := by
    unfold missCheck
    split
    · exact within_raiseGroup _
    · exact .rfl'
  exact missed.trans (within_raiseGroup _)

theorem within_completeFrom (q : List Cue) (hc : Calm g s) : Within g s (completeFrom g q s) := by
  induction q generalizing s with
  | nil => exact .rfl'
  | cons head rest ih =>
    rw [completeFrom_cons]
    set v := (completionTold g s).setGrp g (completedRecord rest (s.grp g)) with hv
    have told : Within g s v := within_completionTold.trans (within_setGrp _)
    have dropped : Within g s (dropDeadline g v) := told.trans (within_setGrp _)
    dsimp only
    split
    · cases rest with
      | nil => exact dropped
      | cons next more =>
        have started : Within g s (startCue g next v) := told.trans (within_startCue (told.calm hc) next)
        dsimp only
        split
        · exact dropped
        · split
          · exact started.trans (ih (started.calm hc))
          · exact started
    · exact dropped

theorem within_goStart (hc : Calm g s) : Within g s (goStart g s) := by
  unfold goStart
  split
  · exact .rfl'
  next head rest _ =>
    have deadline := within_setGrp (s := s) (g := g) { s.grp g with deadline := startMs s.timebase s.settings.holdWindow }
    have started := deadline.trans (within_startCue (deadline.calm hc) head)
    dsimp only [State.modGrp_eq]
    split
    · exact started.trans (within_completeFrom _ (started.calm hc))
    · exact started

/-! ### Stops -/

theorem within_stopMember (form : StopForm) (hg : (s.chan i).group = some g) : Within g s (stopMember form s i) :=
  within_setChan hg (chanStop_kept _ _ _)

theorem within_stopAtEntry (fixed : Bool) (hg : (s.chan i).group = some g) : Within g s (stopAtEntry fixed s i) := by
  unfold stopAtEntry
  split
  · exact .rfl'
  · exact within_stopMember _ hg

/-- The end of a stop of a console group touches that group alone. -/
theorem within_stopTest_console : Within (.console n) s (stopTest (.console n) s) := by
  rcases stopTest_cases s (.console n) with h | ⟨-, -, ⟨hg, -⟩ | ⟨m, -, -, h⟩ | ⟨m, -, -, h⟩⟩
  · rw [h]; exact .rfl'
  · cases hg
  · rw [h]; exact (within_setGrp _).trans (within_raise _)
  · rw [h]; exact within_setGrp _

/-- The entry of a group to STOPPING, before the test of its end (R115). -/
def stopEntered (g : GroupId) (s : State) : State :=
  (s.members g).foldl (stopAtEntry (s.groupFixed g)) (s.setGrp g (stoppingRecord (s.grp g)))

theorem within_stopEntered : Within g s (stopEntered g s) := by
  have written := within_setGrp (s := s) (g := g) (stoppingRecord (s.grp g))
  refine written.trans (.foldl (P := fun t => ∀ i ∈ s.members g, (t.chan i).group = some g)
    (fun _ _ w hm i hi => ?_) (fun _ i hm hi => within_stopAtEntry _ (hm i hi)) fun i hi => (s.mem_members g i).mp hi)
  rw [(w.kept i).group]
  exact hm i hi

theorem within_controlledStop_console : Within (.console n) s (controlledStop (.console n) s) := by
  cases h : (s.grp (.console n)).state.stoppable with
  | false => rw [controlledStop_of_not_stoppable s _ h]; exact .rfl'
  | true =>
    rw [controlledStop_of_stoppable h]
    exact within_stopEntered.trans within_stopTest_console

/-! ### What a group does where a member has entered RUNNING or PARKED -/

end Sys2Proof.Machine
end

section
/-! PROOFS. A controlled stop of a group (R115): what it makes of each member, the test of its end, and the statement of
STOP. -/

namespace Sys2Proof.Machine

open Sys2Proof.Safety

variable {s t u v : State} {g : GroupId} {i j : Channel} {n : ConsoleGroup} {now : Time} {c : Chan} {form : StopForm}

/-! ### A stop of one channel (R7, R29, R30, R32) -/

/-- What a stop in this form has made of a channel that was STARTING or RUNNING, with the confirmation `confirm`. -/
structure StopBegun (form : StopForm) (confirm : Timer) (b : Chan) : Prop where
  state : b.state = .stopping form ∨ b.state = .parked
  startPending : b.startPending = none
  brk : b.out.brk = false
  confirming : confirm ≠ none → b.state = .stopping form

theorem stopBegun_chanFinishStop {confirm : Timer} (hs : c.state = .stopping form) (hp : c.startPending = none)
    (hb : c.out.brk = false) (hc : c.out.confirmTimer = confirm) : StopBegun form confirm (chanFinishStop now c) := by
  rcases chanFinishStop_cases now c with h | ⟨hconf, h⟩ <;> rw [h]
  · exact ⟨.inl (by simpa), by simpa, by simpa, fun _ => by simpa⟩
  · exact ⟨.inr (by simp [chanPark]), by simpa [chanPark], by simpa [chanPark], fun hne => absurd (hc.symm.trans hconf) hne⟩

theorem stopBegun_stopReleased (form : StopForm) :
    StopBegun form (startConfirm now (leaveRunning now c)) (stopReleased now form c) := by
  unfold stopReleased
  refine stopBegun_chanFinishStop ?_ ?_ ?_ ?_ <;> rfl

theorem stopBegun_stopUnproven (form : StopForm) :
    StopBegun form (if c.cfg.bfbFitted && c.out.bfb then startMs now c.cfg.brakeTime else none) (stopUnproven now form c) := by
  unfold stopUnproven
  refine stopBegun_chanFinishStop ?_ ?_ ?_ ?_ <;> rfl

/-- A stop of a STARTING channel has begun, and is not confirmed at once where its brake shows released (R29, R32). -/
theorem stopBegun_of_starting (hs : c.state = .starting) (form : StopForm) :
    ∃ confirm, StopBegun form confirm (chanStop now form c) ∧ (c.cfg.bfbFitted = true → c.out.bfb = true → confirm ≠ none) := by
  cases hb : c.out.brk with
  | true =>
    have stop : chanStop now form c = stopReleased now form c := by simp [chanStop, hs, hb]
    have running : leaveRunning now c = c := by simp [leaveRunning, hs]
    rw [stop]
    exact ⟨_, stopBegun_stopReleased form, fun hf hr => by simp [running, startConfirm, hf, hr, startMs]⟩
  | false =>
    have stop : chanStop now form c = stopUnproven now form c := by simp [chanStop, hs, hb]
    rw [stop]
    exact ⟨_, stopBegun_stopUnproven form, fun hf hr => by simp [hf, hr, startMs]⟩

theorem stopBegun_of_running (hs : c.state = .running) (form : StopForm) :
    ∃ confirm, StopBegun form confirm (chanStop now form c) ∧ (StopTakesTime c → confirm ≠ none) := by
  have stop : chanStop now form c = stopReleased now form c := by simp [chanStop, hs]
  rw [stop]
  exact ⟨_, stopBegun_stopReleased form, fun h => startConfirm_of_stopTakesTime now h⟩

/-- The record of a member at its group's entry to STOPPING: a RUNNING one of a VARIABLE group is left to the ramp (R115). -/
def stoppedAtEntry (fixed : Bool) (now : Time) (c : Chan) : Chan :=
  if c.state = .running ∧ fixed = false then c else chanStop now .controlled c

/-- The kind of a group whose members are of one kind (R103). -/
theorem groupFixed_of_membersAre {fixed : Bool} (h : MembersAre g fixed s) : s.groupFixed g = fixed := by
  obtain ⟨⟨i, hi⟩, hk⟩ := h
  have member : i ∈ s.members g := (s.mem_members g i).mpr hi
  obtain ⟨j, rest, hl⟩ := List.exists_cons_of_ne_nil (List.ne_nil_of_mem member)
  have first : (s.chan j).group = some g := (s.mem_members g j).mp (hl ▸ List.mem_cons_self)
  cases fixed <;> simp [State.groupFixed, State.groupKind, hl, hk j first]

/-- What the entry to STOPPING makes of a member, and a later evaluation of the pendant of its holder and group. -/
theorem memberStopped_stoppedAtEntry (b : Chan)
    (hb : b = { stoppedAtEntry (s.groupFixed g) now (s.chan j) with holder := b.holder, group := b.group }) :
    MemberStopped g s (s.chan j) b := by
  set a := s.chan j with ha
  obtain ⟨rest, parked⟩ := chanStop_at_rest now a .controlled
  have state : b.state = (stoppedAtEntry (s.groupFixed g) now a).state := by rw [hb]
  have pending : b.startPending = (stoppedAtEntry (s.groupFixed g) now a).startPending := by rw [hb]
  have brake : b.out.brk = (stoppedAtEntry (s.groupFixed g) now a).out.brk := by rw [hb]
  have stops (h : ¬(a.state = .running ∧ s.groupFixed g = false)) :
      stoppedAtEntry (s.groupFixed g) now a = chanStop now .controlled a := if_neg h
  refine ⟨fun h => ?_, fun h => ?_, fun h => ?_, fun h hk => ?_, fun h hk => ?_⟩
  · rw [stops (by rcases h with h | h <;> simp [h]), rest h.symm] at hb
    exact hb
  · have kept : chanStop now .controlled a = { a with startPending := none } := by
      rcases h with h | h | h
      · exact parked h
      · simp [chanStop, h]
      · simp [chanStop, h]
    rw [stops (by rcases h with h | h | h <;> simp [h]), kept] at hb
    exact hb
  · obtain ⟨confirm, begun, released⟩ := stopBegun_of_starting (now := now) h .controlled
    rw [state, pending, brake, stops (by simp [h])]
    exact ⟨begun.state, begun.startPending, begun.brk, fun hf hr => begun.confirming (released hf hr)⟩
  · obtain ⟨confirm, begun, takes⟩ := stopBegun_of_running (now := now) h .controlled
    rw [state, pending, brake, stops (by simp [groupFixed_of_membersAre hk])]
    exact ⟨begun.state, begun.startPending, begun.brk, fun ht => begun.confirming (takes ht)⟩
  · rw [stoppedAtEntry, if_pos ⟨h, groupFixed_of_membersAre hk⟩] at hb
    rw [hb]

/-! ### The entry to STOPPING -/

theorem stopAtEntry_chan (fixed : Bool) (i j : Channel) :
    (stopAtEntry fixed s i).chan j = if j = i then stoppedAtEntry fixed s.timebase (s.chan i) else s.chan j := by
  unfold stopAtEntry stoppedAtEntry stopMember
  split
  · split
    next h => rw [h]
    next => rfl
  · simp

theorem stopAtEntry_timebase (fixed : Bool) : (stopAtEntry fixed s i).timebase = s.timebase := by
  unfold stopAtEntry; split <;> rfl

theorem foldl_stopAtEntry_chan (fixed : Bool) {l : List Channel} (hl : l.Nodup) (j : Channel) :
    (l.foldl (stopAtEntry fixed) s).chan j = if j ∈ l then stoppedAtEntry fixed s.timebase (s.chan j) else s.chan j := by
  induction l generalizing s with
  | nil => simp
  | cons i l ih =>
    obtain ⟨new, rest⟩ := List.nodup_cons.mp hl
    rw [List.foldl_cons, ih rest, stopAtEntry_chan, stopAtEntry_timebase]
    by_cases hj : j = i
    · subst hj; simp [new]
    · simp [hj]

theorem stopEntered_chan (j : Channel) :
    (stopEntered g s).chan j =
      if (s.chan j).group = some g then stoppedAtEntry (s.groupFixed g) s.timebase (s.chan j) else s.chan j := by
  rw [stopEntered, foldl_stopAtEntry_chan _ (State.members_nodup _ _)]
  simp

theorem stopEntered_grp : (stopEntered g s).grp g = stoppingRecord (s.grp g) := by
  rw [stopEntered, foldl_stopAtEntry_grp]
  simp

/-! ### The test of the end of a stop (R115, R122) -/

/-- A stop has ended in a STOPPING group: its record, its notice where it is PAUSED, and, where it is the pendant group, the
evaluation. -/
structure StopEnded (g : GroupId) (v t : State) : Prop where
  record : t.grp g = { v.grp g with
    state := if g ≠ .pendant ∧ (v.grp g).moveKind = .cue then .paused else .idle, updateTimer := none }
  others : ∀ h, h ≠ g → t.grp h = v.grp h
  noticed : ∀ n, g = .console n → (t.grp g).state = .paused → PendingBoth (.group n .paused) t
  chans : ∀ j, t.chan j = { v.chan j with holder := (t.chan j).holder, group := (t.chan j).group }
  part : KeepsPart v t

theorem stopTest_of_waiting (hj : (v.chan j).group = some g) (hp : (v.chan j).state ≠ .parked) : stopTest g v = v := by
  rcases stopTest_cases v g with h | ⟨-, hall, -⟩
  · exact h
  · exact absurd ((v.allParked_iff g).mp hall j hj) hp

theorem stopTest_of_parked (hs : (v.grp g).state = .stopping)
    (hall : ∀ j, (v.chan j).group = some g → (v.chan j).state = .parked) : StopEnded g v (stopTest g v) := by
  have test : (v.grp g).state = .stopping ∧ v.allParked g = true := ⟨hs, (v.allParked_iff g).mpr hall⟩
  cases g with
  | pendant =>
    have idle : stopTest .pendant v = pendantIdle v := by simp only [stopTest]; rw [if_pos test]
    have ends := pendantEnds_pendantIdle (s := v) (r := v.grp .pendant)
    rw [State.setGrp_grp] at ends
    obtain ⟨record, console, -, chans, -, part⟩ := ends
    rw [idle]
    refine ⟨by simpa using record, fun h hh => ?_, fun n hn => (nomatch hn), chans, part⟩
    cases h with
    | pendant => exact absurd rfl hh
    | console n => exact console n
  | console n =>
    cases hm : (v.grp (.console n)).moveKind with
    | cue =>
      have ended : stopTest (.console n) v =
          (v.setGrp (.console n) { v.grp (.console n) with state := .paused, updateTimer := none }).raise
            (.group n .paused) := by
        simp only [stopTest]
        rw [if_pos test]
        split
        next => rfl
        next h => rw [hm] at h; cases h
      rw [ended]
      refine ⟨by simp [hm], fun h hh => by simp [hh], fun m hm _ => ?_, fun _ => rfl,
        keepsPart_trans (keepsPart_of_records _ _) (keepsPart_raise _)⟩
      cases hm
      exact State.pendingBoth_raise _ _
    | jog =>
      have ended : stopTest (.console n) v =
          v.setGrp (.console n) { v.grp (.console n) with state := .idle, updateTimer := none } := by
        simp only [stopTest]
        rw [if_pos test]
        split
        next h => rw [hm] at h; cases h
        next => rfl
      rw [ended]
      exact ⟨by simp [hm], fun h hh => by simp [hh], fun m _ hp => by simp at hp, fun _ => rfl, keepsPart_of_records _ _⟩

/-! ### A controlled stop -/

theorem controlledStop_eq (h : (s.grp g).state.stoppable = true) : controlledStop g s = stopTest g (stopEntered g s) :=
  controlledStop_of_stoppable h

/-- A controlled stop of a group that is STARTING, MOVING or HOLDING leaves what R115 says. -/
theorem stopMade_controlledStop (h : (s.grp g).state.stoppable = true) : StopMade g s (controlledStop g s) := by
  rw [controlledStop_eq h]
  set v := stopEntered g s with hv
  have entered : Within g s v := within_stopEntered
  have record : v.grp g = stoppingRecord (s.grp g) := stopEntered_grp
  have member (j : Channel) (hj : (s.chan j).group = some g) :
      v.chan j = stoppedAtEntry (s.groupFixed g) s.timebase (s.chan j) := by rw [hv, stopEntered_chan, if_pos hj]
  have grouped (j : Channel) : (v.chan j).group = (s.chan j).group := (entered.kept j).group
  by_cases hall : ∀ j, (v.chan j).group = some g → (v.chan j).state = .parked
  · obtain ⟨ended, -, noticed, chans, -⟩ := stopTest_of_parked (by rw [record]; rfl) hall
    have parked (j : Channel) (hj : (s.chan j).group = some g) : ((stopTest g v).chan j).state = .parked := by
      rw [chans]; exact hall j ((grouped j).trans hj)
    refine ⟨fun ⟨j, hj, hp⟩ => absurd (parked j hj) hp, fun _ => ?_, noticed, fun j hj => ?_, ?_⟩
    · rw [ended, record]; exact ⟨rfl, rfl⟩
    · refine memberStopped_stoppedAtEntry (now := s.timebase) _ ?_
      rw [← member j hj]
      exact chans j
    · rw [ended, record]; exact ⟨rfl, rfl, rfl, rfl, rfl, rfl, rfl⟩
  · obtain ⟨k, hk, hkp⟩ : ∃ j, (v.chan j).group = some g ∧ (v.chan j).state ≠ .parked := by simpa using hall
    rw [stopTest_of_waiting hk hkp]
    refine ⟨fun _ => by rw [record]; rfl, fun hall' => absurd (hall' k ((grouped k).symm.trans hk)) hkp, fun n _ hp => ?_,
      fun j hj => ?_, ?_⟩
    · rw [record] at hp; cases hp
    · refine memberStopped_stoppedAtEntry (now := s.timebase) _ ?_
      rw [member j hj]
    · rw [record]; exact ⟨rfl, rfl, rfl, rfl, rfl, rfl, rfl⟩

end Sys2Proof.Machine
end

section
/-! PROOFS. Operations made on several groups, one after another: what the turn of one group finds and leaves, and the
statement of STOP. -/

namespace Sys2Proof.Machine

open Sys2Proof.Safety

variable {s t u v w : State} {g h : GroupId} {i j : Channel} {n : ConsoleGroup} {c : Console} {b : Byte} {set : GroupSet}

/-! ### What an operation on another group leaves of a group -/

/-- Group `g` is in `v` as it is in `s`: its record, its members and their records, and every channel's group and what no run
touches of it. -/
structure SameGroup (g : GroupId) (s v : State) : Prop where
  record : v.grp g = s.grp g
  members : ∀ j, (s.chan j).group = some g → v.chan j = s.chan j
  kept : ∀ j, ChanKept (s.chan j) (v.chan j)
  part : KeepsPart s v

theorem SameGroup.rfl' : SameGroup g s s := ⟨rfl, fun _ _ => rfl, fun _ => .rfl' _, keepsPart_of_records _ _⟩

theorem SameGroup.trans (a : SameGroup g s t) (b : SameGroup g t u) : SameGroup g s u :=
  ⟨b.record.trans a.record, fun j hj => (b.members j (by rw [(a.kept j).group]; exact hj)).trans (a.members j hj),
   fun j => (a.kept j).trans (b.kept j), keepsPart_trans a.part b.part⟩

theorem Within.same (a : Within h s t) (hg : g ≠ h) : SameGroup g s t :=
  ⟨a.groups g hg, fun j hj => a.outside j fun e => hg (Option.some_inj.mp (hj.symm.trans e)), a.kept, a.part⟩

/-- An operation on console groups stays within each. -/
abbrev StaysWithin (f : State → ConsoleGroup → State) : Prop := ∀ s n, Within (.console n) s (f s n)

section Fold

variable {f : State → ConsoleGroup → State} (hf : StaysWithin f)
include hf

/-- A group that is not in the list is as it was. -/
theorem sameGroup_foldl {gs : List ConsoleGroup} (hg : ∀ n ∈ gs, g ≠ .console n) : SameGroup g s (gs.foldl f s) := by
  induction gs generalizing s with
  | nil => exact .rfl'
  | cons n gs ih => exact ((hf s n).same (hg n (by simp))).trans (ih fun m hm => hg m (by simp [hm]))

/-- The turn of a group of the list finds it as it was, and what it leaves stays. -/
theorem turn_foldl {gs : List ConsoleGroup} (hl : gs.Nodup) (hn : n ∈ gs) :
    ∃ v, SameGroup (.console n) s v ∧ SameGroup (.console n) (f v n) (gs.foldl f s) := by
  induction gs generalizing s with
  | nil => cases hn
  | cons m gs ih =>
    obtain ⟨new, rest⟩ := List.nodup_cons.mp hl
    rcases List.mem_cons.mp hn with rfl | later
    · exact ⟨s, .rfl', sameGroup_foldl hf fun k hk e => new (by obtain rfl := GroupId.console.inj e; exact hk)⟩
    · have other : GroupId.console n ≠ .console m := fun e => new (by cases e; exact later)
      obtain ⟨v, before, after⟩ := ih rest later (s := f s m)
      exact ⟨v, ((hf s m).same other).trans before, after⟩

/-- A channel outside every group of the list is as it was. -/
theorem foldl_chan_outside {gs : List ConsoleGroup} (hi : ∀ n ∈ gs, (s.chan i).group ≠ some (.console n)) :
    (gs.foldl f s).chan i = s.chan i := by
  induction gs generalizing s with
  | nil => rfl
  | cons n gs ih =>
    rw [List.foldl_cons, ih fun m hm => by rw [((hf s n).kept i).group]; exact hi m (by simp [hm])]
    exact (hf s n).outside i (hi n (by simp))

theorem foldl_kept (gs : List ConsoleGroup) :
    (∀ i, ChanKept (s.chan i) ((gs.foldl f s).chan i)) ∧ KeepsPart s (gs.foldl f s) := by
  induction gs generalizing s with
  | nil => exact ⟨fun _ => .rfl' _, keepsPart_of_records _ _⟩
  | cons n gs ih =>
    obtain ⟨kept, part⟩ := ih (s := f s n)
    exact ⟨fun i => ((hf s n).kept i).trans (kept i), keepsPart_trans (hf s n).part part⟩

end Fold

/-! ### A controlled stop among others -/

/-- A member's record after its stop, its holder and group changed by an evaluation of the pendant. -/
theorem memberStopped_reheld {a b d : Chan} (hd : d = { b with holder := d.holder, group := d.group })
    (hm : MemberStopped g s a b) : MemberStopped g s a d := by
  obtain ⟨still, parked, starting, fixedRun, variableRun⟩ := hm
  have state : d.state = b.state := by rw [hd]
  have pending : d.startPending = b.startPending := by rw [hd]
  have brake : d.out.brk = b.out.brk := by rw [hd]
  refine ⟨fun h => ?_, fun h => ?_, fun h => ?_, fun h hk => ?_, fun h hk => ?_⟩
  · rw [hd, still h]
  · rw [hd, parked h]
  · rw [state, pending, brake]; exact starting h
  · rw [state, pending, brake]; exact fixedRun h hk
  · rw [hd, variableRun h hk]

/-- A controlled stop made from a state in which the group is as in `s`, whose outcome stays but for holders and groups. -/
theorem stopMade_of_turn (before : SameGroup g s v) (made : StopMade g v w) (record : t.grp g = w.grp g)
    (members : ∀ j, (s.chan j).group = some g → t.chan j = { w.chan j with holder := (t.chan j).holder, group := (t.chan j).group })
    (notices : KeepsNotices w t) : StopMade g s t := by
  obtain ⟨waits, ends, noticed, stopped, fields⟩ := made
  have state (j : Channel) (hj : (s.chan j).group = some g) : (t.chan j).state = (w.chan j).state := by rw [members j hj]
  have grouped (j : Channel) : (v.chan j).group = some g ↔ (s.chan j).group = some g := by rw [(before.kept j).group]
  refine ⟨fun ⟨j, hj, hp⟩ => ?_, fun hall => ?_, fun n hn hp => ?_, fun j hj => ?_, ?_⟩
  · rw [record]; exact waits ⟨j, (grouped j).mpr hj, by rwa [← state j hj]⟩
  · rw [record, ← before.record]
    exact ends fun j hj => by rw [← state j ((grouped j).mp hj)]; exact hall j ((grouped j).mp hj)
  · exact pendingBoth_of_keepsNotices (noticed n hn (record ▸ hp)) notices
  · have same : MembersAre g true v ↔ MembersAre g true s := by
      simp only [MembersAre, grouped, (before.kept _).cfg]
    have same' : MembersAre g false v ↔ MembersAre g false s := by
      simp only [MembersAre, grouped, (before.kept _).cfg]
    refine memberStopped_reheld (members j hj) ?_
    have stop := stopped j ((grouped j).mpr hj)
    rw [before.members j hj] at stop
    obtain ⟨still, parked, starting, fixedRun, variableRun⟩ := stop
    exact ⟨still, parked, starting, fun h hk => fixedRun h (same.mpr hk), fun h hk => variableRun h (same'.mpr hk)⟩
  · rw [record, ← before.record]; exact fields

theorem stopMade_of_same (before : SameGroup g s v) (made : StopMade g v w) (kept : ∀ j, (w.chan j).group = (v.chan j).group)
    (after : SameGroup g w t) : StopMade g s t := by
  refine stopMade_of_turn before made after.record (fun j hj => ?_) after.part.1
  have member : (w.chan j).group = some g := by rw [kept, (before.kept j).group]; exact hj
  rw [after.members j member]

/-! ### STOP (R115, R118) -/

theorem exec_stop_addressed (h : Ready c [b] s) (hb : b.toNat < 16) :
    exec (.stop c .addressed [b]) s = .next (replied c 0x36 (stopGroups (b.setWidth 4) (refreshLink c s))) := by
  have req (u : State) : reqStop [b] u = stopGroups (b.setWidth 4) u := by
    rw [reqStop, withLength_of_eq _ _ (by rfl), groupSetAt_of_lt hb, withField_some]
  rw [← req]
  exact congrArg Host.Outcome.next (addressedFrame_ready s c 0x36 [b] (reqStop [b]) h)

theorem exec_stop_broadcast (h : Ready c [b] s) (hb : b.toNat < 16) :
    exec (.stop c .broadcast [b]) s = .next ((stopGroups (b.setWidth 4) (refreshLink c s)).1.setPort c .hunting) := by
  have req (u : State) : reqStop [b] u = stopGroups (b.setWidth 4) u := by
    rw [reqStop, withLength_of_eq _ _ (by rfl), groupSetAt_of_lt hb, withField_some]
  rw [← req]
  exact congrArg Host.Outcome.next (broadcastFrame_ready s c [b] (reqStop [b]) h)

/-- The controlled stop of one console group of a list. -/
def stopConsole (s : State) (n : ConsoleGroup) : State := controlledStop (.console n) s

theorem stopConsole_within : StaysWithin stopConsole := fun _ _ => within_controlledStop_console

theorem stopMade_foldl {gs : List ConsoleGroup} (hl : gs.Nodup) (hn : n ∈ gs)
    (hs : (s.grp (.console n)).state.stoppable = true) : StopMade (.console n) s (gs.foldl stopConsole s) := by
  obtain ⟨v, before, after⟩ := turn_foldl stopConsole_within hl hn (s := s)
  have made : StopMade (.console n) v (stopConsole v n) := stopMade_controlledStop (by rw [before.record]; exact hs)
  exact stopMade_of_same before made (fun j => ((stopConsole_within v n).kept j).group) after

/-- A controlled stop of a group that is not STARTING, MOVING or HOLDING does nothing, among others too. -/
theorem foldl_stopConsole_of_not_stoppable (gs : List ConsoleGroup) (hs : (s.grp (.console n)).state.stoppable = false) :
    (gs.foldl stopConsole s).grp (.console n) = s.grp (.console n) := by
  induction gs generalizing s with
  | nil => rfl
  | cons m gs ih =>
    have first : (stopConsole s m).grp (.console n) = s.grp (.console n) := by
      by_cases hm : m = n
      · subst hm
        rw [stopConsole, controlledStop_of_not_stoppable s _ hs]
      · exact (stopConsole_within s m).groups _ fun e => hm (by cases e; rfl)
    rw [List.foldl_cons, ih (by rw [first]; exact hs), first]

/-- A channel outside every group that the stops reach is as it was. -/
theorem foldl_stopConsole_chan {gs : List ConsoleGroup}
    (hi : ∀ n ∈ gs, (s.grp (.console n)).state.stoppable = true → (s.chan i).group ≠ some (.console n)) :
    (gs.foldl stopConsole s).chan i = s.chan i := by
  induction gs generalizing s with
  | nil => rfl
  | cons m gs ih =>
    have first : (stopConsole s m).chan i = s.chan i := by
      cases hs : (s.grp (.console m)).state.stoppable with
      | false => rw [stopConsole, controlledStop_of_not_stoppable s _ hs]
      | true => exact (stopConsole_within s m).outside i (hi m (by simp) hs)
    rw [List.foldl_cons, ih fun n hn hs => ?_, first]
    rw [first]
    by_cases hm : n = m
    · subst hm
      rw [stopConsole, controlledStop_not_stoppable] at hs
      cases hs
    · rw [(stopConsole_within s m).groups _ fun e => hm (by cases e; rfl)] at hs
      exact hi n (by simp [hn]) hs

theorem stopGroups_eq : stopGroups set s = takenWith .ok
    (fun _ => [BitVec.ofNat 8 (groupSetOf (renewedGroups set s)).toNat]) ((groupsOf set).foldl stopConsole s) := rfl

/-- Settles O46: each group of the set has its turn, which finds it as it was. -/
theorem stopStopsTheSet : Obligations.StopStopsTheSet := by
  unfold Obligations.StopStopsTheSet
  intro c b s h hb
  set u := refreshLink c s with hu
  have hgrp (k : GroupId) : u.grp k = s.grp k := refreshLink_grp s c k
  have hchan (i : Channel) : u.chan i = s.chan i := refreshLink_chan s c i
  have named (n : ConsoleGroup) : n ∈ groupsOf (b.setWidth 4 : GroupSet) ↔ b.getLsbD n.val = true := by simp
  obtain ⟨kept, part⟩ := foldl_kept stopConsole_within (s := u) (groupsOf (b.setWidth 4))
  refine ⟨(groupsOf (b.setWidth 4)).foldl stopConsole u, BitVec.ofNat 8 (groupSetOf (renewedGroups (b.setWidth 4) u)).toNat,
    ?_, ?_, fun n => ?_, fun g => ⟨fun hg hs => ?_, fun hg => ?_⟩, ?_, fun i hi => ?_, fun j => ?_, part⟩
  · rw [exec_stop_addressed h hb, stopGroups_eq, replied_takenWith]
  · rw [exec_stop_broadcast h hb, stopGroups_eq]
    rfl
  · rw [getLsbD_groupSetOf_byte]
    simp only [mem_renewedGroups_iff, hgrp]
    split
    next h4 => simp [h4]
    next => rfl
  · have made : StopMade (.console g) u _ :=
      stopMade_foldl (nodup_groupsOf _) ((named g).mpr hg) (by rw [hgrp]; exact hs)
    simpa only [StopMade, MemberStopped, MembersAre, hgrp, hchan] using made
  · rcases hg with hg | hs
    · rw [← hgrp]
      exact (sameGroup_foldl stopConsole_within fun n hn e => by
        cases e
        rw [(named g).mp hn] at hg
        cases hg).record
    · rw [foldl_stopConsole_of_not_stoppable _ (by rw [hgrp]; exact hs), hgrp]
  · rw [← hgrp]
    exact (sameGroup_foldl stopConsole_within fun n _ e => by cases e).record
  · rw [← hchan]
    refine foldl_stopConsole_chan fun n hn hs => ?_
    rw [hchan]
    exact hi n ((named n).mp hn) (by rw [← hgrp]; exact hs)
  · rw [← hchan]
    exact (kept j).stored

end Sys2Proof.Machine
end

section
/-! PROOFS. RSTIN_CHANGE, HOLD_DEADLINE_EXPIRY and LINK_TIMER_EXPIRY: the controlled stops that they make (R84, R85, R86, R92,
R155), and the statement. -/

namespace Sys2Proof.Machine

open Sys2Proof.Safety

variable {s t u v w : State} {g h : GroupId} {i j : Channel} {n : ConsoleGroup} {c : Console} {e : Time}

theorem exec_rstinChange (b : Bool) : exec (.rstinChange b) s = .next (rstinTo b s) := rfl

theorem exec_holdDeadlineExpiry : exec (.holdDeadlineExpiry n) s = .next (deadlineExpired n s) := rfl

theorem exec_linkTimerExpiry : exec (.linkTimerExpiry c) s = .next (linkExpired c s) := rfl

theorem keepsStored_trans {a b d : Chan} (h : KeepsStored a b) (k : KeepsStored b d) : KeepsStored a d := by
  obtain ⟨cfg, window, upper, lower, pending, envMin, envMax, load, thermal⟩ := h
  obtain ⟨cfg', window', upper', lower', pending', envMin', envMax', load', thermal'⟩ := k
  exact ⟨cfg'.trans cfg, window'.trans window, upper'.trans upper, lower'.trans lower, pending'.trans pending,
    envMin'.trans envMin, envMax'.trans envMax, load'.trans load, thermal'.trans thermal⟩

/-! ### The remote stop (R155) -/

/-- A controlled stop of any group keeps what is stored of every channel and its position, and the rest of the part. -/
theorem controlledStop_kept (g : GroupId) (s : State) :
    (∀ i, KeepsStored (s.chan i) ((controlledStop g s).chan i) ∧
      ((controlledStop g s).chan i).position = (s.chan i).position) ∧ KeepsPart s (controlledStop g s) ∧
    ∀ h, h ≠ g → (controlledStop g s).grp h = s.grp h := by
  cases hs : (s.grp g).state.stoppable with
  | false =>
    rw [controlledStop_of_not_stoppable s _ hs]
    exact ⟨fun i => ⟨⟨rfl, rfl, rfl, rfl, rfl, rfl, rfl, rfl, rfl⟩, rfl⟩, keepsPart_of_records _ _, fun _ _ => rfl⟩
  | true =>
    rw [controlledStop_eq hs]
    set v := stopEntered g s with hv
    have entered : Within g s v := within_stopEntered
    by_cases hall : ∀ j, (v.chan j).group = some g → (v.chan j).state = .parked
    · obtain ⟨-, others, -, chans, part⟩ := stopTest_of_parked (by rw [hv, stopEntered_grp]; rfl) hall
      refine ⟨fun i => ?_, keepsPart_trans entered.part part, fun k hk => (others k hk).trans (entered.groups k hk)⟩
      obtain ⟨stored, -, position⟩ := (entered.kept i).stored
      rw [chans i]
      exact ⟨stored, position⟩
    · obtain ⟨k, hk, hp⟩ : ∃ j, (v.chan j).group = some g ∧ (v.chan j).state ≠ .parked := by simpa using hall
      rw [stopTest_of_waiting hk hp]
      refine ⟨fun i => ?_, entered.part, entered.groups⟩
      obtain ⟨stored, -, position⟩ := (entered.kept i).stored
      exact ⟨stored, position⟩

/-- No controlled stop touches the stop and trip unit. -/
theorem controlledStop_stops (g : GroupId) (s : State) : (controlledStop g s).stops = s.stops := by
  have members (fixed : Bool) (l : List Channel) (v : State) : (l.foldl (stopAtEntry fixed) v).stops = v.stops := by
    induction l generalizing v with
    | nil => rfl
    | cons i l ih =>
      rw [List.foldl_cons, ih]
      unfold stopAtEntry
      split <;> rfl
  have test (v : State) : (stopTest g v).stops = v.stops := by
    rcases stopTest_cases v g with h | ⟨-, -, ⟨-, h⟩ | ⟨n, -, -, h⟩ | ⟨n, -, -, h⟩⟩ <;> rw [h]
    · rw [pendantIdle, (pendantEval_eq _).1]; rfl
    · rfl
    · rfl
  cases hs : (s.grp g).state.stoppable with
  | false => rw [controlledStop_of_not_stoppable s _ hs]
  | true => rw [controlledStop_eq hs, test, stopEntered, members]; rfl

theorem foldl_stopConsole_stops (gs : List ConsoleGroup) : (gs.foldl stopConsole s).stops = s.stops := by
  induction gs generalizing s with
  | nil => rfl
  | cons n gs ih => rw [List.foldl_cons, ih, stopConsole, controlledStop_stops]

/-- A controlled stop changes nothing of a channel outside the group but its holder and group. -/
theorem controlledStop_chan_outside (hg : (s.chan i).group ≠ some g) : (controlledStop g s).chan i =
    { s.chan i with holder := ((controlledStop g s).chan i).holder, group := ((controlledStop g s).chan i).group } := by
  cases hs : (s.grp g).state.stoppable with
  | false => rw [controlledStop_of_not_stoppable s _ hs]
  | true =>
    rw [controlledStop_eq hs]
    set v := stopEntered g s with hv
    have same : v.chan i = s.chan i := (within_stopEntered (s := s) (g := g)).outside i hg
    by_cases hall : ∀ j, (v.chan j).group = some g → (v.chan j).state = .parked
    · obtain ⟨-, -, -, chans, -⟩ := stopTest_of_parked (by rw [hv, stopEntered_grp]; rfl) hall
      rw [← same]
      exact chans i
    · obtain ⟨k, hk, hp⟩ : ∃ j, (v.chan j).group = some g ∧ (v.chan j).state ≠ .parked := by simpa using hall
      rw [stopTest_of_waiting hk hp, same]

/-- The groups stopped in turn, the pendant group last. -/
theorem foldl_allGroups_controlledStop :
    allGroups.foldl (fun s g => controlledStop g s) s = controlledStop .pendant (consoleGroups.foldl stopConsole s) := rfl

/-- Where every group is stopped each of them has its stop made (R155). -/
theorem stopMade_allGroups (hs : (s.grp g).state.stoppable = true) :
    StopMade g s (allGroups.foldl (fun s g => controlledStop g s) s) := by
  rw [foldl_allGroups_controlledStop]
  set v := consoleGroups.foldl stopConsole s with hv
  obtain ⟨-, part, others⟩ := controlledStop_kept .pendant v
  cases g with
  | pendant =>
    have before : SameGroup .pendant s v := sameGroup_foldl stopConsole_within fun n _ e => by cases e
    refine stopMade_of_turn before (stopMade_controlledStop (by rw [before.record]; exact hs)) rfl (fun _ _ => rfl)
      keepsNotices_rfl
  | console n =>
    have made : StopMade (.console n) s v := stopMade_foldl (by decide) (by simp) hs
    obtain ⟨kept, -⟩ := foldl_kept stopConsole_within (s := s) consoleGroups
    refine stopMade_of_turn .rfl' made (others _ (by simp)) (fun j hj => ?_) part.1
    refine controlledStop_chan_outside ?_
    rw [(kept j).group, hj]
    simp

theorem allGroups_not_stoppable (g : GroupId) :
    ((allGroups.foldl (fun s g => controlledStop g s) s).grp g).state.stoppable = false := by
  rw [foldl_allGroups_controlledStop]
  set v := consoleGroups.foldl stopConsole s with hv
  obtain ⟨-, -, others⟩ := controlledStop_kept .pendant v
  cases g with
  | pendant => exact controlledStop_not_stoppable _ _
  | console n =>
    rw [others _ (by simp)]
    cases hs : (s.grp (.console n)).state.stoppable with
    | false => rw [hv, foldl_stopConsole_of_not_stoppable _ hs]; exact hs
    | true =>
      obtain ⟨x, -, after⟩ := turn_foldl stopConsole_within (s := s) (n := n) (gs := consoleGroups) (by decide) (by simp)
      rw [after.record]
      exact controlledStop_not_stoppable _ _

theorem allGroups_of_not_stoppable (hs : (s.grp g).state.stoppable = false) :
    (allGroups.foldl (fun s g => controlledStop g s) s).grp g = s.grp g := by
  rw [foldl_allGroups_controlledStop]
  set v := consoleGroups.foldl stopConsole s with hv
  obtain ⟨-, -, others⟩ := controlledStop_kept .pendant v
  cases g with
  | pendant =>
    have before : SameGroup .pendant s v := sameGroup_foldl stopConsole_within fun n _ e => by cases e
    rw [controlledStop_of_not_stoppable _ _ (by rw [before.record]; exact hs), before.record]
  | console n => rw [others _ (by simp), hv, foldl_stopConsole_of_not_stoppable _ hs]

theorem rstinTo_asserted (h : s.stops.rstin = false) : rstinTo true s =
    allGroups.foldl (fun s g => controlledStop g s) { s with stops := { s.stops with rstin := true } } := by
  simp [rstinTo, h]

theorem rstinTo_cleared (h : s.stops.rstin = true) : rstinTo false s = { s with stops := { s.stops with rstin := false } } := by
  simp [rstinTo, h]

/-! ### The hold deadline (R92) -/

theorem deadlineExpired_of_due (he : (s.grp (.console n)).deadline = some e) (hd : Due s.timebase e) :
    deadlineExpired n s = dropDeadline (.console n) (controlledStop (.console n) s) := by
  rw [deadlineExpired, he, if_pos (timerDue_iff_due.mpr hd)]

theorem deadlineExpired_of_not_due (he : (s.grp (.console n)).deadline = some e) (hd : ¬Due s.timebase e) :
    deadlineExpired n s = s := by
  rw [deadlineExpired, he, if_neg (mt timerDue_iff_due.mp hd)]

theorem within_dropDeadline : Within g s (dropDeadline g s) := within_setGrp _

theorem dropDeadline_grp : (dropDeadline g s).grp g = { s.grp g with deadline := none } := by simp [dropDeadline]

/-! ### The loss of a link (R84, R85, R86) -/

theorem stopOwned_within (c : Console) : StaysWithin (stopOwned c) := fun s n => by
  unfold stopOwned
  split
  · exact within_controlledStop_console
  · exact .rfl'

theorem linkExpired_of_due (he : (s.link c).timer = some e) (hd : Due s.timebase e) :
    linkExpired c s = consoleGroups.foldl (stopOwned c) ((s.setLink c { state := .lost, timer := none }).raiseLink c) := by
  rw [linkExpired, he, if_pos (timerDue_iff_due.mpr hd)]

theorem linkExpired_of_not_due (he : (s.link c).timer = some e) (hd : ¬Due s.timebase e) : linkExpired c s = s := by
  rw [linkExpired, he, if_neg (mt timerDue_iff_due.mp hd)]

theorem stopOwned_of_owned (ho : OwnedBy c s n) : stopOwned c s n = controlledStop (.console n) s := if_pos ho

theorem foldl_stopOwned_of_kept {gs : List ConsoleGroup}
    (hn : ¬OwnedBy c s n ∨ (s.grp (.console n)).state.stoppable = false) :
    (gs.foldl (stopOwned c) s).grp (.console n) = s.grp (.console n) := by
  induction gs generalizing s with
  | nil => rfl
  | cons m gs ih =>
    have first : (stopOwned c s m).grp (.console n) = s.grp (.console n) := by
      by_cases hm : m = n
      · subst hm
        rcases hn with hn | hn
        · exact congrArg (fun t => State.grp t _) (if_neg hn)
        · unfold stopOwned
          split
          · rw [controlledStop_of_not_stoppable s _ hn]
          · rfl
      · exact (stopOwned_within c s m).groups _ fun e => hm (by cases e; rfl)
    rw [List.foldl_cons, ih (by rw [OwnedBy, first]; exact hn), first]

/-- Each group that the lost console owns has its turn (R86). -/
theorem stopMade_foldl_stopOwned (ho : OwnedBy c s n) :
    (((consoleGroups.foldl (stopOwned c) s).grp (.console n)).state.stoppable = false) ∧
      ((s.grp (.console n)).state.stoppable = true → StopMade (.console n) s (consoleGroups.foldl (stopOwned c) s)) := by
  obtain ⟨v, before, after⟩ := turn_foldl (stopOwned_within c) (s := s) (n := n) (gs := consoleGroups) (by decide) (by simp)
  have turn : stopOwned c v n = controlledStop (.console n) v := stopOwned_of_owned (by rw [OwnedBy, before.record]; exact ho)
  rw [turn] at after
  refine ⟨by rw [after.record]; exact controlledStop_not_stoppable _ _, fun hs => ?_⟩
  exact stopMade_of_same before (stopMade_controlledStop (by rw [before.record]; exact hs))
    (fun j => ((within_controlledStop_console (s := v) (n := n)).kept j).group) after

/-- The link lost, and the other console told. -/
def linkLost (c : Console) (s : State) : State := (s.setLink c { state := .lost, timer := none }).raiseLink c

theorem keepsNotices_raiseLink : KeepsNotices s (s.raiseLink c) := by
  have pending (b : NoticeBox) : b.pending &&& ~~~(boxRaise .link b).pending = 0 := by
    simp only [boxRaise_pending]; ext k hk; simp; intro h; simp [h]
  have same (x : NoticeSet) : x &&& ~~~x = 0 := by ext k hk; simp
  cases c
  · exact ⟨rfl, rfl, same _, pending s.notices.cb⟩
  · exact ⟨rfl, rfl, pending s.notices.ca, same _⟩

theorem keepsPart_linkLost : KeepsPart s { linkLost c s with arb := s.arb } :=
  ⟨keepsNotices_raiseLink (s := s.setLink c { state := .lost, timer := none }), rfl, rfl, rfl, rfl, rfl, rfl, rfl, rfl, rfl,
    rfl, rfl⟩

/-- A kind pending at one console stays pending there. -/
theorem pendingAt_of_keepsNotices {k : Notice} (hp : (s.box c).pending.getLsbD (noticeNumber k) = true)
    (h : KeepsNotices s t) : (t.box c).pending.getLsbD (noticeNumber k) = true := by
  simp only [KeepsNotices, and_not_eq_zero_iff] at h
  obtain ⟨-, -, pa, pb⟩ := h
  cases c
  · exact pa _ hp
  · exact pb _ hp

/-! ### The statement -/

/-- Settles O17: each of the three makes controlled stops of the groups that it concerns. -/
theorem controlledStopsAreMade : Obligations.ControlledStopsAreMade := by
  unfold Obligations.ControlledStopsAreMade
  intro g c s
  refine ⟨fun hr => ?remote, fun hr => ?_, fun e he hd => ?deadline, fun e he hd => ?_, fun e he hd => ?link,
    fun e he hd => ?_⟩
  case remote =>
    set u : State := { s with stops := { s.stops with rstin := true } } with hu
    obtain ⟨records, part⟩ := foldl_kept stopConsole_within (s := u) consoleGroups
    obtain ⟨stored, last, -⟩ := controlledStop_kept .pendant (consoleGroups.foldl stopConsole u)
    refine ⟨_, by rw [exec_rstinChange, rstinTo_asserted hr], ?_, fun h => ⟨allGroups_not_stoppable h, fun hs =>
      stopMade_allGroups (s := u) hs, fun hs _ => ?_⟩, fun i => ?_, ?_⟩
    · rw [foldl_allGroups_controlledStop, controlledStop_stops, foldl_stopConsole_stops]
    · have same : _ = u.grp h := allGroups_of_not_stoppable (s := u) hs
      rw [same]
      rfl
    · obtain ⟨before, -, position⟩ := (records i).stored
      obtain ⟨after, last⟩ := stored i
      exact ⟨keepsStored_trans before after, last.trans position⟩
    · have whole : KeepsPart u _ := keepsPart_trans part last
      rw [← foldl_allGroups_controlledStop] at whole
      obtain ⟨notices, supply, scanner, arb, -, settings, ports, station, timebase, flash, free, pending⟩ := whole
      exact ⟨notices, supply, scanner, arb, rfl, settings, ports, station, timebase, flash, free, pending⟩
  · rw [exec_rstinChange, rstinTo_cleared hr]
  case deadline =>
    have stopped : Within (.console g) s (controlledStop (.console g) s) := within_controlledStop_console
    obtain ⟨groups, outside, records, part⟩ := (stopped.trans (within_dropDeadline (g := .console g))).updateKeeps
    refine ⟨_, by rw [exec_holdDeadlineExpiry, deadlineExpired_of_due he hd], by rw [dropDeadline_grp], ?_, ?_, fun hs => ?_,
      fun hs => ?_, groups, outside, records, part⟩
    · rw [dropDeadline_grp]; exact controlledStop_not_stoppable _ _
    · rw [dropDeadline_grp]
      cases hs : (s.grp (.console g)).state.stoppable with
      | false => rw [controlledStop_of_not_stoppable s _ hs]
      | true =>
        obtain ⟨-, -, -, -, -, queue, -⟩ := stopMade_controlledStop hs
        exact queue
    · have made := stopMade_controlledStop hs
      obtain ⟨-, -, -, -, -, -, -, deadline, -⟩ := id made
      refine stopMade_of_turn .rfl' made ?_ (fun _ _ => rfl) keepsNotices_rfl
      rw [dropDeadline_grp, ← deadline]
    · rw [dropDeadline_grp, controlledStop_of_not_stoppable s _ hs]
  · rw [exec_holdDeadlineExpiry, deadlineExpired_of_not_due he hd]
  case link =>
    set u := linkLost c s with hu
    set t := consoleGroups.foldl (stopOwned c) u with ht
    obtain ⟨records, part⟩ := foldl_kept (stopOwned_within c) (s := u) consoleGroups
    have links (d : Console) : t.link d = u.link d := by
      obtain ⟨-, -, -, arb, -⟩ := part
      rw [State.link, arb]
      rfl
    have told : (u.box c.other).pending.getLsbD (noticeNumber .link) = true := by
      rw [hu, linkLost, State.box_raiseLink, if_pos rfl, boxRaise_pending]
      simp [noticeBit, noticeNumber]
    refine ⟨t, by rw [exec_linkTimerExpiry, linkExpired_of_due he hd]; rfl, ?_, ?_, pendingAt_of_keepsNotices told part.1,
      fun h ho => (stopMade_foldl_stopOwned (s := u) ho).1, fun h ho hs => (stopMade_foldl_stopOwned (s := u) ho).2 hs,
      fun h hh => foldl_stopOwned_of_kept (s := u) hh,
      (sameGroup_foldl (stopOwned_within c) (s := u) fun n _ e => by cases e).record, fun j => (records j).stored, ?_⟩
    · rw [links]; simp [hu, linkLost]
    · rw [links]; simp [hu, linkLost]
    · refine keepsPart_trans (keepsPart_linkLost (c := c)) ?_
      obtain ⟨notices, supply, scanner, -, stops, settings, ports, station, timebase, flash, free, pending⟩ := part
      exact ⟨notices, supply, scanner, rfl, stops, settings, ports, station, timebase, flash, free, pending⟩
  · rw [exec_linkTimerExpiry, linkExpired_of_not_due he hd]

end Sys2Proof.Machine
end

section
/-! PROOFS. A channel on which one stop after another has been made: what it was decides what it is. -/

namespace Sys2Proof.Machine

open Sys2Proof.Safety

variable {a b c : Chan} {now : Time} {form : StopForm}

/-- A channel that was `a` has taken stop requests, of either form, and is `b`: where it was moving its brake is off and its
direction line is held by a controlled stop alone, and a stop that takes time is not confirmed yet. -/
structure Halted (a b : Chan) : Prop where
  rest : a.state = .faulted ∨ a.state = .off → b = { a with holder := b.holder, group := b.group }
  parked : a.state = .parked → b = { a with startPending := b.startPending, holder := b.holder, group := b.group }
  motion : a.state.inMotion = true → b.state = .parked ∨ ∃ f, b.state = .stopping f
  brk : a.state = .starting ∨ a.state = .running → b.out.brk = false
  lines : a.state = .starting ∨ a.state = .running ∨ a.state = .stopping .controlled →
    b.state = .stopping .controlled ∨ b.out.raise = false ∧ b.out.lower = false
  confirming : StopTakesTime a → (∃ f, b.state = .stopping f) ∧ b.out.confirmTimer ≠ none

theorem chanFinishStop_items {f : StopForm} (hs : c.state = .stopping f) :
    ((chanFinishStop now c).state = .parked ∨ (chanFinishStop now c).state = .stopping f) ∧
      (chanFinishStop now c).out.brk = c.out.brk ∧ (chanFinishStop now c).out.raise = c.out.raise ∧
      (chanFinishStop now c).out.lower = c.out.lower ∧
      ((chanFinishStop now c).state = .parked → c.out.raise = false ∧ c.out.lower = false) ∧
      (c.out.confirmTimer ≠ none →
        (chanFinishStop now c).state = .stopping f ∧ (chanFinishStop now c).out.confirmTimer ≠ none) := by
  obtain ⟨w, hw⟩ := watchStuck_eq now c
  obtain ⟨v, hv⟩ := watchStuck_eq now (chanPark now c)
  rcases chanFinishStop_eq now c with e | ⟨-, hc, hr, hl, e⟩
  · rw [e, hw]
    exact ⟨.inr hs, rfl, rfl, rfl, fun hp => absurd (hp.symm.trans hs) (by simp), fun h => ⟨hs, h⟩⟩
  · rw [e, hv]
    exact ⟨.inl rfl, rfl, rfl, rfl, fun _ => ⟨hr, hl⟩, fun h => absurd hc h⟩

/-- A stop of a channel that is STARTING or RUNNING. -/
theorem halted_of_begun {p : Chan} (hm : a.state = .starting ∨ a.state = .running) (hs : p.state = .stopping form)
    (hb : p.out.brk = false) (hl : form = .quick → p.out.raise = false ∧ p.out.lower = false)
    (hc : StopTakesTime a → p.out.confirmTimer ≠ none) : Halted a (chanFinishStop now p) := by
  obtain ⟨state, brk, raise, lower, parked, confirming⟩ := chanFinishStop_items (now := now) hs
  refine ⟨fun h => ?_, fun h => ?_, fun _ => ?_, fun _ => brk.trans hb, fun _ => ?_, fun h => ?_⟩
  · rcases hm with hm | hm <;> simp [hm] at h
  · rcases hm with hm | hm <;> simp [hm] at h
  · exact state.imp_right fun e => ⟨form, e⟩
  · rw [raise, lower]
    cases form with
    | quick => exact .inr (hl rfl)
    | controlled => exact state.symm.imp_right parked
  · obtain ⟨stopping, running⟩ := confirming (hc h)
    exact ⟨⟨form, stopping⟩, running⟩

/-- A stop of a channel whose brake is released (R30, R31). -/
theorem halted_stopReleased (hm : a.state = .starting ∨ a.state = .running) : Halted a (stopReleased now form a) := by
  unfold stopReleased
  refine halted_of_begun (form := form) hm ?_ ?_ (fun h => ?_) fun h => ?_
  · rfl
  · rfl
  · simp [h]
  · exact startConfirm_of_stopTakesTime now h

/-- A stop of a channel that is down changes its start pending, and makes a controlled stop quick. -/
theorem chanStop_of_down (h : c.state = .parked ∨ ∃ f, c.state = .stopping f) :
    chanStop now form c = { c with startPending := none } ∨
      (c.state = .stopping .controlled ∧ form = .quick ∧ chanStop now form c = stopMadeQuick now c) := by
  rcases h with h | ⟨_ | _, h⟩ <;> cases form <;> simp [chanStop, h]

theorem stopMadeQuick_items :
    ((stopMadeQuick now c).state = .parked ∨ (stopMadeQuick now c).state = .stopping .quick) ∧
      (stopMadeQuick now c).out.brk = c.out.brk ∧ (stopMadeQuick now c).out.raise = false ∧
      (stopMadeQuick now c).out.lower = false ∧
      (c.out.confirmTimer ≠ none →
        (stopMadeQuick now c).state = .stopping .quick ∧ (stopMadeQuick now c).out.confirmTimer ≠ none) := by
  unfold stopMadeQuick
  obtain ⟨state, brk, raise, lower, -, confirming⟩ := chanFinishStop_items (now := now)
    (c := { c with
      state := .stopping .quick, startPending := none
      out := { c.out with raise := false, lower := false, stopHoldTimer := none } }) rfl
  exact ⟨state, brk, raise, lower, confirming⟩

theorem inMotion_iff (s : ChanState) : s.inMotion = true ↔ s = .starting ∨ s = .running ∨ ∃ f, s = .stopping f := by
  cases s <;> simp [ChanState.inMotion]

/-- A channel in motion that is down and has taken a stop is down. -/
theorem Halted.stop (h : Halted a b) : Halted a (chanStop now form b) := by
  by_cases hm : a.state.inMotion = true
  · rcases chanStop_of_down (now := now) (form := form) (h.motion hm) with e | ⟨hb, -, e⟩ <;> rw [e]
    · refine ⟨fun hr => ?_, fun hp => ?_, h.motion, h.brk, h.lines, h.confirming⟩
      · rcases hr with hr | hr <;> simp [hr, ChanState.inMotion] at hm
      · simp [hp, ChanState.inMotion] at hm
    · obtain ⟨state, brk, raise, lower, confirming⟩ := stopMadeQuick_items (now := now) (c := b)
      refine ⟨fun hr => ?_, fun hp => ?_, fun _ => state.imp_right fun e => ⟨_, e⟩, fun hs => brk.trans (h.brk hs),
        fun _ => .inr ⟨raise, lower⟩, fun ht => ?_⟩
      · rcases hr with hr | hr <;> simp [hr, ChanState.inMotion] at hm
      · simp [hp, ChanState.inMotion] at hm
      · obtain ⟨stopping, running⟩ := confirming (h.confirming ht).2
        exact ⟨⟨_, stopping⟩, running⟩
  · have same : chanStop now form b = { b with startPending := if a.state = .parked then none else b.startPending } := by
      obtain ⟨rest, parked⟩ := chanStop_at_rest now b form
      cases hs : a.state with
      | parked => rw [parked (by rw [h.parked hs]; exact hs), if_pos rfl]
      | off => rw [rest (.inl (by rw [h.rest (.inr hs)]; exact hs)), if_neg (by simp)]
      | faulted => rw [rest (.inr (by rw [h.rest (.inl hs)]; exact hs)), if_neg (by simp)]
      | starting => simp [hs, ChanState.inMotion] at hm
      | running => simp [hs, ChanState.inMotion] at hm
      | stopping f => simp [hs, ChanState.inMotion] at hm
    rw [same]
    refine ⟨fun hr => ?_, fun hp => by rw [h.parked hp], fun hm' => absurd hm' hm, h.brk, h.lines, h.confirming⟩
    have np : a.state ≠ .parked := by rcases hr with hr | hr <;> simp [hr]
    rw [if_neg np]
    exact h.rest hr

theorem halted_chanStop : Halted a (chanStop now form a) := by
  obtain ⟨rest, parked⟩ := chanStop_at_rest now a form
  have still (hm : a.state ≠ .starting) (hn : a.state ≠ .running) (hm' : ∀ f, a.state ≠ .stopping f) :
      a.state.inMotion = false := by cases hs : a.state <;> simp_all [ChanState.inMotion]
  cases hs : a.state with
  | off =>
    rw [rest (.inl hs)]
    exact ⟨fun _ => rfl, fun _ => rfl, by simp [hs, ChanState.inMotion], by simp [hs], by simp [hs], by simp [StopTakesTime, hs]⟩
  | faulted =>
    rw [rest (.inr hs)]
    exact ⟨fun _ => rfl, fun _ => rfl, by simp [hs, ChanState.inMotion], by simp [hs], by simp [hs], by simp [StopTakesTime, hs]⟩
  | parked =>
    rw [parked hs]
    exact ⟨by simp [hs], fun _ => rfl, by simp [hs, ChanState.inMotion], by simp [hs], by simp [hs], by simp [StopTakesTime, hs]⟩
  | starting =>
    have never (h : StopTakesTime a) : False := by simp [StopTakesTime, hs] at h
    unfold chanStop
    simp only [hs]
    split
    · exact halted_stopReleased (.inl hs)
    · unfold stopUnproven
      refine halted_of_begun (form := form) (.inl hs) ?_ ?_ ?_ fun h => (never h).elim <;> simp
  | running =>
    unfold chanStop
    simp only [hs]
    exact halted_stopReleased (.inr hs)
  | stopping f =>
    have down : Halted a a :=
      ⟨by simp [hs], by simp [hs], fun _ => .inr ⟨f, hs⟩, by simp [hs], fun h => .inl (by simpa [hs] using h),
        by simp [StopTakesTime, hs]⟩
    exact down.stop

/-- A QUICK stop of a channel that is down. -/
theorem chanStop_quick_of_down (h : c.state = .parked ∨ ∃ f, c.state = .stopping f) :
    ((chanStop now .quick c).state = .stopping .quick ∨ (chanStop now .quick c).state = .parked) ∧
      (chanStop now .quick c).startPending = none := by
  rcases h with h | ⟨_ | _, h⟩
  · simp [chanStop, h]
  · have made : chanStop now .quick c = stopMadeQuick now c := by simp [chanStop, h]
    obtain ⟨_, hq⟩ := stopMadeQuick_quick now c
    rw [made]
    exact ⟨hq.state, hq.startPending⟩
  · simp [chanStop, h]

/-- A QUICK stop after others leaves the channel as step 2 of R119 says. -/
theorem Halted.quickStopped (h : Halted a b) : QuickStopped a (chanStop now .quick b) := by
  have after : Halted a (chanStop now .quick b) := h.stop
  have quick (hm : a.state.inMotion = true) := chanStop_quick_of_down (now := now) (h.motion hm)
  have off (hm : a.state.inMotion = true) : ¬(chanStop now .quick b).state = .stopping .controlled := by
    rcases (quick hm).1 with e | e <;> simp [e]
  refine ⟨after.rest, fun hp => ?_, quick, fun hm => ?_, fun hm => ?_, fun ht => ?_⟩
  · rw [(chanStop_at_rest now b .quick).2 (by rw [h.parked hp]; exact hp), h.parked hp]
  · have hm' : a.state.inMotion = true := (inMotion_iff _).mpr (hm.imp_right .inl)
    obtain ⟨raise, lower⟩ := (after.lines (hm.imp_right .inl)).resolve_left (off hm')
    exact ⟨raise, lower, after.brk hm⟩
  · exact (after.lines (.inr (.inr hm))).resolve_left (off (by simp [hm, ChanState.inMotion]))
  · obtain ⟨⟨f, hf⟩, -⟩ := after.confirming ht
    rcases (quick (by simp [ht.1, ChanState.inMotion])).1 with e | e
    · exact e
    · simp [hf] at e

end Sys2Proof.Machine
end

section
/-! PROOFS. Steps of a group update that act on its members one after another (R125): what the turn of one member finds and
leaves, and what steps 2 and 3 make. -/

namespace Sys2Proof.Machine

open Sys2Proof.Safety

variable {s t u v : State} {g : GroupId} {i j : Channel} {fixed : Bool} {c : Chan} {now : Time} {e : Time}

/-! ### Operations on members alone -/

/-- Nothing differs between `s` and `t` but the records of the members of group `g` and their items in its profile record. -/
structure MembersOnly (g : GroupId) (s t : State) : Prop where
  rest : t = { s with chans := t.chans, groups := t.groups }
  groups : ∀ h, h ≠ g → t.grp h = s.grp h
  record : t.grp g = { s.grp g with prof := { (s.grp g).prof with members := (t.grp g).prof.members } }
  outside : ∀ i, (s.chan i).group ≠ some g → t.chan i = s.chan i
  kept : ∀ i, ChanKept (s.chan i) (t.chan i)

/-- Channel `i` and its items as a member of group `g` are in `t` as in `s`. -/
abbrev SameAt (g : GroupId) (i : Channel) (s t : State) : Prop := t.chan i = s.chan i ∧ t.member g i = s.member g i

/-- An operation on group `g` has touched the one member `i`. -/
structure AtMember (g : GroupId) (i : Channel) (s t : State) : Prop where
  only : MembersOnly g s t
  others : ∀ j, j ≠ i → SameAt g j s t

theorem MembersOnly.rfl' : MembersOnly g s s := ⟨rfl, fun _ _ => rfl, rfl, fun _ _ => rfl, fun _ => .rfl' _⟩

theorem MembersOnly.trans (h : MembersOnly g s t) (k : MembersOnly g t u) : MembersOnly g s u := by
  refine ⟨?_, fun x hx => (k.groups x hx).trans (h.groups x hx), ?_, fun i hi => ?_, fun i => (h.kept i).trans (k.kept i)⟩
  · rw [k.rest, h.rest]
  · rw [k.record, h.record]
  · exact (k.outside i (by rw [(h.kept i).group]; exact hi)).trans (h.outside i hi)

theorem MembersOnly.within (h : MembersOnly g s t) : Within g s t :=
  ⟨h.groups, h.outside, h.kept, by rw [h.rest]; exact keepsPart_of_records _ _⟩

theorem MembersOnly.isMember (h : MembersOnly g s t) (k : GroupId) (i : Channel) : t.isMember k i = s.isMember k i := by
  simp only [State.isMember, (h.kept i).group]

theorem MembersOnly.members (h : MembersOnly g s t) (k : GroupId) : t.members k = s.members k := by
  unfold State.members
  rw [funext (h.isMember k)]

theorem MembersOnly.groupFixed (h : MembersOnly g s t) (k : GroupId) : t.groupFixed k = s.groupFixed k := by
  unfold State.groupFixed State.groupKind
  rw [h.members]
  cases (s.members k).head? <;> simp [(h.kept _).cfg]

theorem MembersOnly.timebase (h : MembersOnly g s t) : t.timebase = s.timebase := by rw [h.rest]

theorem AtMember.rfl' : AtMember g i s s := ⟨.rfl', fun _ _ => ⟨rfl, rfl⟩⟩

theorem AtMember.trans (h : AtMember g i s t) (k : AtMember g i t u) : AtMember g i s u :=
  ⟨h.only.trans k.only, fun j hj => ⟨(k.others j hj).1.trans (h.others j hj).1, (k.others j hj).2.trans (h.others j hj).2⟩⟩

theorem modMember_member (f : Member → Member) :
    (s.modMember g i f).member g j = if j = i then f (s.member g i) else s.member g j := by
  simp [State.modMember, State.member]

theorem atMember_modMember (f : Member → Member) : AtMember g i s (s.modMember g i f) := by
  refine ⟨⟨rfl, fun h hh => ?_, ?_, fun _ _ => rfl, fun _ => .rfl' _⟩, fun j hj => ⟨rfl, ?_⟩⟩
  · simp [State.modMember, hh]
  · simp [State.modMember]
  · rw [modMember_member, if_neg hj]

theorem atMember_setChan (hi : (s.chan i).group = some g) (hc : ChanKept (s.chan i) c) : AtMember g i s (s.setChan i c) := by
  obtain ⟨groups, outside, kept, -⟩ := within_setChan hi hc
  refine ⟨⟨rfl, groups, rfl, outside, kept⟩, fun j hj => ⟨?_, rfl⟩⟩
  rw [State.chan_setChan, if_neg hj]

theorem sameAt_trans (h : SameAt g i s t) (k : SameAt g i t u) : SameAt g i s u := ⟨k.1.trans h.1, k.2.trans h.2⟩

/-- An operation on one member after another: each has its turn, which finds it as it was, and what the turn leaves stays. -/
theorem turn_members {f : State → Channel → State} {P : State → Prop}
    (hf : ∀ s i, P s → (s.chan i).group = some g → AtMember g i s (f s i) ∧ P (f s i)) {l : List Channel} (hl : l.Nodup)
    (hm : ∀ i ∈ l, (s.chan i).group = some g) (hs : P s) :
    MembersOnly g s (l.foldl f s) ∧ (∀ i, i ∉ l → SameAt g i s (l.foldl f s)) ∧
      ∀ i ∈ l, ∃ v, MembersOnly g s v ∧ P v ∧ SameAt g i s v ∧ SameAt g i (f v i) (l.foldl f s) := by
  induction l generalizing s with
  | nil => exact ⟨.rfl', fun _ _ => ⟨rfl, rfl⟩, fun _ h => nomatch h⟩
  | cons k l ih =>
    obtain ⟨new, nodup⟩ := List.nodup_cons.mp hl
    obtain ⟨first, next⟩ := hf s k hs (hm k (by simp))
    obtain ⟨only, same, turns⟩ := ih nodup (s := f s k)
      (fun i hi => by rw [(first.only.kept i).group]; exact hm i (by simp [hi])) next
    refine ⟨first.only.trans only, fun i hi => ?_, fun i hi => ?_⟩
    · obtain ⟨ne, out⟩ : i ≠ k ∧ i ∉ l := by simpa using hi
      exact sameAt_trans (first.others i ne) (same i out)
    · by_cases hk : i = k
      · subst hk
        exact ⟨s, .rfl', hs, ⟨rfl, rfl⟩, same i new⟩
      · obtain ⟨v, before, hv, at_, after⟩ := turns i (by simpa [hk] using hi)
        exact ⟨v, first.only.trans before, hv, sameAt_trans (first.others i hk) at_, after⟩

/-! ### Steps 2 and 3 -/

/-- The record of a member that arrives: a FIXED one that is not RUNNING gets no stop (log entry 28). -/
def arrivedChan (fixed : Bool) (now : Time) (c : Chan) : Chan :=
  if fixed = true ∧ c.state ≠ .running then c else chanStop now .controlled c

theorem arrivedChan_kept : ChanKept c (arrivedChan fixed now c) := by
  unfold arrivedChan
  split
  · exact .rfl' _
  · exact chanStop_kept _ _ _

/-- The items of a member that arrives. -/
def arrivedMember (m : Member) : Member := { m with arrived := true, trimPaused := false }

/-- Member `i` arrives at step 3, with the errors of step 2 formed (R133, R134). -/
def reachesTarget (g : GroupId) (fixed : Bool) (s : State) (i : Channel) : Bool :=
  !(s.member g i).arrived &&
    match (s.member g i).plan with
    | none => false
    | some p =>
      if fixed then decide (((p.target : Int) - (s.chan i).position) * Dir.sign p.dir ≤ (s.chan i).cfg.coast)
      else decide ((s.grp g).prof.p = 65536) && decide ((s.member g i).err.natAbs ≤ (s.grp g).windows.arriveBand)

theorem markArrived_eq : markArrived g i s = s.modMember g i arrivedMember := rfl

@[simp] theorem modMember_chan (f : Member → Member) : (s.modMember g i f).chan j = s.chan j := rfl

@[simp] theorem modMember_timebase (f : Member → Member) : (s.modMember g i f).timebase = s.timebase := rfl

@[simp] theorem modMember_setChan_self (f : Member → Member) : (s.modMember g i f).setChan j (s.chan j) = s.modMember g i f :=
  State.setChan_chan (s.modMember g i f) j

theorem arrivalOf_eq :
    arrivalOf g fixed s i =
      if reachesTarget g fixed s i then
        (s.modMember g i arrivedMember).setChan i (arrivedChan fixed s.timebase (s.chan i))
      else s := by
  unfold arrivalOf reachesTarget
  dsimp only
  cases hp : (s.member g i).plan with
  | none => simp
  | some p =>
    by_cases ha : (s.member g i).arrived = true
    · simp [ha]
    · cases fixed with
      | true =>
        by_cases hr : (s.chan i).state = .running <;> by_cases hd : ((p.target : Int) - (s.chan i).position) *
          Dir.sign p.dir ≤ (s.chan i).cfg.coast <;>
          simp [ha, hr, hd, arrivedChan, markArrived_eq, stopMember]
      | false =>
        simp [ha, arrivedChan, markArrived_eq, stopMember, fullProgress]
        exact if_congr Iff.rfl rfl rfl

theorem atMember_arrivalOf (hi : (s.chan i).group = some g) : AtMember g i s (arrivalOf g fixed s i) := by
  rw [arrivalOf_eq]
  split
  · exact (atMember_modMember arrivedMember).trans (atMember_setChan hi arrivedChan_kept)
  · exact .rfl'

theorem formErrors_only : MembersOnly g s (formErrors g s) :=
  ⟨rfl, fun h hh => by simp [formErrors, hh], by simp [formErrors], fun _ _ => rfl, fun _ => .rfl' _⟩

theorem signOf_eq (d : Dir) : signOf d = Dir.sign d := by cases d <;> rfl

/-- The profile record of group `g` is `pr`, and the update timer has been restarted at `e`. -/
def updateTaken (g : GroupId) (e : Time) (pr : Profile) (s : State) : State :=
  s.setGrp g { s.grp g with updateTimer := startMs e (intervalMs (s.grp g).interval), prof := pr }

theorem updateTaken_chan {pr : Profile} : (updateTaken g e pr s).chan i = s.chan i := rfl

theorem updateTaken_grp {pr : Profile} : (updateTaken g e pr s).grp g =
    { s.grp g with updateTimer := startMs e (intervalMs (s.grp g).interval), prof := pr } := by simp [updateTaken]

theorem updateTaken_within {pr : Profile} : Within g s (updateTaken g e pr s) := within_setGrp _

/-- Step 1 writes the phase, the rate, the progress and the displacement alone. -/
theorem updProfile_eq : updProfile g fixed s =
    { (s.grp g).prof with
      phase := (updProfile g fixed s).phase, p := (updProfile g fixed s).p, j := (updProfile g fixed s).j
      q := (updProfile g fixed s).q } := by
  have advanced (mk : MoveKind) (pr : Profile) :
      advanceBy mk pr = { pr with p := (advanceBy mk pr).p, j := (advanceBy mk pr).j } := by
    unfold advanceBy
    split
    · rfl
    · split <;> rfl
  unfold updProfile
  split
  · unfold advanceMoving
    rw [advanced]
    split
    · rfl
    · rw [rampPhase_kept]
  · rfl

theorem updProfile_members : (updProfile g fixed s).members = (s.grp g).prof.members := by rw [updProfile_eq]

/-- What steps 1 to 3 of an update in MOVING or HOLDING make of `s`: `u`. -/
structure StepThree (g : GroupId) (fixed : Bool) (e : Time) (s u : State) : Prop where
  only : MembersOnly g (updateTaken g e (updProfile g fixed s) s) u
  member : ∀ i, (s.chan i).group = some g → u.member g i =
    { s.member g i with
      err := updError g fixed s i
      arrived := (s.member g i).arrived || inReach g fixed s i
      trimPaused := (s.member g i).trimPaused && !arrivesNow g fixed s i }
  chan : ∀ i, u.chan i = if arrivesNow g fixed s i then arrivedChan fixed s.timebase (s.chan i) else s.chan i

theorem formErrors_updateTaken (hi : (s.chan i).group = some g) :
    (formErrors g (updateTaken g e (updProfile g fixed s) s)).member g i =
      { s.member g i with err := updError g fixed s i } := by
  have member : (updateTaken g e (updProfile g fixed s) s).member g i = s.member g i := by
    simp [State.member, updateTaken_grp, updProfile_members]
  have inside : (updateTaken g e (updProfile g fixed s) s).isMember g i = true := decide_eq_true hi
  rw [formErrors_member, member, if_pos inside]
  unfold updError
  cases hp : (s.member g i).plan with
  | none =>
    have hp' : ((s.grp g).prof.members.get i).plan = none := hp
    simp only [hp']
    rfl
  | some m =>
    have hp' : ((s.grp g).prof.members.get i).plan = some m := hp
    simp only [hp', memberError, updateTaken_grp, updateTaken_chan, signOf_eq]

theorem reachesTarget_formErrors (hi : (s.chan i).group = some g) (hm : (s.grp g).moveKind = .cue) :
    reachesTarget g fixed (formErrors g (updateTaken g e (updProfile g fixed s) s)) i = arrivesNow g fixed s i := by
  have record : (formErrors g (updateTaken g e (updProfile g fixed s) s)).grp g = _ := formErrors_only.record
  unfold reachesTarget arrivesNow notArrived inReach
  rw [formErrors_updateTaken hi, record, updateTaken_grp, hm]
  simp only [hi, decide_true, Bool.true_and, formErrors_chan, updateTaken_chan, signOf_eq, State.member]
  cases ((s.grp g).prof.members.get i).plan <;> rfl

theorem reachesTarget_congr (h : MembersOnly g s t) (hi : SameAt g i s t) :
    reachesTarget g fixed t i = reachesTarget g fixed s i := by
  unfold reachesTarget
  rw [hi.1, hi.2, h.record]

theorem arrivalOf_at : (arrivalOf g fixed s i).chan i =
      (if reachesTarget g fixed s i then arrivedChan fixed s.timebase (s.chan i) else s.chan i) ∧
    (arrivalOf g fixed s i).member g i =
      (if reachesTarget g fixed s i then arrivedMember (s.member g i) else s.member g i) := by
  rw [arrivalOf_eq]
  split
  · refine ⟨by simp, ?_⟩
    exact (modMember_member (s := s) arrivedMember).trans (if_pos rfl)
  · exact ⟨rfl, rfl⟩

/-- Steps 1 to 3 of an update (R125). -/
theorem stepThree (hk : s.groupFixed g = fixed) :
    StepThree g fixed e s (arrivals g (formErrors g (updateTaken g e (updProfile g fixed s) s))) := by
  set w := updateTaken g e (updProfile g fixed s) s with hw
  set v := formErrors g w with hv
  have formed : MembersOnly g w v := formErrors_only
  have kind : (v.grp g).moveKind = (s.grp g).moveKind := by rw [formed.record, hw, updateTaken_grp]
  have fixed_ : v.groupFixed g = fixed := by rw [formed.groupFixed, ← hk]; rfl
  have chans (i : Channel) : v.chan i = s.chan i := rfl
  have members : ∀ i ∈ v.members g, (v.chan i).group = some g := fun i hi => (State.mem_members v g i).mp hi
  cases hm : (s.grp g).moveKind with
  | jog =>
    have none : arrivals g v = v := by unfold arrivals; rw [kind, hm]
    have never (i : Channel) : inReach g fixed s i = false := by unfold inReach; rw [hm]
    rw [none]
    refine ⟨formed, fun i hi => ?_, fun i => ?_⟩
    · rw [hv, formErrors_updateTaken hi]; simp [arrivesNow, never]
    · simp [arrivesNow, never, chans]
  | cue =>
    have turned : arrivals g v = (v.members g).foldl (arrivalOf g fixed) v := by
      unfold arrivals; rw [kind, hm, fixed_]
    rw [turned]
    obtain ⟨only, same, turns⟩ := turn_members (g := g) (f := arrivalOf g fixed) (P := fun t => MembersOnly g v t)
      (fun _ _ h hi => ⟨atMember_arrivalOf hi, h.trans (atMember_arrivalOf hi).only⟩) (State.members_nodup v g) members .rfl'
    have turn (i : Channel) (hi : (s.chan i).group = some g) :
        (((v.members g).foldl (arrivalOf g fixed) v).chan i =
          if arrivesNow g fixed s i then arrivedChan fixed s.timebase (s.chan i) else s.chan i) ∧
        (((v.members g).foldl (arrivalOf g fixed) v).member g i =
          if arrivesNow g fixed s i then arrivedMember (v.member g i) else v.member g i) := by
      obtain ⟨x, before, -, at_, after⟩ := turns i ((State.mem_members v g i).mpr hi)
      obtain ⟨chan, member⟩ := arrivalOf_at (g := g) (fixed := fixed) (s := x) (i := i)
      rw [after.1, after.2, chan, member, reachesTarget_congr before at_, reachesTarget_formErrors hi hm, at_.1, at_.2,
        before.timebase]
      exact ⟨rfl, rfl⟩
    refine ⟨formed.trans only, fun i hi => ?_, fun i => ?_⟩
    · rw [(turn i hi).2, hv, formErrors_updateTaken hi]
      cases ha : ((s.grp g).prof.members.get i).arrived <;> cases hr : inReach g fixed s i <;>
        simp [arrivesNow, notArrived, ha, hr, hi, arrivedMember, State.member]
    · by_cases hi : (s.chan i).group = some g
      · exact (turn i hi).1
      · rw [only.outside i hi]
        simp [arrivesNow, notArrived, hi, chans]

end Sys2Proof.Machine
end

section
/-! PROOFS. Steps 4 and 5 of a group update (R137, R146, R147): what they find in the terms of the statements. -/

namespace Sys2Proof.Machine

open Sys2Proof.Safety

variable {s t u v : State} {g : GroupId} {i j : Channel} {fixed : Bool} {e : Time}

/-! ### The members not arrived -/

theorem live_eq : s.live g = channels.filter (notArrived g s) := by
  unfold State.live State.members notArrived
  rw [List.filter_filter]
  refine List.filter_congr fun i _ => ?_
  rw [Bool.and_comm]
  rfl

theorem live_find (q : Channel → Bool) : (s.live g).find? q = channels.find? fun i => notArrived g s i && q i := by
  rw [live_eq, List.find?_filter]
  exact List.find?_congr fun i _ => by simp [Bool.decide_and]

theorem live_head : (s.live g).head? = channels.find? (notArrived g s) := by rw [live_eq, List.head?_filter]

theorem find_eq_none {q : Channel → Bool} (h : ∀ i, q i = false) : channels.find? q = none :=
  List.find?_eq_none.mpr fun i _ => by simp [h i]

theorem find_eq_some {q : Channel → Bool} (h : ∃ i, q i = true) : ∃ i, channels.find? q = some i := by
  obtain ⟨i, hi⟩ := h
  exact Option.isSome_iff_exists.mp (List.find?_isSome.mpr ⟨i, mem_channels i, hi⟩)

section Three

variable (h : StepThree g fixed e s u)
include h

theorem StepThree.group (i : Channel) : (u.chan i).group = (s.chan i).group := (h.only.kept i).group

theorem StepThree.notArrived (i : Channel) : notArrived g u i = stillAway g fixed s i := by
  by_cases hi : (s.chan i).group = some g
  · have member : (u.grp g).prof.members.get i = _ := h.member i hi
    unfold stillAway Safety.notArrived
    rw [h.group, member]
    simp [hi, State.member, Bool.not_or]
  · simp [stillAway, Safety.notArrived, h.group, hi]

theorem StepThree.windows : (u.grp g).windows = (s.grp g).windows := by rw [h.only.record, updateTaken_grp]

theorem StepThree.loadCheck : (u.grp g).prof.loadCheck = (updProfile g fixed s).loadCheck := by
  rw [h.only.record, updateTaken_grp]

theorem StepThree.state : (u.grp g).state = (s.grp g).state := by rw [h.only.record, updateTaken_grp]

/-- A member that is not arrived after step 3 is one whose error is the one of the statements. -/
theorem StepThree.find (q : Int → Bool) :
    (u.live g).find? (fun i => q (u.member g i).err) =
      channels.find? fun i => stillAway g fixed s i && q (updError g fixed s i) := by
  rw [live_find]
  refine List.find?_congr fun i _ => ?_
  rw [h.notArrived]
  by_cases hi : (s.chan i).group = some g
  · rw [h.member i hi]
  · simp [stillAway, Safety.notArrived, hi]

/-- Step 4 in the terms of the statements (R137). -/
theorem StepThree.syncTrip :
    syncTrip g u =
      match channels.find? (lagsNow g fixed s) with
      | some i => some (.syncLag, i)
      | none => (channels.find? (leadsNow g fixed s)).map fun i => (.syncLead, i) := by
  have lags := h.find fun x => decide (x ≤ -((s.grp g).windows.tripLag : Int))
  have leads := h.find fun x => decide (((s.grp g).windows.tripLead : Int) ≤ x)
  unfold Machine.syncTrip
  simp only [h.windows, lags, leads]
  change (match channels.find? (lagsNow g fixed s) with
    | some i => some (TripCause.syncLag, i)
    | none => match channels.find? (leadsNow g fixed s) with
      | some i => some (TripCause.syncLead, i)
      | none => none) = _
  cases channels.find? (lagsNow g fixed s) <;> cases channels.find? (leadsNow g fixed s) <;> rfl

/-! ### The load shares -/

theorem StepThree.load (i : Channel) : (u.chan i).load = (s.chan i).load := (h.only.kept i).load

theorem StepThree.refShare (hi : (s.chan i).group = some g) : (u.member g i).refShare = (s.member g i).refShare := by
  rw [h.member i hi]

theorem StepThree.compared : u.compared g = channels.filter (shareCompared g s) := by
  unfold State.compared State.members
  rw [List.filter_filter]
  refine List.filter_congr fun i _ => ?_
  by_cases hi : (s.chan i).group = some g
  · rw [h.refShare hi]
    simp [State.isMember, h.group, hi, loadValid, h.load, shareCompared, loadTaken, State.member, Bool.and_comm]
  · simp [State.isMember, h.group, hi, shareCompared, loadTaken]

theorem StepThree.loadSum (q : Channel → Bool) : Machine.loadSum u (channels.filter q) = loadTotal q s := by
  unfold Machine.loadSum loadTotal
  simp only [h.load]

theorem StepThree.comparable : Machine.comparable g u = decide (SharesComparable g s) := by
  unfold Machine.comparable
  rw [h.compared, h.loadSum, ← Bool.decide_and]

end Three

theorem compareShares_only : MembersOnly g s (compareShares g s) := by
  refine ⟨rfl, fun k hk => ?_, ?_, fun _ _ => rfl, fun _ => .rfl' _⟩
  · simp [compareShares, State.modProf, hk]
  · simp [compareShares, State.modProf]

/-- The violation count of member `i` after a comparison (R147). -/
def nextViol (g : GroupId) (s : State) (i : Channel) : Nat :=
  if shareCompared g s i = false then 0
  else if ¬SharesComparable g s then (s.member g i).viol
  else if (s.member g i).refShare.any (shareViolates g s i) = true then min 3 ((s.member g i).viol + 1)
  else 0

theorem distance_eq (x y : Nat) : distance x y = ((x : Int) - (y : Int)).natAbs := by unfold distance; omega

theorem violNext_eq (ref viol : Nat) :
    violNext (s.grp g).windows.shareTolerance (s.chan i).load.filtered (loadTotal (shareCompared g s) s) ref viol =
      if shareViolates g s i ref = true then min 3 (viol + 1) else 0 := by
  unfold violNext shareViolates shareMargin shareOf
  rw [distance_eq]
  simp only [decide_eq_true_eq]

theorem compareShares_member_none (hr : (s.member g i).refShare = none) :
    (compareShares g s).member g i = s.member g i := by
  simp only [State.member] at hr
  simp only [compareShares, State.modProf, State.member, State.modGrp_eq, State.grp_setGrp, if_true, Chans.get_mapIdx, hr]

theorem compareShares_member_some {ref : Nat} (hr : (s.member g i).refShare = some ref) :
    (compareShares g s).member g i =
      if (s.compared g).contains i then
        if comparable g s then
          { s.member g i with
            viol := violNext (s.grp g).windows.shareTolerance (s.chan i).load.filtered (loadSum s (s.compared g)) ref
              (s.member g i).viol }
        else s.member g i
      else if s.isMember g i then { s.member g i with viol := 0 }
      else s.member g i := by
  simp only [State.member] at hr
  simp only [compareShares, State.modProf, State.member, State.modGrp_eq, State.grp_setGrp, if_true, Chans.get_mapIdx, hr]

section Three

variable (h : StepThree g fixed e s u)
include h

/-- The comparison of step 5 in the terms of the statements (R147). -/
theorem StepThree.compareShares (hi : (s.chan i).group = some g) :
    (compareShares g u).member g i =
      if (s.member g i).refShare.isSome then { u.member g i with viol := nextViol g s i } else u.member g i := by
  have load := h.load i
  have within : ((channels.filter (shareCompared g s)).contains i) = shareCompared g s i := by
    cases hc : shareCompared g s i <;> simp [hc]
  have viol : (u.member g i).viol = (s.member g i).viol := by rw [h.member i hi]
  have inside : u.isMember g i = true := decide_eq_true ((h.group i).trans hi)
  cases hr : (s.member g i).refShare with
  | none => exact compareShares_member_none ((h.refShare hi).trans hr)
  | some ref =>
    rw [compareShares_member_some ((h.refShare hi).trans hr), h.compared, within, h.comparable, h.loadSum, h.windows, load,
      viol]
    simp only [Option.isSome_some, if_true, violNext_eq]
    unfold nextViol
    rw [hr]
    cases hc : shareCompared g s i with
    | false => simp [inside]
    | true =>
      by_cases hm : SharesComparable g s
      · simp [hm]
      · simp [hm, ← viol]

theorem StepThree.loadChecked_compared : (Machine.compareShares g u).compared g = u.compared g := by
  unfold State.compared
  rw [compareShares_only.members]
  refine List.filter_congr fun i hi => ?_
  have hi' : (s.chan i).group = some g := (h.group i).symm.trans ((State.mem_members u g i).mp hi)
  rw [h.compareShares hi']
  split <;> rfl

/-- The member found by step 5 of R147. -/
theorem StepThree.shiftFound (hon : (s.grp g).prof.loadCheck = .on) :
    shiftFound g (Machine.compareShares g u) = channels.find? (shiftsNow g s) := by
  have sums : Machine.comparable g (Machine.compareShares g u) = decide (SharesComparable g s) := by
    have same : Machine.comparable g (Machine.compareShares g u) = Machine.comparable g u := by
      unfold Machine.comparable
      rw [h.loadChecked_compared]
      rfl
    rw [same, h.comparable]
  unfold Machine.shiftFound
  rw [sums, h.loadChecked_compared, h.compared]
  by_cases hm : SharesComparable g s
  · rw [if_pos (decide_eq_true hm), List.find?_filter]
    refine List.find?_congr fun i _ => ?_
    unfold shiftsNow
    rw [hon]
    cases hc : shareCompared g s i with
    | false => simp
    | true =>
      obtain ⟨hi, hr⟩ : (s.chan i).group = some g ∧ (s.member g i).refShare.isSome = true := by
        simp [shareCompared, loadTaken] at hc
        exact ⟨hc.1.1, hc.2⟩
      rw [h.compareShares hi, if_pos hr]
      have count : nextViol g s i =
          if (s.member g i).refShare.any (shareViolates g s i) = true then min 3 ((s.member g i).viol + 1) else 0 := by
        unfold nextViol
        rw [if_neg (by simp [hc]), if_neg (by simpa using hm)]
      simp only [count, decide_eq_true hm, decide_true, Bool.true_and, true_and, decide_eq_true_eq]
      change decide (3 ≤ if (s.member g i).refShare.any (shareViolates g s i) = true then
          min 3 ((s.member g i).viol + 1) else 0) =
        ((s.member g i).refShare.any (shareViolates g s i) && decide (2 ≤ (s.member g i).viol))
      cases (s.member g i).refShare.any (shareViolates g s i) with
      | false => simp
      | true => simp
  · rw [if_neg (by simpa using hm), find_eq_none fun i => by simp [shiftsNow, hm]]

end Three

end Sys2Proof.Machine
end

section
/-! PROOFS. A trip of a group by its own timers and by an update (R119, R120, R125, R136, R137, R140, R147). -/

namespace Sys2Proof.Machine

open Sys2Proof.Safety

variable {s t u v : State} {g : GroupId} {i j : Channel} {fixed : Bool} {e : Time} {cause : TripCause} {ch : Option Channel}

/-! ### The trip -/

/-- A trip of a group whose members have been stopped before or not at all. -/
theorem trippedWith_tripGroup (hin : (u.grp g).state.inMove = true) (hstay : StaysTripped g u)
    (hm : ∀ j, (s.chan j).group = some g →
      (u.chan j).group = some g ∧ (u.chan j = s.chan j ∨ Halted (s.chan j) (u.chan j))) :
    TrippedWith g cause ch s (tripGroup cause ch g u) := by
  rw [(tripGroup_cases u cause ch g).2.2 hin]
  obtain ⟨record, -, chans, noticed, -⟩ := tripEntered_of_stays (cause := cause) ch hstay
  rw [TrippedWith, record]
  refine ⟨rfl, rfl, rfl, rfl, rfl, rfl, rfl, noticed, fun j hj => ?_⟩
  obtain ⟨hg, same | halted⟩ := hm j hj <;> rw [chans, if_pos hg]
  · rw [same]; exact quickStopped_chanStop _ _
  · exact halted.quickStopped

theorem stays_of_calm (hc : Calm g s) : StaysTripped g s := fun h => .inl (hc h)

/-- A trip of a group in a move, as a whole step. -/
theorem tripGroup_trips (hin : (s.grp g).state.inMove = true) (hc : Calm g s) :
    TrippedWith g cause ch s (tripGroup cause ch g s) ∧ UpdateKeeps g s (tripGroup cause ch g s) :=
  ⟨trippedWith_tripGroup hin (stays_of_calm hc) fun _ hj => ⟨hj, .inl rfl⟩, (within_tripGroup hc ch).updateKeeps⟩

/-! ### The update of a group in MOVING or HOLDING -/

/-- The state after steps 1 to 3. -/
def threeSteps (g : GroupId) (fixed : Bool) (e : Time) (s : State) : State :=
  arrivals g (formErrors g (updateTaken g e (updProfile g fixed s) s))

/-- Step 6 and the steps after it in MOVING. -/
def restMoving (g : GroupId) (qd : Nat) (v : State) : State :=
  if atBound (v.grp g) then updateTail g qd (controlledStop g v)
  else if holdDue g v then updateTail g 0 (enterHolding g v)
  else updateTail g qd v

/-- Step 6 and the steps after it in HOLDING. -/
def restHolding (g : GroupId) (v : State) : State := updateTail g 0 (if releaseDue g v then releaseGroup g v else v)

/-- The update of a group whose state is `st`, on the record with the update timer restarted. -/
def updateIn (st : GroupState) (g : GroupId) (w : State) : State :=
  match st with
  | .starting => updateStarting g w
  | .moving => updateMoving g w
  | .holding => updateHolding g w
  | .stopping => updateStopping g w
  | .idle => w
  | .paused => w
  | .tripped => w

theorem groupUpdate_eq (ht : (s.grp g).updateTimer = some e) :
    groupUpdate g s = updateIn (s.grp g).state g (updateTaken g e (s.grp g).prof s) := by
  have record : (updateTaken g e (s.grp g).prof s).grp g = _ := updateTaken_grp
  have state : ((updateTaken g e (s.grp g).prof s).grp g).state = (s.grp g).state := by rw [record]
  rw [← state]
  unfold groupUpdate
  rw [ht]
  rfl

theorem groupUpdate_moving (ht : (s.grp g).updateTimer = some e) (hs : (s.grp g).state = .moving)
    (hk : s.groupFixed g = fixed) :
    groupUpdate g s = updateTests g (threeSteps g fixed e s)
      (restMoving g (dutyRate (s.grp g).moveKind (s.grp g).prof (updProfile g fixed s))) := by
  have kind : (updateTaken g e (s.grp g).prof s).groupFixed g = fixed := hk
  have profile : advanceMoving fixed (s.grp g).moveKind (s.grp g).prof = updProfile g fixed s := by
    unfold updProfile; rw [if_pos hs]
  have written : (updateTaken g e (s.grp g).prof s).modProf g (fun _ => updProfile g fixed s) =
      updateTaken g e (updProfile g fixed s) s := by simp [State.modProf, updateTaken]
  rw [groupUpdate_eq ht, hs]
  unfold updateIn updateMoving
  simp only [kind, updateTaken_grp, profile, written]
  rfl

theorem groupUpdate_holding (ht : (s.grp g).updateTimer = some e) (hs : (s.grp g).state = .holding) :
    groupUpdate g s = updateTests g (threeSteps g fixed e s) (restHolding g) := by
  have profile : updProfile g fixed s = (s.grp g).prof := by unfold updProfile; rw [if_neg (by simp [hs])]
  rw [groupUpdate_eq ht, hs, ← profile]
  rfl

section Three

variable (h : StepThree g fixed e s u)
include h

/-- Steps 4 and 5 report no trip: the update goes on. -/
theorem StepThree.passes (hno : NoTripNow g fixed s) (next : State → State) :
    updateTests g u next = next (loadStep g u).1 := by
  have check : (u.grp g).prof.loadCheck = (s.grp g).prof.loadCheck := by rw [h.loadCheck, updProfile_eq]
  have none : Machine.syncTrip g u = Option.none := by
    rw [h.syncTrip, find_eq_none fun i => (hno i).1, find_eq_none fun i => (hno i).2.1]
    rfl
  have load : (loadStep g u).2 = Option.none := by
    unfold loadStep
    split
    next => rfl
    next hon => simp only []; rw [h.shiftFound (check ▸ hon), find_eq_none fun i => (hno i).2.2]
    next => rfl
  unfold updateTests
  rw [none]
  cases hl : loadStep g u with
  | mk v found =>
    rw [hl] at load
    obtain rfl : found = Option.none := load
    rfl

theorem StepThree.lags (hl : ∃ i, lagsNow g fixed s i = true) (next : State → State) :
    updateTests g u next = tripGroup .syncLag (channels.find? (lagsNow g fixed s)) g u := by
  obtain ⟨i, hi⟩ := find_eq_some hl
  unfold updateTests
  rw [h.syncTrip, hi]

theorem StepThree.leads (hn : ∀ i, lagsNow g fixed s i = false) (hl : ∃ i, leadsNow g fixed s i = true)
    (next : State → State) : updateTests g u next = tripGroup .syncLead (channels.find? (leadsNow g fixed s)) g u := by
  obtain ⟨i, hi⟩ := find_eq_some hl
  unfold updateTests
  rw [h.syncTrip, find_eq_none hn, hi]
  rfl

theorem StepThree.shifts (hn : ∀ i, lagsNow g fixed s i = false ∧ leadsNow g fixed s i = false)
    (hl : ∃ i, shiftsNow g s i = true) (next : State → State) :
    updateTests g u next = tripGroup .loadShift (channels.find? (shiftsNow g s)) g (Machine.compareShares g u) := by
  obtain ⟨i, hi⟩ := find_eq_some hl
  have on : (s.grp g).prof.loadCheck = .on := by
    obtain ⟨k, hk⟩ := hl
    simp only [shiftsNow, Bool.and_eq_true, decide_eq_true_eq] at hk
    exact hk.1.1.1.1
  have check : (u.grp g).prof.loadCheck = .on := by rw [h.loadCheck, updProfile_eq]; exact on
  have load : loadStep g u = (Machine.compareShares g u, some i) := by
    unfold loadStep
    rw [check, ← hi, ← h.shiftFound on]
  unfold updateTests
  rw [h.syncTrip, find_eq_none fun i => (hn i).1, find_eq_none fun i => (hn i).2, hi]
  simp only [Option.map_none, load]

theorem StepThree.updateKeeps : Within g s u := updateTaken_within.trans h.only.within

theorem StepThree.halted (j : Channel) : u.chan j = s.chan j ∨ Halted (s.chan j) (u.chan j) := by
  rw [h.chan]
  unfold arrivedChan
  split
  · split
    · exact .inl rfl
    · exact .inr halted_chanStop
  · exact .inl rfl

/-- A trip reported by steps 4 and 5. -/
theorem StepThree.trips (only : MembersOnly g u v) (same : ∀ j, v.chan j = u.chan j)
    (hs : (s.grp g).state.inMove = true) (hc : Calm g s) :
    TrippedWith g cause ch s (tripGroup cause ch g v) ∧ UpdateKeeps g s (tripGroup cause ch g v) := by
  have within : Within g s v := h.updateKeeps.trans only.within
  refine ⟨trippedWith_tripGroup ?_ (stays_of_calm (within.calm hc)) fun j hj => ?_,
    (within.trans (within_tripGroup (within.calm hc) ch)).updateKeeps⟩
  · rw [only.record, h.state]; exact hs
  · rw [same]; exact ⟨(h.group j).trans hj, h.halted j⟩

end Three

/-! ### The statement -/

theorem exec_startTimerExpiry : exec (.startTimerExpiry g) s = .next (startTimeout g s) := rfl
theorem exec_holdTimerExpiry : exec (.holdTimerExpiry g) s = .next (holdTimeout g s) := rfl
theorem exec_finishTimerExpiry : exec (.finishTimerExpiry g) s = .next (finishTimeout g s) := rfl
theorem exec_groupUpdate : exec (.groupUpdate g) s = .next (groupUpdate g s) := rfl

/-- An update in MOVING or HOLDING makes steps 1 to 3 and the tests. -/
theorem groupUpdate_tests (ht : (s.grp g).updateTimer ≠ none) (hs : (s.grp g).state = .moving ∨ (s.grp g).state = .holding)
    (hk : MembersAre g fixed s) : ∃ e u next, StepThree g fixed e s u ∧ groupUpdate g s = updateTests g u next := by
  obtain ⟨e, he⟩ := Option.ne_none_iff_exists'.mp ht
  have kind := groupFixed_of_membersAre hk
  rcases hs with hs | hs
  · exact ⟨e, _, _, stepThree kind, groupUpdate_moving he hs kind⟩
  · exact ⟨e, _, _, stepThree kind, groupUpdate_holding he hs⟩

/-- Settles O22: the three expiries and the tests of an update trip the group, naming the channel their rule names. -/
theorem groupTimersTrip : Obligations.GroupTimersTrip := by
  unfold Obligations.GroupTimersTrip
  intro g s hin hc
  refine ⟨fun ht => ?_, fun ht => ?_, fun ht => ?_, fun fixed ht hs hk => ?_⟩
  · refine ⟨_, exec_startTimerExpiry, ?_⟩
    rw [startTimeout, if_pos (Option.isSome_iff_ne_none.mpr ht), live_find]
    exact tripGroup_trips hin hc
  · refine ⟨_, exec_holdTimerExpiry, ?_⟩
    rw [holdTimeout, if_pos (Option.isSome_iff_ne_none.mpr ht), holdNamed, live_find, live_head]
    exact tripGroup_trips hin hc
  · refine ⟨_, exec_finishTimerExpiry, ?_⟩
    rw [finishTimeout, if_pos (Option.isSome_iff_ne_none.mpr ht), live_head]
    exact tripGroup_trips hin hc
  · obtain ⟨e, u, next, three, update⟩ := groupUpdate_tests ht hs hk
    rw [exec_groupUpdate, update]
    refine ⟨fun hl => ⟨_, rfl, ?_⟩, fun hn hl => ⟨_, rfl, ?_⟩, fun hn hl => ⟨_, rfl, ?_⟩⟩
    · rw [three.lags hl]; exact three.trips .rfl' (fun _ => rfl) hin hc
    · rw [three.leads hn hl]; exact three.trips .rfl' (fun _ => rfl) hin hc
    · rw [three.shifts hn hl]; exact three.trips compareShares_only (fun _ => rfl) hin hc

end Sys2Proof.Machine
end

section
/-! PROOFS. The commanded position of a cue and what an update makes of the profile record (R126, R128, R129, R130, R144,
R145). -/

namespace Sys2Proof.Machine

open Sys2Proof.Safety

variable {pr : Profile} {m : MemberPlan} {mk : MoveKind} {fixed : Bool}

/-! ### The commanded position -/

theorem commanded_cue_up (h : m.dir = .up) :
    commanded .cue pr m = (m.start : Int) + ((m.dist * pr.p / fullProgress : Nat) : Int) := by
  simp [commanded, h, Dir.sign]

theorem commanded_cue_down (h : m.dir = .down) :
    commanded .cue pr m = (m.start : Int) - ((m.dist * pr.p / fullProgress : Nat) : Int) := by
  simp [commanded, h, Dir.sign]; omega

/-- A cue's commanded position lies between the start and the place at the member's distance from it. -/
theorem commanded_cue_within (hp : pr.p ≤ 65536) :
    (m.dir = .up → (m.start : Int) ≤ commanded .cue pr m ∧ commanded .cue pr m ≤ (m.start : Int) + m.dist) ∧
      (m.dir = .down → (m.start : Int) - m.dist ≤ commanded .cue pr m ∧ commanded .cue pr m ≤ (m.start : Int)) := by
  have share : m.dist * pr.p / fullProgress ≤ m.dist := share_le m.dist pr.p hp
  constructor <;> intro h
  · rw [commanded_cue_up h]
    generalize m.dist * pr.p / fullProgress = x at share
    omega
  · rw [commanded_cue_down h]
    generalize m.dist * pr.p / fullProgress = x at share
    omega

/-- At the end of the progress the whole distance is commanded. -/
theorem commanded_cue_full (hp : pr.p = 65536) :
    commanded .cue pr m = (m.start : Int) + signOf m.dir * m.dist := by
  have share : m.dist * pr.p / fullProgress = m.dist := by rw [hp]; exact share_full m.dist
  rw [commanded, share, signOf_eq]

theorem cueMemberPlan_target (fixed : Bool) (cue : Cue) (i : Channel) (c : Chan) :
    ((cueMemberPlan fixed cue i c).target : Int) =
      (cueMemberPlan fixed cue i c).start + signOf (cueMemberPlan fixed cue i c).dir * (cueMemberPlan fixed cue i c).dist := by
  have sides (target position : Nat) :
      (target : Int) = position + signOf (if target < position then Dir.down else .up) * (distance target position : Int) := by
    unfold distance
    split
    · simp only [signOf]; omega
    · simp only [signOf]; omega
  exact sides _ _

/-! ### The advance of the record -/

theorem advanceBy_cue : advanceBy .cue pr = { pr with p := min 65536 (pr.p + pr.q) } := rfl

/-- The displacement of a jog advances by the rate up to its bound, where it has one. -/
theorem advanceBy_jog : advanceBy .jog pr =
    { pr with j := match pr.jMax with
      | none => pr.j + pr.q
      | some x => min x (pr.j + pr.q) } := by
  unfold advanceBy
  cases pr.jMax <;> rfl

/-- The deceleration test makes the phase DECEL in ACCEL or CRUISE (R128). -/
abbrev Slowing (mk : MoveKind) (pr : Profile) : Prop :=
  pr.phase = .decel ∨ ((pr.phase = .accel ∨ pr.phase = .cruise) ∧
    (remainingOf mk pr).any (fun r => decide (r ≤ pr.q * pr.q / (2 * pr.a) + pr.q)) = true)

theorem decelTest_of_slowing (h : Slowing mk pr) : decelTest (remainingOf mk pr) pr = .decel := by
  rcases h with h | ⟨h | h, hd⟩
  · simp [decelTest, h]
  · simp only [decelTest, h]; exact if_pos hd
  · simp only [decelTest, h]; exact if_pos hd

theorem decelTest_of_not_slowing (h : ¬Slowing mk pr) : decelTest (remainingOf mk pr) pr = pr.phase := by
  have due (hp : pr.phase = .accel ∨ pr.phase = .cruise) : ¬(remainingOf mk pr).any (decelDue pr) = true :=
    fun hd => h (.inr ⟨hp, hd⟩)
  cases hp : pr.phase with
  | accel => simp only [decelTest, hp]; exact if_neg (due (.inl hp))
  | cruise => simp only [decelTest, hp]; exact if_neg (due (.inr hp))
  | decel => exact absurd (.inl hp) h
  | none => simp [decelTest, hp]
  | stopping => simp [decelTest, hp]

theorem rampPhase_of_slowing (h : Slowing mk pr) :
    rampPhase (remainingOf mk pr) pr = { pr with phase := .decel, q := max pr.a (pr.q - pr.a) } := by
  unfold rampPhase; rw [decelTest_of_slowing h]

theorem rampPhase_of_accel (h : ¬Slowing mk pr) (hp : pr.phase = .accel) :
    rampPhase (remainingOf mk pr) pr =
      { pr with
        phase := if min (pr.q + pr.a) pr.qCruise = pr.qCruise then .cruise else .accel
        q := min (pr.q + pr.a) pr.qCruise } := by
  unfold rampPhase; rw [decelTest_of_not_slowing h, hp]

theorem rampPhase_of_cruise (h : ¬Slowing mk pr) (hp : pr.phase = .cruise) :
    rampPhase (remainingOf mk pr) pr = { pr with phase := .cruise } := by
  unfold rampPhase; rw [decelTest_of_not_slowing h, hp]

/-- An advance changes neither the phase nor the rate. -/
theorem advanceBy_ramp : (advanceBy mk pr).phase = pr.phase ∧ (advanceBy mk pr).q = pr.q := by
  cases mk with
  | cue => exact ⟨rfl, rfl⟩
  | jog => rw [advanceBy_jog]; exact ⟨rfl, rfl⟩

/-- The advance of a VARIABLE group in MOVING (R128, R144). -/
theorem advanceMoving_variable :
    let after := advanceMoving false mk pr
    after.phase = (rampPhase (remainingOf mk pr) pr).phase ∧ after.q = (rampPhase (remainingOf mk pr) pr).q ∧
      (mk = .cue → after.p = min 65536 (pr.p + after.q) ∧ after.j = pr.j) ∧
      (mk = .jog → after.p = pr.p ∧
        after.j = match pr.jMax with
          | none => pr.j + after.q
          | some x => min x (pr.j + after.q)) := by
  obtain ⟨phase, rate⟩ := advanceBy_ramp (mk := mk) (pr := rampPhase (remainingOf mk pr) pr)
  have made : advanceMoving false mk pr = advanceBy mk (rampPhase (remainingOf mk pr) pr) := rfl
  have kept := rampPhase_kept (remainingOf mk pr) pr
  rw [made]
  refine ⟨phase, rate, fun hm => ?_, fun hm => ?_⟩ <;> subst hm
  · rw [rate, advanceBy_cue, kept]; exact ⟨rfl, rfl⟩
  · rw [rate, advanceBy_jog, kept]; exact ⟨rfl, rfl⟩

/-- The rules of the ramp and of the advance (R128, R144). -/
theorem advanceMoving_rules :
    let after := advanceMoving false mk pr
    (Slowing mk pr → after.phase = .decel ∧ after.q = max pr.a (pr.q - pr.a)) ∧
      (¬Slowing mk pr → pr.phase = .accel →
        after.q = min (pr.q + pr.a) pr.qCruise ∧ (after.phase = if after.q = pr.qCruise then .cruise else .accel)) ∧
      (¬Slowing mk pr → pr.phase = .cruise → after.q = pr.q ∧ after.phase = .cruise) ∧
      (mk = .cue → after.p = min 65536 (pr.p + after.q) ∧ after.j = pr.j) ∧
      (mk = .jog → after.p = pr.p ∧
        after.j = match pr.jMax with
          | none => pr.j + after.q
          | some x => min x (pr.j + after.q)) := by
  obtain ⟨phase, rate, cue, jog⟩ := advanceMoving_variable (mk := mk) (pr := pr)
  dsimp only at phase rate ⊢
  refine ⟨fun h => ?_, fun h ha => ?_, fun h hc => ?_, cue, jog⟩
  · rw [phase, rate, rampPhase_of_slowing h]; exact ⟨rfl, rfl⟩
  · rw [phase, rate, rampPhase_of_accel h ha]; exact ⟨rfl, rfl⟩
  · rw [phase, rate, rampPhase_of_cruise h hc]; exact ⟨rfl, rfl⟩

/-- The progress of a cue does not fall, and stays within its whole. -/
theorem advanceBy_progress {x : Profile} (hp : pr.p ≤ 65536) (hx : x.p = pr.p) :
    pr.p ≤ (advanceBy .cue x).p ∧ (advanceBy .cue x).p ≤ 65536 ∧ (advanceBy .jog x).p = pr.p := by
  refine ⟨?_, Nat.min_le_left _ _, ?_⟩
  · rw [advanceBy_cue]
    show pr.p ≤ min 65536 (x.p + x.q)
    omega
  · rw [advanceBy_jog]
    exact hx

/-- Settles O25: by the definition of the commanded position and of each step of the record. -/
theorem commandedStaysInsideTheMove : Obligations.CommandedStaysInsideTheMove := by
  unfold Obligations.CommandedStaysInsideTheMove
  intro pr m hp
  obtain ⟨up, down⟩ := commanded_cue_within (m := m) hp
  refine ⟨up, down, fun h => ?_, fun ht => ⟨fun h => ?_, fun h => ?_, fun h => ?_⟩, ?_, fun fixed cue i c => ?_,
    fun fixed => ?_, rfl, ?_, fun mk => ?_⟩
  · rw [commanded_cue_full h]
    cases m.dir <;> simp only [signOf] <;> omega
  · have := up h
    rw [h] at ht
    simp only [signOf] at ht
    omega
  · have := down h
    rw [h] at ht
    simp only [signOf] at ht
    omega
  · rw [commanded_cue_full h, ht]
  · rw [commanded, signOf_eq]
  · refine ⟨rfl, cueMemberPlan_target fixed cue i c, rfl, fun h => ?_, rfl⟩
    have still : ¬(cueMemberPlan fixed cue i c).target < c.position := by rw [h]; exact lt_irrefl _
    exact if_neg still
  · have ramped : (rampPhase (remainingOf .cue pr) pr).p = pr.p ∧ (rampPhase (remainingOf .jog pr) pr).p = pr.p := by
      constructor <;> rw [rampPhase_kept]
    have stop := advanceBy_progress (x := { pr with q := pr.q - pr.a }) hp rfl
    have cue := advanceBy_progress (x := if fixed then { pr with q := pr.qCruise } else rampPhase (remainingOf .cue pr) pr) hp
      (by split <;> [rfl; exact ramped.1])
    have jog := advanceBy_progress (x := if fixed then { pr with q := pr.qCruise } else rampPhase (remainingOf .jog pr) pr) hp
      (by split <;> [rfl; exact ramped.2])
    exact ⟨cue.1, cue.2.1, jog.2.2, stop.1, stop.2.1⟩
  · exact advanceBy_jog
  · have rules := advanceMoving_rules (mk := mk) (pr := pr)
    cases mk with
    | cue => exact rules
    | jog => exact rules

end Sys2Proof.Machine
end

section
/-! PROOFS. Steps 7 and 8 of a group update: the trim of a FIXED group (R141, R142) and the duty of a VARIABLE one (R131,
R132), member by member. -/

namespace Sys2Proof.Machine

open Sys2Proof.Safety

variable {s t u v : State} {g : GroupId} {i j : Channel} {fixed : Bool} {e : Time} {c : Chan} {r : Group} {m : Member}
  {p : MemberPlan} {qd : Nat}

/-! ### Step 8 -/

/-- The record of a member after step 8. -/
def dutyChan (r : Group) (m : Member) (qd : Nat) (c : Chan) : Chan :=
  match m.plan with
  | none => c
  | some p =>
    if m.arrived = false ∧ c.state = .running ∧ c.cfg.kind = .variableSpeed then
      { c with gen := { c.gen with
        pendingDuty := some (dutyOf (feedforward r.moveKind qd (intervalMs r.interval) p.dist c.cfg.ratedSpeed)
          (correction m.err c.cfg.gainK) m.err) } }
    else c

theorem dutyChan_kept : ChanKept c (dutyChan r m qd c) := by
  unfold dutyChan
  split
  · exact .rfl' _
  · split
    · exact ⟨rfl, rfl, rfl, rfl, rfl, rfl, rfl, rfl, rfl, rfl, rfl, rfl, rfl, rfl, rfl⟩
    · exact .rfl' _

/-- Step 8 writes the pending duty alone. -/
theorem dutyChan_gen : dutyChan r m qd c = { c with gen := (dutyChan r m qd c).gen } := by
  unfold dutyChan
  split
  · rfl
  · split <;> rfl

theorem dutyChan_of_arrived (h : m.arrived = true) : dutyChan r m qd c = c := by
  unfold dutyChan
  split
  · rfl
  · rw [if_neg (by simp [h])]

theorem dutyChan_of_not_running (h : c.state ≠ .running) : dutyChan r m qd c = c := by
  unfold dutyChan
  split
  · rfl
  · rw [if_neg (by simp [h])]

theorem dutyOf_eq (ff corr : Nat) (err : Int) :
    dutyOf ff corr err =
      (max 0 (min 255 (if err < 0 then (ff : Int) + corr else if 0 < err then (ff : Int) - corr else ff))).toNat := by
  unfold dutyOf
  split
  · omega
  · split <;> omega

/-- The duty written for a RUNNING member that is not arrived (R131, R132). -/
theorem dutyChan_pendingDuty (ha : m.arrived = false) (hs : c.state = .running) (hk : c.cfg.kind = .variableSpeed)
    (hp : m.plan = some p) :
    let ff := match r.moveKind with
      | .cue => p.dist * qd * 1000 * 255 / (65536 * intervalMs r.interval * c.cfg.ratedSpeed)
      | .jog => qd * 1000 * 255 / (intervalMs r.interval * c.cfg.ratedSpeed)
    let corr := m.err.natAbs * c.cfg.gainK / 16
    (dutyChan r m qd c).gen.pendingDuty =
      some (max 0 (min 255 (if m.err < 0 then (ff : Int) + corr else if 0 < m.err then (ff : Int) - corr else ff))).toNat := by
  intro ff corr
  have made : (dutyChan r m qd c).gen.pendingDuty =
      some (dutyOf (feedforward r.moveKind qd (intervalMs r.interval) p.dist c.cfg.ratedSpeed)
        (correction m.err c.cfg.gainK) m.err) := by
    simp only [dutyChan, hp]
    rw [if_pos ⟨ha, hs, hk⟩]
  have forward : feedforward r.moveKind qd (intervalMs r.interval) p.dist c.cfg.ratedSpeed = ff := by
    simp only [ff]
    cases r.moveKind <;> rfl
  rw [made, dutyOf_eq, forward]
  rfl

theorem dutyFor_eq : dutyFor g qd s i = s.setChan i (dutyChan (s.grp g) (s.member g i) qd (s.chan i)) := by
  unfold dutyFor dutyChan
  dsimp only
  cases (s.member g i).plan with
  | none => simp
  | some p =>
    by_cases hs : (s.chan i).state = .running <;> by_cases ha : (s.member g i).arrived = false <;>
      by_cases hk : (s.chan i).cfg.kind = .variableSpeed <;> simp [hs, ha, hk, writeDuty]

/-- Step 8 over the members. -/
theorem dutyStep_spec :
    MembersOnly g s (dutyStep g qd s) ∧ (∀ i, (dutyStep g qd s).member g i = s.member g i) ∧
      ∀ i, (s.chan i).group = some g →
        (dutyStep g qd s).chan i = dutyChan (s.grp g) (s.member g i) qd (s.chan i) := by
  obtain ⟨only, same, turns⟩ := turn_members (g := g) (f := dutyFor g qd) (P := fun t => MembersOnly g s t)
    (fun x i h hi => by
      rw [dutyFor_eq]
      have one : AtMember g i x _ := atMember_setChan hi (dutyChan_kept (r := x.grp g) (m := x.member g i) (qd := qd))
      exact ⟨one, h.trans one.only⟩)
    (State.members_nodup s g) (fun i hi => (State.mem_members s g i).mp hi) .rfl'
  have turn (i : Channel) (hi : (s.chan i).group = some g) :
      (dutyStep g qd s).chan i = dutyChan (s.grp g) (s.member g i) qd (s.chan i) ∧
        (dutyStep g qd s).member g i = s.member g i := by
    obtain ⟨x, before, -, at_, after⟩ := turns i ((State.mem_members s g i).mpr hi)
    have record : dutyChan (x.grp g) (x.member g i) qd (x.chan i) = dutyChan (s.grp g) (s.member g i) qd (s.chan i) := by
      rw [at_.1, at_.2, before.record]; rfl
    refine ⟨after.1.trans ?_, after.2.trans ?_⟩
    · rw [dutyFor_eq, record]; simp
    · rw [dutyFor_eq]; exact at_.2
  refine ⟨only, fun i => ?_, fun i hi => (turn i hi).1⟩
  by_cases hi : (s.chan i).group = some g
  · exact (turn i hi).2
  · exact (same i fun h => hi ((State.mem_members s g i).mp h)).2

/-! ### Step 7 -/

/-- A FIXED member has a trim pause begun in this state (R141). -/
abbrev TrimPauses (r : Group) (m : Member) (c : Chan) : Prop :=
  c.state = .running ∧ m.arrived = false ∧ m.trimPaused = false ∧ (r.windows.trimOn : Int) ≤ m.err

/-- A FIXED member's trim pause ends in this state (R142). -/
abbrev TrimEnds (r : Group) (m : Member) (c : Chan) : Prop :=
  m.trimPaused = true ∧ m.arrived = false ∧ c.state = .parked ∧ m.err ≤ (r.windows.trimOff : Int)

theorem trimOf_of_still (h : ¬((s.grp g).state = .moving ∨ (s.grp g).state = .holding) ∨
    (¬TrimPauses (s.grp g) (s.member g i) (s.chan i) ∧ ¬TrimEnds (s.grp g) (s.member g i) (s.chan i))) :
    trimOf g s i = s := by
  unfold trimOf
  dsimp only
  split
  next hs =>
    obtain ⟨still, rests⟩ := h.resolve_left (not_not.mpr hs)
    rw [if_neg still]
    unfold trimRestart
    dsimp only
    split
    · rfl
    · exact if_neg rests
  next => rfl

theorem trimOf_of_pauses (hs : (s.grp g).state = .moving ∨ (s.grp g).state = .holding)
    (h : TrimPauses (s.grp g) (s.member g i) (s.chan i)) :
    trimOf g s i = (s.modMember g i fun m => { m with trimPaused := true }).setChan i
      (chanStop s.timebase .controlled (s.chan i)) := by
  unfold trimOf
  dsimp only
  rw [if_pos hs, if_pos h]
  rfl

theorem trimOf_of_ends (hs : (s.grp g).state = .moving ∨ (s.grp g).state = .holding)
    (h : TrimEnds (s.grp g) (s.member g i) (s.chan i)) (hp : (s.member g i).plan = some p) :
    trimOf g s i = startTry i p.dir (s.modMember g i fun m => { m with trimPaused := false }) := by
  have still : ¬TrimPauses (s.grp g) (s.member g i) (s.chan i) := fun k =>
    absurd (k.1.symm.trans h.2.2.1) (by simp)
  unfold trimOf
  dsimp only
  rw [if_pos hs, if_neg still]
  unfold trimRestart
  dsimp only
  simp only [hp]
  rw [if_pos h]
  exact (startRequest_cases _ i p.dir).1 h.2.2.1

/-- A start tried on a channel whose hard limit switches are closed writes that channel's record alone. -/
theorem startTry_of_closed {d : Dir} (hc : (s.chan i).upperOpen = false ∧ (s.chan i).lowerOpen = false) :
    ∃ c, ChanKept (s.chan i) c ∧ startTry i d s = s.setChan i c := by
  have closed : limitOpen (s.chan i) d = false := by cases d <;> simp [limitOpen, hc]
  rcases startTry_cases s i d with ⟨-, h⟩ | ⟨hl, h⟩ | ⟨-, h⟩ | ⟨-, -, -, -, h⟩
  · exact ⟨_, chanKept_startPending _ _, h⟩
  · simp [closed] at hl
  · exact ⟨_, chanKept_startPending _ _, h⟩
  · exact ⟨_, chanEnterStarting_kept _ _ _, h⟩

/-- Step 7 on one member writes its record and its trim-paused flag. -/
theorem trimOf_writes (hc : (s.chan i).upperOpen = false ∧ (s.chan i).lowerOpen = false) :
    ∃ b c, ChanKept (s.chan i) c ∧ trimOf g s i = (s.modMember g i fun m => { m with trimPaused := b }).setChan i c := by
  have none_ (h : trimOf g s i = s) :
      ∃ b c, ChanKept (s.chan i) c ∧ trimOf g s i = (s.modMember g i fun m => { m with trimPaused := b }).setChan i c := by
    refine ⟨(s.member g i).trimPaused, s.chan i, .rfl' _, ?_⟩
    have same : (s.grp g).prof.members.set i ((s.grp g).prof.members.get i) = (s.grp g).prof.members :=
      Chans.ext_get fun j => by rw [Chans.get_set]; split <;> simp_all
    rw [h, modMember_setChan_self]
    simp only [State.modMember, State.member, State.modGrp_eq, same]
    exact (State.setGrp_grp s g).symm
  by_cases hs : (s.grp g).state = .moving ∨ (s.grp g).state = .holding
  · by_cases hp : TrimPauses (s.grp g) (s.member g i) (s.chan i)
    · exact ⟨true, _, chanStop_kept _ _ _, trimOf_of_pauses hs hp⟩
    · by_cases he : TrimEnds (s.grp g) (s.member g i) (s.chan i)
      · cases hm : (s.member g i).plan with
        | none =>
          refine none_ ?_
          unfold trimOf
          dsimp only
          rw [if_pos hs, if_neg hp]
          unfold trimRestart
          simp only [hm]
        | some p =>
          obtain ⟨c, kept, tried⟩ := startTry_of_closed (d := p.dir)
            (s := s.modMember g i fun m => { m with trimPaused := false }) hc
          exact ⟨false, c, kept, (trimOf_of_ends hs he hm).trans tried⟩
      · exact none_ (trimOf_of_still (.inr ⟨hp, he⟩))
  · exact none_ (trimOf_of_still (.inl hs))

theorem switchesClosed_membersOnly (h : MembersOnly g s t) (hc : SwitchesClosed g s) : SwitchesClosed g t := fun i hi => by
  rw [(h.kept i).upperOpen, (h.kept i).lowerOpen]
  exact hc i (by rw [← (h.kept i).group]; exact hi)

/-- Step 7 over the members, whose hard limit switches are closed: each has its turn. -/
theorem trims_spec (hc : SwitchesClosed g s) :
    let t := (s.members g).foldl (trimOf g) s
    MembersOnly g s t ∧ (∀ i, t.member g i = { s.member g i with trimPaused := (t.member g i).trimPaused }) ∧
      ∀ i, (s.chan i).group = some g → ∃ x, MembersOnly g s x ∧ SameAt g i s x ∧ SameAt g i (trimOf g x i) t := by
  have closed (x : State) (i : Channel) (hx : SwitchesClosed g x) (hi : (x.chan i).group = some g) :
      AtMember g i x (trimOf g x i) := by
    obtain ⟨b, c, kept, made⟩ := trimOf_writes (g := g) (hx i hi)
    rw [made]
    exact (atMember_modMember _).trans (atMember_setChan hi kept)
  obtain ⟨only, same, turns⟩ := turn_members (g := g) (f := trimOf g) (P := SwitchesClosed g)
    (fun x i hx hi => ⟨closed x i hx hi, switchesClosed_membersOnly (closed x i hx hi).only hx⟩) (State.members_nodup s g)
    (fun i hi => (State.mem_members s g i).mp hi) hc
  refine ⟨only, fun i => ?_, fun i hi => ?_⟩
  · by_cases hi : (s.chan i).group = some g
    · obtain ⟨x, -, hx, at_, after⟩ := turns i ((State.mem_members s g i).mpr hi)
      obtain ⟨b, c, -, made⟩ := trimOf_writes (g := g) (hx i (by rw [at_.1]; exact hi))
      have item : (trimOf g x i).member g i = { s.member g i with trimPaused := b } := by
        rw [made, ← at_.2]
        exact (modMember_member (s := x) fun m => { m with trimPaused := b }).trans (if_pos rfl)
      rw [after.2, item]
    · rw [(same i fun h => hi ((State.mem_members s g i).mp h)).2]
  · obtain ⟨x, before, -, at_, after⟩ := turns i ((State.mem_members s g i).mpr hi)
    exact ⟨x, before, at_, after⟩

end Sys2Proof.Machine
end

section
/-! PROOFS. The rest of a group update in MOVING and HOLDING that reports no trip (R125): what steps 1 to 5 leave, the hold and
the release, and the tail of steps 7 to 9. -/

namespace Sys2Proof.Machine

open Sys2Proof.Safety

variable {s t u v w : State} {g : GroupId} {i j : Channel} {fixed : Bool} {e : Time} {p : MemberPlan} {qd : Nat}

/-! ### Steps 1 to 5 -/

/-- What steps 1 to 5 of an update that reports no trip make of `s`: `v`. -/
structure Tested (g : GroupId) (fixed : Bool) (e : Time) (s v : State) : Prop where
  within : Within g s v
  record : v.grp g = { s.grp g with
    updateTimer := startMs e (intervalMs (s.grp g).interval)
    prof := { updProfile g fixed s with members := (v.grp g).prof.members, loadCheck := (v.grp g).prof.loadCheck } }
  member : ∀ i, (s.chan i).group = some g → v.member g i =
    { s.member g i with
      err := updError g fixed s i
      arrived := (s.member g i).arrived || inReach g fixed s i
      trimPaused := (s.member g i).trimPaused && !arrivesNow g fixed s i
      refShare := (v.member g i).refShare
      viol := (v.member g i).viol }
  chan : ∀ i, v.chan i = if arrivesNow g fixed s i then arrivedChan fixed s.timebase (s.chan i) else s.chan i

/-- A decision on the load shares makes the check OFF (R146). -/
theorem decideShares_off (h : ((s.members g).filter (loadValid s)).length < 2 ∨
    loadSum s ((s.members g).filter (loadValid s)) < 50) :
    decideShares g s = s.modProf g fun pr => { pr with loadCheck := .off } := if_pos h

/-- A decision on the load shares makes the references (R146). -/
theorem decideShares_on (h : ¬(((s.members g).filter (loadValid s)).length < 2 ∨
    loadSum s ((s.members g).filter (loadValid s)) < 50)) :
    decideShares g s = s.modProf g fun pr =>
      { pr with
        loadCheck := .on
        members := pr.members.mapIdx fun i m =>
          if ((s.members g).filter (loadValid s)).contains i then
            { m with
              refShare := some (shareOf (s.chan i).load.filtered (loadSum s ((s.members g).filter (loadValid s))))
              viol := 0 }
          else m } := if_neg h

/-- Step 5 writes the load-share check, and of each member its reference share and violation count. -/
theorem loadStep_writes : ∃ l ms, (loadStep g s).1 = s.modProf g (fun pr => { pr with loadCheck := l, members := ms }) ∧
    ∀ i, ms.get i = { s.member g i with refShare := (ms.get i).refShare, viol := (ms.get i).viol } := by
  have same : s = s.modProf g fun pr => { pr with loadCheck := (s.grp g).prof.loadCheck, members := (s.grp g).prof.members } := by
    simp only [State.modProf, State.modGrp_eq]
    exact (State.setGrp_grp s g).symm
  have compared : compareShares g s = s.modProf g fun pr =>
      { pr with loadCheck := (s.grp g).prof.loadCheck, members := ((compareShares g s).grp g).prof.members } := by
    simp [compareShares, State.modProf]
  have counted (i : Channel) : (compareShares g s).member g i =
      { s.member g i with
        refShare := ((compareShares g s).member g i).refShare, viol := ((compareShares g s).member g i).viol } := by
    cases hr : (s.member g i).refShare with
    | none => rw [compareShares_member_none hr]
    | some ref =>
      rw [compareShares_member_some hr]
      split_ifs <;> rfl
  unfold loadStep
  split
  · by_cases hd : ((s.members g).filter (loadValid s)).length < 2 ∨ loadSum s ((s.members g).filter (loadValid s)) < 50
    · exact ⟨.off, (s.grp g).prof.members, decideShares_off hd, fun i => rfl⟩
    · refine ⟨.on, _, decideShares_on hd, fun i => ?_⟩
      rw [Chans.get_mapIdx]
      split <;> rfl
  · exact ⟨_, _, compared, counted⟩
  · exact ⟨_, _, same, fun i => rfl⟩

theorem tested_loadStep (h : StepThree g fixed e s u) : Tested g fixed e s (loadStep g u).1 := by
  obtain ⟨l, ms, written, kept⟩ := loadStep_writes (g := g) (s := u)
  have record : (loadStep g u).1.grp g = { u.grp g with prof := { (u.grp g).prof with loadCheck := l, members := ms } } := by
    rw [written]; simp [State.modProf]
  have item (i : Channel) : (loadStep g u).1.member g i = ms.get i := by rw [State.member, record]
  refine ⟨h.updateKeeps.trans (by rw [written]; exact within_modProf _), ?_, fun i hi => ?_, fun i => ?_⟩
  · rw [record, h.only.record, updateTaken_grp]
  · rw [item, kept i, h.member i hi]
  · rw [← h.chan, written]; rfl

theorem groupUpdate_passes (ht : (s.grp g).updateTimer = some e) (hk : MembersAre g fixed s) (hno : NoTripNow g fixed s)
    (hs : (s.grp g).state = .moving) :
    groupUpdate g s = restMoving g (dutyRate (s.grp g).moveKind (s.grp g).prof (updProfile g fixed s))
      (loadStep g (threeSteps g fixed e s)).1 := by
  have kind := groupFixed_of_membersAre hk
  rw [groupUpdate_moving ht hs kind]
  exact (stepThree kind).passes hno _

theorem groupUpdate_passes_holding (ht : (s.grp g).updateTimer = some e) (hk : MembersAre g fixed s)
    (hno : NoTripNow g fixed s) (hs : (s.grp g).state = .holding) :
    groupUpdate g s = restHolding g (loadStep g (threeSteps g fixed e s)).1 := by
  rw [groupUpdate_holding ht hs]
  exact (stepThree (groupFixed_of_membersAre hk)).passes hno _

theorem tested_threeSteps (hk : MembersAre g fixed s) :
    Tested g fixed e s (loadStep g (threeSteps g fixed e s)).1 :=
  tested_loadStep (stepThree (groupFixed_of_membersAre hk))

section Tested

variable (h : Tested g fixed e s v)
include h

theorem Tested.group (i : Channel) : (v.chan i).group = (s.chan i).group := (h.within.kept i).group

theorem Tested.notArrived (i : Channel) : notArrived g v i = stillAway g fixed s i := by
  by_cases hi : (s.chan i).group = some g
  · have member : (v.grp g).prof.members.get i = _ := h.member i hi
    unfold stillAway Safety.notArrived
    rw [h.group, member]
    simp [hi, State.member, Bool.not_or]
  · simp [stillAway, Safety.notArrived, h.group, hi]

theorem Tested.err (hi : stillAway g fixed s i = true) : (v.member g i).err = updError g fixed s i := by
  have member : (s.chan i).group = some g := by
    simp only [stillAway, Safety.notArrived, Bool.and_eq_true, decide_eq_true_eq] at hi
    exact hi.1.1
  rw [h.member i member]

theorem Tested.windows : (v.grp g).windows = (s.grp g).windows := by rw [h.record]

theorem Tested.atBound : atBound (v.grp g) = true ↔ AtJogBound g fixed s := by
  unfold Machine.atBound
  rw [h.record]
  cases hm : (s.grp g).moveKind <;> simp [AtJogBound, hm]

theorem Tested.holdDue : holdDue g v = true ↔ ∃ j, holdsNow g fixed s j = true := by
  unfold Machine.holdDue
  rw [List.any_eq_true, h.windows]
  simp only [live_eq, List.mem_filter, mem_channels, true_and, h.notArrived, decide_eq_true_eq, holdsNow, Bool.and_eq_true]
  exact exists_congr fun i => and_congr_right fun hi => by rw [h.err hi]

theorem Tested.releaseDue : releaseDue g v = true ↔ ∀ j, waitsNow g fixed s j = false := by
  unfold Machine.releaseDue
  rw [List.all_eq_true, h.windows]
  simp only [live_eq, List.mem_filter, mem_channels, true_and, h.notArrived, decide_eq_true_eq]
  refine forall_congr' fun i => ?_
  unfold waitsNow
  cases hi : stillAway g fixed s i with
  | false => simp
  | true => rw [h.err hi]; simp

end Tested

/-! ### Steps 7 to 9 -/

/-- Step 7 of a FIXED group, step 8 of a VARIABLE one. -/
def driven (g : GroupId) (fixed : Bool) (qd : Nat) (s : State) : State :=
  if fixed then (s.members g).foldl (trimOf g) s else dutyStep g qd s

theorem driven_only (hc : fixed = true → SwitchesClosed g s) : MembersOnly g s (driven g fixed qd s) := by
  unfold driven
  split
  next h => exact (trims_spec (hc h)).1
  next => exact dutyStep_spec.1

/-- Of a member's items, steps 7 and 8 write the trim-paused flag alone. -/
theorem driven_member (hc : fixed = true → SwitchesClosed g s) (i : Channel) :
    (driven g fixed qd s).member g i =
      { s.member g i with trimPaused := ((driven g fixed qd s).member g i).trimPaused } := by
  unfold driven
  split
  next h => exact (trims_spec (hc h)).2.1 i
  next => rw [dutyStep_spec.2.1]

theorem driven_variable (hi : (s.chan i).group = some g) :
    (driven g false qd s).chan i = dutyChan (s.grp g) (s.member g i) qd (s.chan i) ∧
      (driven g false qd s).member g i = s.member g i :=
  ⟨dutyStep_spec.2.2 i hi, dutyStep_spec.2.1 i⟩

/-- A FIXED member has its turn at step 7 as it stands. -/
theorem driven_fixed (hc : SwitchesClosed g s) (hi : (s.chan i).group = some g) :
    ∃ x, MembersOnly g s x ∧ SameAt g i s x ∧ SameAt g i (trimOf g x i) (driven g true qd s) := (trims_spec hc).2.2 i hi

theorem driven_fixed_still (hc : SwitchesClosed g s) (hi : (s.chan i).group = some g)
    (h : ¬((s.grp g).state = .moving ∨ (s.grp g).state = .holding) ∨
      (¬TrimPauses (s.grp g) (s.member g i) (s.chan i) ∧ ¬TrimEnds (s.grp g) (s.member g i) (s.chan i))) :
    SameAt g i s (driven g true qd s) := by
  obtain ⟨x, before, at_, after⟩ := driven_fixed (qd := qd) hc hi
  have still : trimOf g x i = x := trimOf_of_still (by rw [at_.1, at_.2, before.record]; exact h)
  rw [still] at after
  exact sameAt_trans at_ after

theorem driven_fixed_pauses (hc : SwitchesClosed g s) (hi : (s.chan i).group = some g)
    (hs : (s.grp g).state = .moving ∨ (s.grp g).state = .holding)
    (h : TrimPauses (s.grp g) (s.member g i) (s.chan i)) :
    (driven g true qd s).chan i = chanStop s.timebase .controlled (s.chan i) ∧
      ((driven g true qd s).member g i).trimPaused = true := by
  obtain ⟨x, before, at_, after⟩ := driven_fixed (qd := qd) hc hi
  have pauses := trimOf_of_pauses (s := x) (g := g) (i := i) (by rw [before.record]; exact hs)
    (by rw [at_.1, at_.2, before.record]; exact h)
  rw [after.1, after.2, pauses, before.timebase, at_.1]
  refine ⟨by simp, ?_⟩
  rw [show ∀ c, ((x.modMember g i fun m => { m with trimPaused := true }).setChan i c).member g i =
    (x.modMember g i fun m => { m with trimPaused := true }).member g i from fun _ => rfl, modMember_member, if_pos rfl]

/-- A trim pause ends: where the start is not held off the member has entered STARTING in the direction of its plan (R142). -/
theorem driven_fixed_ends (hc : SwitchesClosed g s) (hi : (s.chan i).group = some g)
    (hs : (s.grp g).state = .moving ∨ (s.grp g).state = .holding)
    (h : TrimEnds (s.grp g) (s.member g i) (s.chan i)) (hp : (s.member g i).plan = some p) :
    ((driven g true qd s).member g i).trimPaused = false ∧
      (s.stops.estop = .clear → s.stops.monitor ≠ .low → s.supply.state = .on → (s.chan i).lastDir = some p.dir →
        ((driven g true qd s).chan i).state = .starting ∧ ((driven g true qd s).chan i).lastDir = some p.dir) := by
  obtain ⟨x, before, at_, after⟩ := driven_fixed (qd := qd) hc hi
  set y := x.modMember g i fun m => { m with trimPaused := false } with hy
  have ends : trimOf g x i = startTry i p.dir y := trimOf_of_ends (by rw [before.record]; exact hs)
    (by rw [at_.1, at_.2, before.record]; exact h) (by rw [at_.2]; exact hp)
  have chan : y.chan i = s.chan i := at_.1
  obtain ⟨c, -, tried⟩ := startTry_of_closed (d := p.dir) (s := y) (by rw [chan]; exact hc i hi)
  rw [after.1, after.2, ends]
  refine ⟨?_, fun he hm ho hl => ?_⟩
  · rw [tried, show (y.setChan i c).member g i = y.member g i from rfl, hy, modMember_member, if_pos rfl]
  · have stopsSame : y.stops = s.stops := by rw [hy, before.rest]; rfl
    have supply : y.supply = s.supply := by rw [hy, before.rest]; rfl
    have ne : (some p.dir : Option Dir) ≠ some p.dir.opposite := by cases p.dir <;> simp [Dir.opposite]
    obtain ⟨wd, items⟩ := chanEnterStarting_items (now := y.timebase) (d := p.dir) (c := y.chan i)
    have closed := hc i hi
    rw [startTry_of_free (by rw [stopsSame]; simp [he, hm]) (by rw [chan]; cases p.dir <;> simp [limitOpen, closed])
      (by rw [supply, chan, hl]; simp [ho, ne]), items]
    simp

/-- The state after steps 7 to 9, with no completion. -/
def settled (g : GroupId) (s : State) : State :=
  match (s.grp g).moveKind with
  | .jog => s
  | .cue => finishStep g s

theorem settled_chan : (settled g s).chan i = s.chan i := by
  unfold settled
  split
  · rfl
  · unfold finishStep
    dsimp only
    split <;> rfl

/-- Step 9 writes the finish timer alone (R136). -/
theorem settled_eq : ∃ f, settled g s = s.modProf g (fun pr => { pr with finishTimer := f }) ∧
    f = if (s.grp g).moveKind = .cue ∧ ((s.grp g).state = .moving ∨ (s.grp g).state = .holding) ∧
        (s.grp g).prof.p = 65536 ∧ nothingMoves g s = false ∧ (s.grp g).prof.finishTimer = none
      then startMs s.timebase 2000 else (s.grp g).prof.finishTimer := by
  have same : s = s.modProf g fun pr => { pr with finishTimer := (s.grp g).prof.finishTimer } := by
    simp only [State.modProf, State.modGrp_eq]
    exact (State.setGrp_grp s g).symm
  unfold settled
  split
  next hm => exact ⟨_, same, by simp [hm]⟩
  next hm =>
    unfold finishStep
    dsimp only
    split
    next h => exact ⟨_, rfl, (if_pos ⟨hm, h⟩).symm⟩
    next h => exact ⟨_, same, (if_neg fun k => h k.2).symm⟩

/-- The test of completion finds a member not arrived or not PARKED, or a group that is not MOVING. -/
abbrev NotDone (g : GroupId) (s : State) : Prop :=
  (s.grp g).state ≠ .moving ∨
    ∃ j, (s.chan j).group = some g ∧ ((s.member g j).arrived = false ∨ (s.chan j).state ≠ .parked)

theorem completionTest_of_notDone (h : NotDone g s) : completionTest g s = s := by
  unfold completionTest
  dsimp only
  refine if_neg fun ⟨hs, _, ha, hp⟩ => ?_
  rcases h with h | ⟨j, hj, h | h⟩
  · exact h hs
  · have all := List.all_eq_true.mp ha j ((State.mem_members s g j).mpr hj)
    rw [h] at all
    cases all
  · exact h ((s.allParked_iff g).mp hp j hj)

theorem updateTail_of_notDone (hk : s.groupFixed g = fixed) (hc : fixed = true → SwitchesClosed g s)
    (h : NotDone g (driven g fixed qd s)) : updateTail g qd s = settled g (driven g fixed qd s) := by
  have kind : ((driven g fixed qd s).grp g).moveKind = (s.grp g).moveKind := by rw [(driven_only hc).record]
  obtain ⟨f, written, -⟩ := settled_eq (g := g) (s := driven g fixed qd s)
  cases hm : ((driven g fixed qd s).grp g).moveKind with
  | jog =>
    have tail : updateTail g qd s = driven g fixed qd s := by
      unfold updateTail
      rw [hk]
      dsimp only
      split
      next => rfl
      next h => exact absurd (hm.symm.trans h) (by simp)
    rw [tail]; unfold settled; rw [hm]
  | cue =>
    have tail : updateTail g qd s = completionTest g (finishStep g (driven g fixed qd s)) := by
      unfold updateTail
      rw [hk]
      dsimp only
      split
      next h => exact absurd (hm.symm.trans h) (by simp)
      next => rfl
    rw [tail]
    have made : settled g (driven g fixed qd s) = finishStep g (driven g fixed qd s) := by unfold settled; rw [hm]
    rw [made] at written ⊢
    refine completionTest_of_notDone ?_
    rw [written]
    simpa [NotDone, State.modProf, State.member] using h

end Sys2Proof.Machine
end

section
/-! PROOFS. A group update in STARTING and in STOPPING (R125, R130, R145). -/

namespace Sys2Proof.Machine

open Sys2Proof.Safety

variable {s t u v w : State} {g : GroupId} {i j : Channel} {fixed : Bool} {e : Time} {p : MemberPlan} {qd : Nat}
  {pr : Profile}

/-- Step 2 on a member with a plan (R130). -/
theorem formErrors_of_plan (hi : (s.chan i).group = some g) (hp : (s.member g i).plan = some p) :
    (formErrors g s).member g i =
      { s.member g i with
        err := (((s.chan i).position : Int) - commanded (s.grp g).moveKind (s.grp g).prof p) * signOf p.dir } := by
  have inside : s.isMember g i = true := decide_eq_true hi
  rw [formErrors_member, if_pos inside]
  simp only [hp, memberError, signOf_eq]

theorem updateTaken_member (hm : pr.members = (s.grp g).prof.members) :
    (updateTaken g e pr s).member g i = s.member g i := by
  simp [State.member, updateTaken_grp, hm]

/-! ### STARTING -/

/-- Step 8 changes no channel's state. -/
theorem dutyStep_state : ((dutyStep g qd s).chan i).state = (s.chan i).state := by
  obtain ⟨only, -, turn⟩ := dutyStep_spec (s := s) (g := g) (qd := qd)
  by_cases hi : (s.chan i).group = some g
  · rw [turn i hi, dutyChan_gen]
  · rw [only.outside i hi]

theorem updateStarting_spec :
    MembersOnly g s (updateStarting g s) ∧
      (∀ i, (updateStarting g s).member g i = (formErrors g s).member g i) ∧
      ∀ i, ((updateStarting g s).chan i).state = (s.chan i).state := by
  have formed : MembersOnly g s (formErrors g s) := formErrors_only
  unfold updateStarting
  dsimp only
  split
  · exact ⟨formed, fun _ => rfl, fun _ => rfl⟩
  · obtain ⟨only, member, -⟩ := dutyStep_spec (s := formErrors g s) (g := g) (qd := 0)
    exact ⟨formed.trans only, member, fun i => dutyStep_state⟩

/-! ### STOPPING -/

/-- The end of the stop ramp: a RUNNING member gets a controlled stop (R145). -/
def rampEnded (now : Time) (c : Chan) : Chan := if c.state = .running then chanStop now .controlled c else c

theorem stopRunning_eq : stopRunning s i = s.setChan i (rampEnded s.timebase (s.chan i)) := by
  unfold stopRunning rampEnded
  split
  · rfl
  · exact (State.setChan_chan s i).symm

theorem rampEnded_kept {now : Time} {c : Chan} : ChanKept c (rampEnded now c) := by
  unfold rampEnded
  split
  · exact chanStop_kept _ _ _
  · exact .rfl' _

theorem stopRunning_spec :
    let t := (s.members g).foldl stopRunning s
    MembersOnly g s t ∧ (∀ i, t.member g i = s.member g i) ∧
      ∀ i, (s.chan i).group = some g → t.chan i = rampEnded s.timebase (s.chan i) := by
  obtain ⟨only, same, turns⟩ := turn_members (g := g) (f := stopRunning) (P := fun t => MembersOnly g s t)
    (fun x i h hi => by
      rw [stopRunning_eq]
      have one : AtMember g i x _ := atMember_setChan hi (rampEnded_kept (now := x.timebase))
      exact ⟨one, h.trans one.only⟩)
    (State.members_nodup s g) (fun i hi => (State.mem_members s g i).mp hi) .rfl'
  have turn (i : Channel) (hi : (s.chan i).group = some g) := turns i ((State.mem_members s g i).mpr hi)
  refine ⟨only, fun i => ?_, fun i hi => ?_⟩
  · by_cases hi : (s.chan i).group = some g
    · obtain ⟨x, -, -, at_, after⟩ := turn i hi
      rw [after.2, stopRunning_eq]
      exact at_.2
    · exact (same i fun h => hi ((State.mem_members s g i).mp h)).2
  · obtain ⟨x, before, -, at_, after⟩ := turn i hi
    rw [after.1, stopRunning_eq, before.timebase, at_.1]
    simp

theorem rampEnded_not_running {now : Time} {c : Chan} : (rampEnded now c).state ≠ .running := by
  unfold rampEnded
  split
  · exact (chanStop_stops now c .controlled).2
  next h => exact h

/-- The ramp of a STOPPING VARIABLE group and what it makes of the members, before the test of the end of the stop (R145). -/
def ramped (g : GroupId) (e : Time) (s : State) : State :=
  let after := stopRamp (s.grp g).moveKind (s.grp g).prof
  let u := formErrors g (updateTaken g e after s)
  dutyStep g (dutyRate (s.grp g).moveKind (s.grp g).prof after)
    (if after.q = 0 then (u.members g).foldl stopRunning u else u)

theorem updateStopping_variable (hk : s.groupFixed g = false) :
    updateStopping g (updateTaken g e (s.grp g).prof s) = stopTest g (ramped g e s) := by
  have kind : (updateTaken g e (s.grp g).prof s).groupFixed g = false := hk
  have written (x : Profile) : (updateTaken g e (s.grp g).prof s).modProf g (fun _ => x) = updateTaken g e x s := by
    simp [State.modProf, updateTaken]
  unfold updateStopping
  simp only [kind, updateTaken_grp, written]
  rfl

/-- The stop ramp writes the rate, the progress and the displacement alone. -/
theorem stopRamp_eq (mk : MoveKind) : stopRamp mk pr =
    { pr with q := pr.q - pr.a, p := (stopRamp mk pr).p, j := (stopRamp mk pr).j } := by
  unfold stopRamp
  cases mk with
  | cue => rfl
  | jog => rw [advanceBy_jog]

theorem stopRamp_progress (mk : MoveKind) : (stopRamp mk pr).p = if mk = .cue then min 65536 (pr.p + (pr.q - pr.a)) else pr.p := by
  unfold stopRamp
  cases mk with
  | cue => rfl
  | jog => rw [advanceBy_jog]; rfl

theorem stopRamp_displacement (mk : MoveKind) : (stopRamp mk pr).j =
    if mk = .jog then (match pr.jMax with
      | none => pr.j + (pr.q - pr.a)
      | some x => min x (pr.j + (pr.q - pr.a))) else pr.j := by
  unfold stopRamp
  cases mk with
  | cue => rfl
  | jog => rw [advanceBy_jog]; rfl

/-- What the ramp makes of the group and its members. -/
structure Ramped (g : GroupId) (e : Time) (s y : State) : Prop where
  only : MembersOnly g (updateTaken g e (stopRamp (s.grp g).moveKind (s.grp g).prof) s) y
  err : ∀ i p, (s.chan i).group = some g → (s.member g i).plan = some p → y.member g i = { s.member g i with
    err := (((s.chan i).position : Int) -
      commanded (s.grp g).moveKind (stopRamp (s.grp g).moveKind (s.grp g).prof) p) * signOf p.dir }
  slowing : (s.grp g).prof.q - (s.grp g).prof.a ≠ 0 → ∀ i, (s.chan i).group = some g → ∃ m : Member,
    m = y.member g i ∧ y.chan i = dutyChan (s.grp g) m (dutyRate (s.grp g).moveKind (s.grp g).prof
      (stopRamp (s.grp g).moveKind (s.grp g).prof)) (s.chan i)
  ended : (s.grp g).prof.q - (s.grp g).prof.a = 0 → ∀ i, (s.chan i).group = some g →
    y.chan i = rampEnded s.timebase (s.chan i)

theorem ramped_spec : Ramped g e s (ramped g e s) := by
  set after := stopRamp (s.grp g).moveKind (s.grp g).prof with hafter
  have rate : after.q = (s.grp g).prof.q - (s.grp g).prof.a := by rw [hafter, stopRamp_eq]
  have kept : after.members = (s.grp g).prof.members := by rw [hafter, stopRamp_eq]
  set u := formErrors g (updateTaken g e after s) with hu
  set x := if after.q = 0 then (u.members g).foldl stopRunning u else u with hx
  have formed : MembersOnly g (updateTaken g e after s) u := formErrors_only
  obtain ⟨stopped, items, chans⟩ := stopRunning_spec (s := u) (g := g)
  have only : MembersOnly g u x := by
    rw [hx]; split <;> [exact stopped; exact .rfl']
  have member (i : Channel) : x.member g i = u.member g i := by
    rw [hx]; split <;> [exact items i; rfl]
  obtain ⟨driven, same, duty⟩ := dutyStep_spec (s := x) (g := g) (qd := dutyRate (s.grp g).moveKind (s.grp g).prof after)
  have made : ramped g e s = dutyStep g (dutyRate (s.grp g).moveKind (s.grp g).prof after) x := rfl
  have inside (i : Channel) (hi : (s.chan i).group = some g) : (x.chan i).group = some g := by
    rw [(only.kept i).group]; exact hi
  rw [made]
  refine ⟨formed.trans (only.trans driven), fun i p hi hp => ?_, fun hq i hi => ⟨_, rfl, ?_⟩, fun hq i hi => ?_⟩
  · have hp' : ((updateTaken g e after s).member g i).plan = some p := by rw [updateTaken_member kept]; exact hp
    rw [same, member, hu, formErrors_of_plan (s := updateTaken g e after s) hi hp', updateTaken_member kept, updateTaken_grp]
    rfl
  · have still : x = u := by rw [hx, if_neg (by rw [rate]; exact hq)]
    rw [duty i (inside i hi), same, still]
    have record : u.grp g = _ := formed.record
    rw [record, updateTaken_grp]
    rfl
  · have stop : x = (u.members g).foldl stopRunning u := by rw [hx, if_pos (by rw [rate]; exact hq)]
    have chan : x.chan i = rampEnded s.timebase (s.chan i) := by rw [stop]; exact chans i hi
    rw [duty i (inside i hi), dutyChan_of_not_running (by rw [chan]; exact rampEnded_not_running), chan]

/-- The end of a stop, where there is one: nothing differs but the state, the update timer, and what an evaluation of the
pendant writes. -/
theorem stopTest_after (hs : (v.grp g).state = .stopping) :
    ((∃ i, (v.chan i).group = some g ∧ (v.chan i).state ≠ .parked) ∧ stopTest g v = v) ∨
      ((∀ i, (v.chan i).group = some g → (v.chan i).state = .parked) ∧ StopEnded g v (stopTest g v)) := by
  by_cases hall : ∀ i, (v.chan i).group = some g → (v.chan i).state = .parked
  · exact .inr ⟨hall, stopTest_of_parked hs hall⟩
  · obtain ⟨k, hk, hp⟩ : ∃ j, (v.chan j).group = some g ∧ (v.chan j).state ≠ .parked := by simpa using hall
    exact .inl ⟨⟨k, hk, hp⟩, stopTest_of_waiting hk hp⟩

end Sys2Proof.Machine
end

section
/-! PROOFS. The statement of a group update in STARTING and STOPPING. -/

namespace Sys2Proof.Machine

open Sys2Proof.Safety

variable {s t u v w : State} {g : GroupId} {i j : Channel} {fixed : Bool} {e : Time} {p : MemberPlan} {qd : Nat}
  {pr : Profile}

/-- An update in STARTING (R125, R130). -/
theorem update_starting (ht : (s.grp g).updateTimer = some e) (hs : (s.grp g).state = .starting) :
    let t := groupUpdate g s
    (t.grp g).state = .starting ∧
      (t.grp g).updateTimer = some (e + BitVec.ofNat 32 (1000 * intervalMs (s.grp g).interval)) ∧
      (∀ (i : Channel) (m : MemberPlan), (s.chan i).group = some g → ((s.grp g).prof.members.get i).plan = some m →
        ((t.grp g).prof.members.get i).err =
          (((s.chan i).position : Int) - commanded (s.grp g).moveKind (s.grp g).prof m) * signOf m.dir) ∧
      (t.grp g).prof.p = (s.grp g).prof.p ∧ (t.grp g).prof.j = (s.grp g).prof.j ∧
      (∀ i : Channel, (t.chan i).state = (s.chan i).state) ∧ UpdateKeeps g s t := by
  intro t
  set w := updateTaken g e (s.grp g).prof s with hw
  have taken : t = updateStarting g w := by simp only [t]; rw [groupUpdate_eq ht, hs]; rfl
  obtain ⟨only, member, states⟩ := updateStarting_spec (g := g) (s := w)
  rw [taken]
  have record := only.record
  rw [hw, updateTaken_grp, ← hw] at record
  refine ⟨by rw [record]; exact hs, by rw [record]; rfl, fun i m hi hm => ?_, by rw [record], by rw [record], states,
    ((updateTaken_within (pr := (s.grp g).prof)).trans only.within).updateKeeps⟩
  have plan : (w.member g i).plan = some m := by rw [hw, updateTaken_member rfl]; exact hm
  have formed := (member i).trans (formErrors_of_plan hi plan)
  rw [show ((updateStarting g w).grp g).prof.members.get i = (updateStarting g w).member g i from rfl, formed, hw,
    updateTaken_grp]
  rfl

/-- An update in STOPPING of a FIXED group (R125). -/
theorem update_stopping_fixed (ht : (s.grp g).updateTimer = some e) (hs : (s.grp g).state = .stopping)
    (hk : s.groupFixed g = true) :
    groupUpdate g s = formErrors g (updateTaken g e (s.grp g).prof s) := by
  have kind : (updateTaken g e (s.grp g).prof s).groupFixed g = true := hk
  rw [groupUpdate_eq ht, hs]
  unfold updateIn updateStopping
  simp only [kind, if_true]

theorem update_stopping_variable (ht : (s.grp g).updateTimer = some e) (hs : (s.grp g).state = .stopping)
    (hk : s.groupFixed g = false) : groupUpdate g s = stopTest g (ramped g e s) := by
  rw [groupUpdate_eq ht, hs]
  exact updateStopping_variable hk

/-- The state with which a STOPPING update of a VARIABLE group comes to the test of its end, and the outcome of that test. -/
structure RampTaken (g : GroupId) (e : Time) (s y t : State) : Prop where
  ramped : Ramped g e s y
  chan : ∀ i, t.chan i = { y.chan i with holder := (t.chan i).holder, group := (t.chan i).group }
  record : t.grp g = { y.grp g with state := (t.grp g).state, updateTimer := (t.grp g).updateTimer }
  others : ∀ h, h ≠ g → t.grp h = y.grp h
  part : KeepsPart y t
  outside : g ≠ .pendant → ∀ i, (s.chan i).group ≠ some g → t.chan i = y.chan i
  waits : (∃ i, (s.chan i).group = some g ∧ (t.chan i).state ≠ .parked) → t = y
  ends : (∀ i, (s.chan i).group = some g → (t.chan i).state = .parked) → (t.grp g).updateTimer = none ∧
    (t.grp g).state = if g ≠ .pendant ∧ (y.grp g).moveKind = .cue then .paused else .idle
  noticed : ∀ n, g = .console n → (t.grp g).state = .paused → PendingBoth (.group n .paused) t

theorem rampTaken (hs : (s.grp g).state = .stopping) :
    RampTaken g e s (ramped g e s) (stopTest g (ramped g e s)) := by
  have spec : Ramped g e s (ramped g e s) := ramped_spec
  set y := ramped g e s with hy
  have record := spec.only.record
  rw [updateTaken_grp] at record
  have state : (y.grp g).state = .stopping := by rw [record]; exact hs
  have grouped (i : Channel) : (y.chan i).group = (s.chan i).group := (spec.only.kept i).group
  have outside (hg : g ≠ .pendant) (i : Channel) (hi : (s.chan i).group ≠ some g) : (stopTest g y).chan i = y.chan i := by
    cases g with
    | pendant => exact absurd rfl hg
    | console n => exact within_stopTest_console.outside i (by rw [grouped]; exact hi)
  rcases stopTest_after state with ⟨⟨j, hj, hp⟩, same⟩ | ⟨hall, ended⟩
  · rw [same] at outside ⊢
    refine ⟨spec, fun _ => rfl, rfl, fun _ _ => rfl, keepsPart_of_records _ _, outside, fun _ => rfl, fun hall => ?_,
      fun n _ hp => by simp [state] at hp⟩
    exact absurd (hall j ((grouped j).symm.trans hj)) hp
  · have parked (i : Channel) (hi : (s.chan i).group = some g) : ((stopTest g y).chan i).state = .parked := by
      rw [ended.chans]; exact hall i ((grouped i).trans hi)
    refine ⟨spec, ended.chans, by rw [ended.record], ended.others, ended.part, outside,
      fun ⟨j, hj, hp⟩ => absurd (parked j hj) hp, fun _ => ?_, ended.noticed⟩
    rw [ended.record]
    exact ⟨rfl, rfl⟩

section Ramp

variable {y : State} (h : RampTaken g e s y t)
include h

theorem RampTaken.state (i : Channel) : (t.chan i).state = (y.chan i).state := by rw [h.chan]

theorem RampTaken.kept (i : Channel) : KeepsStored (s.chan i) (t.chan i) ∧ (t.chan i).position = (s.chan i).position := by
  obtain ⟨stored, -, position⟩ := (h.ramped.only.kept i).stored
  rw [h.chan]
  exact ⟨stored, position⟩

/-- The record but for the state, the update timer and the members' items. -/
theorem RampTaken.group : t.grp g = { s.grp g with
    state := (t.grp g).state, updateTimer := (t.grp g).updateTimer
    prof := { stopRamp (s.grp g).moveKind (s.grp g).prof with members := (y.grp g).prof.members } } := by
  have record := h.ramped.only.record
  rw [updateTaken_grp] at record
  rw [h.record, record]

theorem RampTaken.waiting (hs : (s.grp g).state = .stopping)
    (hw : ∃ i, (s.chan i).group = some g ∧ (t.chan i).state ≠ .parked) :
    (t.grp g).state = .stopping ∧ (t.grp g).updateTimer = startMs e (intervalMs (s.grp g).interval) ∧
      t.notices = s.notices := by
  have same := h.waits hw
  subst same
  have record := h.ramped.only.record
  rw [updateTaken_grp] at record
  refine ⟨by rw [record]; exact hs, by rw [record], ?_⟩
  rw [h.ramped.only.rest]
  rfl

end Ramp

/-- The rate of the duties is 0 in an update of a cue that began at the end of its progress (R131). -/
theorem dutyRate_eq (mk : MoveKind) (after : Profile) :
    dutyRate mk pr after = if mk = .cue ∧ pr.p = 65536 then 0 else after.q := by
  cases mk with
  | cue => simp only [true_and]; rfl
  | jog => exact (if_neg fun h => nomatch h.1).symm

end Sys2Proof.Machine
end

section
/-! PROOFS. The whole of a group update in STOPPING, as the statement has it (R125, R130, R145). -/

namespace Sys2Proof.Machine

open Sys2Proof.Safety

variable {s t u v w : State} {g : GroupId} {i j : Channel} {fixed : Bool} {e : Time} {p : MemberPlan} {qd : Nat}
  {pr : Profile}

/-- What an update in STOPPING of a VARIABLE group leaves of its members. -/
theorem rampTaken_members {y : State} (h : RampTaken g e s y t) (hk : MembersAre g false s) :
    let r := s.grp g
    let q := r.prof.q - r.prof.a
    (q ≠ 0 → ∀ i : Channel, (t.chan i).state = (s.chan i).state) ∧
      (q = 0 → ∀ i : Channel, (s.chan i).group = some g →
        (t.chan i).state ≠ .running ∧ (StopTakesTime (s.chan i) → (t.chan i).state = .stopping .controlled) ∧
        ((s.chan i).state ≠ .running → (t.chan i).state = (s.chan i).state)) ∧
      (q ≠ 0 → ∀ (i : Channel) (m : MemberPlan), (s.chan i).group = some g → (s.chan i).state = .running →
        (r.prof.members.get i).arrived = false → (r.prof.members.get i).plan = some m →
        let rate := if r.moveKind = .cue ∧ r.prof.p = 65536 then 0 else q
        let delta := intervalMs r.interval
        let ff := match r.moveKind with
          | .cue => m.dist * rate * 1000 * 255 / (65536 * delta * (s.chan i).cfg.ratedSpeed)
          | .jog => rate * 1000 * 255 / (delta * (s.chan i).cfg.ratedSpeed)
        let err := ((t.grp g).prof.members.get i).err
        let corr := err.natAbs * (s.chan i).cfg.gainK / 16
        (t.chan i).gen.pendingDuty =
          some (max 0 (min 255 (if err < 0 then (ff : Int) + corr
            else if 0 < err then (ff : Int) - corr else ff))).toNat) := by
  intro r q
  refine ⟨fun hq i => ?_, fun hq i hi => ?_, fun hq i m hi hr ha hp => ?_⟩
  · rw [h.state]
    by_cases hi : (s.chan i).group = some g
    · obtain ⟨_, -, duty⟩ := h.ramped.slowing hq i hi
      rw [duty, dutyChan_gen]
    · rw [h.ramped.only.outside i hi]; rfl
  · rw [h.state, h.ramped.ended hq i hi]
    refine ⟨rampEnded_not_running, fun ht => ?_, fun hn => by rw [rampEnded, if_neg hn]⟩
    obtain ⟨confirm, begun, takes⟩ := stopBegun_of_running (now := s.timebase) ht.1 .controlled
    rw [rampEnded, if_pos ht.1]
    exact begun.confirming (takes ht)
  · obtain ⟨x, hx, duty⟩ := h.ramped.slowing hq i hi
    have item := h.ramped.err i m hi hp
    have same : (t.grp g).prof.members.get i = x := by rw [h.group, hx]; rfl
    have pending : (t.chan i).gen.pendingDuty = (y.chan i).gen.pendingDuty := by rw [h.chan]
    rw [pending, duty, same, dutyRate_eq, stopRamp_eq]
    exact dutyChan_pendingDuty (by rw [hx, item]; exact ha) hr (hk.2 i hi) (by rw [hx, item]; exact hp)

/-- An update in STOPPING (R125, R145). -/
theorem update_stopping (ht : (s.grp g).updateTimer = some e) (hs : (s.grp g).state = .stopping) (hk : MembersAre g fixed s) :
    let r := s.grp g
    let q := if fixed then r.prof.q else r.prof.q - r.prof.a
    let next : Timer := some (e + BitVec.ofNat 32 (1000 * intervalMs r.interval))
    let t := groupUpdate g s
    (t.grp g).prof.q = q ∧ (t.grp g).prof.phase = r.prof.phase ∧
      (t.grp g).prof.p = (if fixed = false ∧ r.moveKind = .cue then min 65536 (r.prof.p + q) else r.prof.p) ∧
      (t.grp g).prof.j =
        (if fixed = false ∧ r.moveKind = .jog then
          (match r.prof.jMax with
           | none => r.prof.j + q
           | some x => min x (r.prof.j + q))
        else r.prof.j) ∧
      (∀ (i : Channel) (m : MemberPlan), (s.chan i).group = some g → (r.prof.members.get i).plan = some m →
        ((t.grp g).prof.members.get i).err =
          (((s.chan i).position : Int) - commanded r.moveKind (t.grp g).prof m) * signOf m.dir) ∧
      (fixed = true → (t.grp g).state = .stopping ∧ (t.grp g).updateTimer = next ∧ t.chans = s.chans ∧
        t.notices = s.notices) := by
  intro r q next t
  cases fixed with
  | true =>
    have made : t = formErrors g (updateTaken g e (s.grp g).prof s) := update_stopping_fixed ht hs (groupFixed_of_membersAre hk)
    have formed : MembersOnly g (updateTaken g e (s.grp g).prof s) t := by rw [made]; exact formErrors_only
    have record := formed.record
    rw [updateTaken_grp] at record
    refine ⟨by rw [record]; rfl, by rw [record], by rw [record]; simp [r], by rw [record]; simp [r], fun i m hi hm => ?_, fun _ =>
      ⟨by rw [record]; exact hs, by rw [record]; rfl, by rw [made]; rfl, by rw [made]; rfl⟩⟩
    have item := formErrors_of_plan (s := updateTaken g e (s.grp g).prof s) (g := g) (i := i) (p := m) hi
      (by rw [updateTaken_member rfl]; exact hm)
    rw [← made] at item
    rw [show (t.grp g).prof.members.get i = t.member g i from rfl, item, record, updateTaken_grp]
    rfl
  | false =>
    have made : t = stopTest g (ramped g e s) := update_stopping_variable ht hs (groupFixed_of_membersAre hk)
    have taken : RampTaken g e s (ramped g e s) t := by rw [made]; exact rampTaken hs
    have group := taken.group
    refine ⟨by rw [group, stopRamp_eq]; rfl, by rw [group, stopRamp_eq], ?_, ?_, fun i m hi hm => ?_, fun h => nomatch h⟩
    · rw [group]
      show (stopRamp _ _).p = _
      rw [stopRamp_progress]
      simp only [true_and]
      rfl
    · rw [group]
      show (stopRamp _ _).j = _
      rw [stopRamp_displacement]
      simp only [true_and]
      rfl
    · have item : (t.grp g).prof.members.get i = (ramped g e s).member g i := by rw [group]; rfl
      rw [item, taken.ramped.err i m hi hm, group]
      rfl

end Sys2Proof.Machine
end

section
/-! PROOFS. The rest of a group update in MOVING and HOLDING: what follows step 5 where the group goes on, holds, is released
or is stopped at the bound of a jog (R138, R139, R144). -/

namespace Sys2Proof.Machine

open Sys2Proof.Safety

variable {s t u v w : State} {g : GroupId} {i j : Channel} {fixed : Bool} {e : Time} {p : MemberPlan} {qd : Nat}

/-- The state after steps 1 to 5. -/
def testsPassed (g : GroupId) (fixed : Bool) (e : Time) (s : State) : State := (loadStep g (threeSteps g fixed e s)).1

/-! ### The group goes on, holds or is released -/

/-- Step 6 has written at most the state of the group, its rate, its phase and its hold timer. -/
structure Resumed (g : GroupId) (v w : State) : Prop where
  rest : w = { v with groups := w.groups }
  groups : ∀ h, h ≠ g → w.grp h = v.grp h
  moves : (w.grp g).state = .moving ∨ (w.grp g).state = .holding
  record : w.grp g = { v.grp g with
    state := (w.grp g).state
    prof := { (v.grp g).prof with
      q := (w.grp g).prof.q, phase := (w.grp g).prof.phase, holdTimer := (w.grp g).prof.holdTimer } }

theorem Resumed.chan (h : Resumed g v w) (i : Channel) : w.chan i = v.chan i := by rw [h.rest]; rfl

theorem Resumed.member (h : Resumed g v w) (i : Channel) : w.member g i = v.member g i := by
  unfold State.member; rw [h.record]

theorem Resumed.within (h : Resumed g v w) : Within g v w :=
  ⟨h.groups, fun i _ => h.chan i, fun i => by rw [h.chan]; exact .rfl' _, by rw [h.rest]; exact keepsPart_of_records _ _⟩

theorem resumed_self (hs : (v.grp g).state = .moving ∨ (v.grp g).state = .holding) : Resumed g v v :=
  ⟨rfl, fun _ _ => rfl, hs, rfl⟩

theorem resumed_enterHolding : Resumed g v (enterHolding g v) := by
  refine ⟨rfl, fun h hh => ?_, .inr ?_, ?_⟩ <;> simp [enterHolding]
  exact fun e => absurd e hh

theorem resumed_releaseGroup : Resumed g v (releaseGroup g v) := by
  refine ⟨rfl, fun h hh => ?_, .inl ?_, ?_⟩ <;> simp [releaseGroup]
  exact fun e => absurd e hh

section Paths

variable (ht : (s.grp g).updateTimer = some e) (hk : MembersAre g fixed s) (hno : NoTripNow g fixed s)
include ht hk hno

theorem update_bound (hs : (s.grp g).state = .moving) (hb : AtJogBound g fixed s) :
    groupUpdate g s = updateTail g (dutyRate (s.grp g).moveKind (s.grp g).prof (updProfile g fixed s))
      (controlledStop g (testsPassed g fixed e s)) := by
  rw [groupUpdate_passes ht hk hno hs]
  exact if_pos ((tested_threeSteps hk).atBound.mpr hb)

theorem update_holds (hs : (s.grp g).state = .moving) (hb : ¬AtJogBound g fixed s)
    (hh : ∃ j, holdsNow g fixed s j = true) :
    groupUpdate g s = updateTail g 0 (enterHolding g (testsPassed g fixed e s)) := by
  rw [groupUpdate_passes ht hk hno hs]
  exact (if_neg (mt (tested_threeSteps hk).atBound.mp hb)).trans (if_pos ((tested_threeSteps hk).holdDue.mpr hh))

theorem update_goes_on (hs : (s.grp g).state = .moving) (hb : ¬AtJogBound g fixed s)
    (hh : ¬∃ j, holdsNow g fixed s j = true) :
    groupUpdate g s = updateTail g (dutyRate (s.grp g).moveKind (s.grp g).prof (updProfile g fixed s))
      (testsPassed g fixed e s) := by
  rw [groupUpdate_passes ht hk hno hs]
  exact (if_neg (mt (tested_threeSteps hk).atBound.mp hb)).trans (if_neg (mt (tested_threeSteps hk).holdDue.mp hh))

theorem update_releases (hs : (s.grp g).state = .holding) (hw : ∀ j, waitsNow g fixed s j = false) :
    groupUpdate g s = updateTail g 0 (releaseGroup g (testsPassed g fixed e s)) := by
  rw [groupUpdate_passes_holding ht hk hno hs]
  exact congrArg (updateTail g 0) (if_pos ((tested_threeSteps hk).releaseDue.mpr hw))

theorem update_waits (hs : (s.grp g).state = .holding) (hw : ¬∀ j, waitsNow g fixed s j = false) :
    groupUpdate g s = updateTail g 0 (testsPassed g fixed e s) := by
  rw [groupUpdate_passes_holding ht hk hno hs]
  exact congrArg (updateTail g 0) (if_neg (mt (tested_threeSteps hk).releaseDue.mp hw))

/-- Where it is not stopped at the bound of a jog, the group comes to step 7 with its members as step 5 left them, and the rate of
the duties is 0 but for a group that goes on (R131). -/
theorem update_resumes (hs : (s.grp g).state = .moving ∨ (s.grp g).state = .holding)
    (hb : ¬((s.grp g).state = .moving ∧ AtJogBound g fixed s)) :
    ∃ w qd, Resumed g (testsPassed g fixed e s) w ∧ groupUpdate g s = updateTail g qd w ∧
      qd = if (s.grp g).state = .holding ∨
          ((s.grp g).state = .moving ∧ ¬AtJogBound g fixed s ∧ ∃ j, holdsNow g fixed s j = true) ∨
          ((s.grp g).moveKind = .cue ∧ (s.grp g).prof.p = 65536) then 0 else (updProfile g fixed s).q := by
  have state : ((testsPassed g fixed e s).grp g).state = (s.grp g).state := by
    have record := (tested_threeSteps (e := e) hk).record
    rw [testsPassed, record]
  rcases hs with hs | hs
  · have bound : ¬AtJogBound g fixed s := fun h => hb ⟨hs, h⟩
    by_cases hh : ∃ j, holdsNow g fixed s j = true
    · exact ⟨_, _, resumed_enterHolding, update_holds ht hk hno hs bound hh, (if_pos (.inr (.inl ⟨hs, bound, hh⟩))).symm⟩
    · refine ⟨_, _, resumed_self (.inl (state.trans hs)), update_goes_on ht hk hno hs bound hh, ?_⟩
      rw [dutyRate_eq]
      by_cases hc : (s.grp g).moveKind = .cue ∧ (s.grp g).prof.p = 65536
      · exact (if_pos hc).trans (if_pos (.inr (.inr hc))).symm
      · refine (if_neg hc).trans (if_neg ?_).symm
        rintro (h | h | h)
        · simp [hs] at h
        · exact hh h.2.2
        · exact hc h
  · by_cases hw : ∀ j, waitsNow g fixed s j = false
    · exact ⟨_, _, resumed_releaseGroup, update_releases ht hk hno hs hw, (if_pos (.inl hs)).symm⟩
    · exact ⟨_, _, resumed_self (.inr (state.trans hs)), update_waits ht hk hno hs hw, (if_pos (.inl hs)).symm⟩

end Paths

/-! ### The tail -/

/-- What steps 7 to 9 make of the state `w` that step 6 left, where no completion follows: `t`. -/
structure TailMade (g : GroupId) (fixed : Bool) (qd : Nat) (w t : State) : Prop where
  within : Within g w t
  record : t.grp g = { w.grp g with
    prof := { (w.grp g).prof with
      members := (t.grp g).prof.members, finishTimer := (t.grp g).prof.finishTimer } }
  finish : (t.grp g).prof.finishTimer =
    if (w.grp g).moveKind = .cue ∧ (w.grp g).prof.p = 65536 ∧ nothingMoves g (driven g fixed qd w) = false ∧
        (w.grp g).prof.finishTimer = none
    then startMs w.timebase 2000 else (w.grp g).prof.finishTimer
  member : ∀ i, t.member g i = { w.member g i with trimPaused := (t.member g i).trimPaused }
  driven : ∀ i, SameAt g i (driven g fixed qd w) t

theorem tailMade (hk : w.groupFixed g = fixed) (hc : fixed = true → SwitchesClosed g w)
    (hs : (w.grp g).state = .moving ∨ (w.grp g).state = .holding) (hn : NotDone g (driven g fixed qd w)) :
    TailMade g fixed qd w (updateTail g qd w) := by
  have only : MembersOnly g w (Machine.driven g fixed qd w) := driven_only hc
  rw [updateTail_of_notDone hk hc hn]
  obtain ⟨f, written, hf⟩ := settled_eq (g := g) (s := Machine.driven g fixed qd w)
  have record : (settled g (Machine.driven g fixed qd w)).grp g =
      { (Machine.driven g fixed qd w).grp g with
        prof := { ((Machine.driven g fixed qd w).grp g).prof with finishTimer := f } } := by
    rw [written]; simp [State.modProf]
  have same (i : Channel) : SameAt g i (Machine.driven g fixed qd w) (settled g (Machine.driven g fixed qd w)) := by
    refine ⟨settled_chan, ?_⟩
    unfold State.member
    rw [record]
  refine ⟨only.within.trans (by rw [written]; exact within_modProf _), ?_, ?_, fun i => ?_, same⟩
  · rw [record, only.record]
  · rw [record, show ∀ x : Group, ({ x with prof := { x.prof with finishTimer := f } } : Group).prof.finishTimer = f from
      fun _ => rfl, hf, only.record, only.timebase]
    simp only [hs, true_and]
  · rw [(same i).2, driven_member hc i]

/-- A member that is not arrived keeps the test of completion from passing. -/
theorem notDone_of_away (h : Tested g fixed e s v) (hr : Resumed g v w) (hc : fixed = true → SwitchesClosed g w)
    (hj : ∃ j, stillAway g fixed s j = true) : NotDone g (driven g fixed qd w) := by
  obtain ⟨j, hj⟩ := hj
  have away : notArrived g v j = true := by rw [h.notArrived]; exact hj
  simp only [notArrived, Bool.and_eq_true, decide_eq_true_eq, Bool.not_eq_true'] at away
  obtain ⟨hg, ha⟩ := away
  have only : MembersOnly g w (driven g fixed qd w) := driven_only hc
  refine .inr ⟨j, ?_, .inl ?_⟩
  · rw [(only.kept j).group, hr.chan]; exact hg
  · rw [driven_member hc j, hr.member]; exact ha

theorem groupFixed_congr (hg : ∀ i, (t.chan i).group = (s.chan i).group) (hk : ∀ i, (t.chan i).cfg = (s.chan i).cfg) :
    t.groupFixed g = s.groupFixed g := by
  have members : t.members g = s.members g := State.members_congr g hg
  unfold State.groupFixed State.groupKind
  rw [members]
  cases (s.members g).head? <;> simp [hk]

/-! ### A stop at the bound of a jog -/

theorem trims_of_stopped (hs : ¬((s.grp g).state = .moving ∨ (s.grp g).state = .holding)) (l : List Channel) :
    l.foldl (trimOf g) s = s := by
  induction l with
  | nil => rfl
  | cons i l ih => rw [List.foldl_cons, trimOf_of_still (.inl hs), ih]

/-- The tail of an update of a jog that has been stopped at its bound writes duties alone (log entry 18). -/
theorem updateTail_of_stopped (hs : ¬((w.grp g).state = .moving ∨ (w.grp g).state = .holding))
    (hm : (w.grp g).moveKind = .jog) :
    updateTail g qd w = if w.groupFixed g then w else dutyStep g qd w := by
  have kind : ((dutyStep g qd w).grp g).moveKind = .jog := by rw [dutyStep_spec.1.record]; exact hm
  unfold updateTail
  cases w.groupFixed g with
  | true =>
    simp only [if_true, trims_of_stopped hs]
    split
    · rfl
    next h => rw [hm] at h; cases h
  | false =>
    simp only [Bool.false_eq_true, if_false]
    split
    · rfl
    next h => rw [kind] at h; cases h

/-- A controlled stop leaves the profile record but for its phase and its two timers. -/
theorem controlledStop_prof (hs : (s.grp g).state.stoppable = true) :
    (controlledStop g s).grp g = { stoppingRecord (s.grp g) with
      state := ((controlledStop g s).grp g).state, updateTimer := ((controlledStop g s).grp g).updateTimer } := by
  have record : (stopEntered g s).grp g = stoppingRecord (s.grp g) := stopEntered_grp
  rw [controlledStop_eq hs]
  rcases stopTest_after (g := g) (v := stopEntered g s) (by rw [record]; rfl) with ⟨-, same⟩ | ⟨-, ended⟩
  · rw [same, record]
  · rw [ended.record, record]

end Sys2Proof.Machine
end

section
/-! PROOFS. The statement of what an update of a group forms, stops, trims and counts. -/

namespace Sys2Proof.Machine

open Sys2Proof.Safety

variable {s t u v w : State} {g : GroupId} {i j : Channel} {fixed : Bool} {e : Time} {p : MemberPlan} {qd : Nat}
  {c : Chan} {now : Time}

/-! ### The load shares after step 5 -/

/-- The decision at the first update in MOVING, in the terms of the statements (R146). -/
theorem StepThree.taken (h : StepThree g fixed e s u) : (u.members g).filter (loadValid u) = channels.filter (loadTaken g s) := by
  unfold State.members
  rw [List.filter_filter]
  refine List.filter_congr fun i _ => ?_
  simp [State.isMember, h.group, loadValid, h.load, loadTaken, Bool.and_comm]

theorem testsPassed_of_on (hk : MembersAre g fixed s) (hon : (s.grp g).prof.loadCheck = .on) :
    ((testsPassed g fixed e s).grp g).prof.loadCheck = .on ∧
      ∀ i, (s.chan i).group = some g → (s.member g i).refShare.isSome →
        ((testsPassed g fixed e s).member g i).refShare = (s.member g i).refShare ∧
        ((testsPassed g fixed e s).member g i).viol = nextViol g s i := by
  have three : StepThree g fixed e s (threeSteps g fixed e s) := stepThree (groupFixed_of_membersAre hk)
  set u := threeSteps g fixed e s with hu
  have check : (u.grp g).prof.loadCheck = .on := by rw [three.loadCheck, updProfile_eq]; exact hon
  have made : testsPassed g fixed e s = compareShares g u := by
    unfold testsPassed loadStep
    rw [← hu, check]
  rw [made]
  refine ⟨by rw [compareShares_only.record]; exact check, fun i hi hr => ?_⟩
  rw [three.compareShares hi, if_pos hr]
  exact ⟨three.refShare hi, rfl⟩

/-! ### Members at step 7 -/

theorem arrivesNow_iff : arrivesNow g fixed s i = true ↔
    (s.chan i).group = some g ∧ (s.member g i).arrived = false ∧ inReach g fixed s i = true := by
  simp [arrivesNow, notArrived, State.member, and_assoc]

theorem stillAway_iff : stillAway g fixed s i = true ↔
    (s.chan i).group = some g ∧ (s.member g i).arrived = false ∧ inReach g fixed s i = false := by
  simp [stillAway, notArrived, State.member, and_assoc]

/-- A member that arrives is driven no further. -/
theorem driven_of_arrives (h : Tested g fixed e s v) (hr : Resumed g v w) (hc : fixed = true → SwitchesClosed g w)
    (hi : arrivesNow g fixed s i = true) : SameAt g i v (driven g fixed qd w) := by
  obtain ⟨hg, -, hreach⟩ := arrivesNow_iff.mp hi
  have arrived : (v.member g i).arrived = true := by rw [h.member i hg]; simp [hreach]
  have arrived' : (w.member g i).arrived = true := by rw [hr.member]; exact arrived
  have away : ¬(w.member g i).arrived = false := by rw [arrived']; simp
  have grouped : (w.chan i).group = some g := by rw [hr.chan, h.group]; exact hg
  refine sameAt_trans ⟨hr.chan i, hr.member i⟩ ?_
  cases fixed with
  | true => exact driven_fixed_still (hc rfl) grouped (.inr ⟨fun k => away k.2.1, fun k => away k.2.1⟩)
  | false =>
    obtain ⟨chan, member⟩ := driven_variable (qd := qd) grouped
    exact ⟨chan.trans (dutyChan_of_arrived arrived'), member⟩

theorem chanStop_duty (h : c.state = .running) (form : StopForm) : (chanStop now form c).gen.duty = 0 := by
  have stop : chanStop now form c = stopReleased now form c := by simp [chanStop, h]
  have left : (leaveRunning now c).gen.duty = 0 := by simp [leaveRunning, h]
  rw [stop]
  unfold stopReleased
  dsimp only
  rcases chanFinishStop_cases now _ with e | ⟨-, e⟩ <;> rw [e] <;> simpa [chanPark] using left

theorem chanStop_takes_time (h : StopTakesTime c) : (chanStop now .controlled c).state = .stopping .controlled := by
  obtain ⟨confirm, begun, takes⟩ := stopBegun_of_running (now := now) h.1 .controlled
  exact begun.confirming (takes h)

theorem switchesClosed_of_within (h : Within g s t) (hc : SwitchesClosed g s) : SwitchesClosed g t := fun i hi => by
  rw [(h.kept i).upperOpen, (h.kept i).lowerOpen]
  exact hc i (by rw [← (h.kept i).group]; exact hi)

/-! ### An update that goes on, holds or is released, as a whole -/

/-- The outcome `t` of an update through step 6 with the outcome `w`, from `v` of step 5. -/
structure UpdateMade (g : GroupId) (fixed : Bool) (e : Time) (s v w t : State) (qd : Nat) : Prop where
  tested : Tested g fixed e s v
  resumed : Resumed g v w
  tail : TailMade g fixed qd w t
  closed : fixed = true → SwitchesClosed g w

theorem updateMade (hk : MembersAre g fixed s) (hc : fixed = true → SwitchesClosed g s) (hr : Resumed g (testsPassed g fixed e s) w)
    (hn : (∃ j, stillAway g fixed s j = true) ∨ ∃ j, arrivesNow g fixed s j = true ∧ StopTakesTime (s.chan j)) :
    UpdateMade g fixed e s (testsPassed g fixed e s) w (updateTail g qd w) qd := by
  have tested : Tested g fixed e s (testsPassed g fixed e s) := tested_threeSteps hk
  have closed : fixed = true → SwitchesClosed g w := fun hf =>
    switchesClosed_of_within (tested.within.trans hr.within) (hc hf)
  have kind : w.groupFixed g = fixed := by
    have same := tested.within.trans hr.within
    rw [groupFixed_congr (fun i => (same.kept i).group) fun i => (same.kept i).cfg]
    exact groupFixed_of_membersAre hk
  refine ⟨tested, hr, tailMade kind closed hr.moves ?_, closed⟩
  rcases hn with hn | ⟨j, hj, ht⟩
  · exact notDone_of_away tested hr closed hn
  · have hg : (s.chan j).group = some g := (arrivesNow_iff.mp hj).1
    have chan := (driven_of_arrives (qd := qd) tested hr closed hj).1
    have stopped : (testsPassed g fixed e s).chan j = chanStop s.timebase .controlled (s.chan j) := by
      rw [tested.chan, if_pos hj, arrivedChan, if_neg fun h => h.2 ht.1]
    refine .inr ⟨j, ?_, .inr ?_⟩
    · rw [chan, tested.group]; exact hg
    · rw [chan, stopped, chanStop_takes_time ht]; simp

section Made

variable (h : UpdateMade g fixed e s v w t qd)
include h

theorem UpdateMade.within : Within g s t := h.tested.within.trans (h.resumed.within.trans h.tail.within)

theorem UpdateMade.member (i : Channel) : t.member g i = { v.member g i with trimPaused := (t.member g i).trimPaused } := by
  rw [h.tail.member, h.resumed.member]

theorem UpdateMade.windows : (w.grp g).windows = (s.grp g).windows := by rw [h.resumed.record, h.tested.record]

/-- A member that arrives (R133, R134). -/
theorem UpdateMade.arrives (hi : arrivesNow g fixed s i = true) :
    (t.member g i).arrived = true ∧ (t.member g i).trimPaused = false ∧ (t.member g i).err = updError g fixed s i ∧
      (StopTakesTime (s.chan i) → (t.chan i).state = .stopping .controlled ∧ (t.chan i).gen.duty = 0) ∧
      (fixed = true → (s.chan i).state ≠ .running → t.chan i = s.chan i) := by
  obtain ⟨hg, -, reach⟩ := arrivesNow_iff.mp hi
  obtain ⟨chan, member⟩ := sameAt_trans (driven_of_arrives h.tested h.resumed h.closed hi) (h.tail.driven i)
  rw [chan, member, h.tested.chan, if_pos hi, h.tested.member i hg]
  refine ⟨by simp [reach], by simp [hi], rfl, fun ht => ?_, fun hf hn => ?_⟩
  · rw [arrivedChan, if_neg fun k => k.2 ht.1]
    exact ⟨chanStop_takes_time ht, chanStop_duty ht.1 _⟩
  · rw [arrivedChan, if_pos ⟨hf, hn⟩]

/-- Of a member that is not arrived, its turn at step 7 or 8 begins with its record of before the update. -/
theorem UpdateMade.away (hi : stillAway g fixed s i = true) :
    w.chan i = s.chan i ∧ (w.chan i).group = some g ∧ w.member g i =
      { s.member g i with
        err := updError g fixed s i, arrived := false
        refShare := (v.member g i).refShare, viol := (v.member g i).viol } := by
  obtain ⟨hg, away, reach⟩ := stillAway_iff.mp hi
  have stays : arrivesNow g fixed s i = false := by simp [arrivesNow, reach]
  have chan : w.chan i = s.chan i := by rw [h.resumed.chan, h.tested.chan, if_neg (by simp [stays])]
  refine ⟨chan, by rw [chan]; exact hg, ?_⟩
  rw [h.resumed.member, h.tested.member i hg]
  simp [away, reach, stays]

end Made

/-- The trim of a FIXED member that is not arrived (R141, R142). -/
theorem UpdateMade.trims (h : UpdateMade g true e s v w t qd) (hi : stillAway g true s i = true) :
    ((s.member g i).trimPaused = false → ((s.grp g).windows.trimOn : Int) ≤ updError g true s i →
      StopTakesTime (s.chan i) → (t.member g i).trimPaused = true ∧ (t.chan i).state = .stopping .controlled) ∧
    ((s.member g i).trimPaused = false →
      (s.chan i).state ≠ .running ∨ updError g true s i < ((s.grp g).windows.trimOn : Int) →
      (t.member g i).trimPaused = false ∧ t.chan i = s.chan i) ∧
    (∀ m : MemberPlan, (s.member g i).trimPaused = true → (s.chan i).state = .parked → (s.member g i).plan = some m →
      updError g true s i ≤ ((s.grp g).windows.trimOff : Int) →
      (t.member g i).trimPaused = false ∧
      (s.stops.estop = .clear → s.stops.monitor ≠ .low → s.supply.state = .on → (s.chan i).lastDir = some m.dir →
        (t.chan i).state = .starting ∧ (t.chan i).lastDir = some m.dir)) ∧
    ((s.member g i).trimPaused = true →
      (s.chan i).state ≠ .parked ∨ ((s.grp g).windows.trimOff : Int) < updError g true s i →
      (t.member g i).trimPaused = true ∧ t.chan i = s.chan i) := by
  obtain ⟨chan, group, member⟩ := h.away hi
  obtain ⟨lastChan, lastMember⟩ := h.tail.driven i
  have still (hp : ¬TrimPauses (w.grp g) (w.member g i) (w.chan i)) (he : ¬TrimEnds (w.grp g) (w.member g i) (w.chan i)) :
      (t.member g i).trimPaused = (s.member g i).trimPaused ∧ t.chan i = s.chan i := by
    obtain ⟨sameChan, sameMember⟩ := driven_fixed_still (qd := qd) (h.closed rfl) group (.inr ⟨hp, he⟩)
    rw [lastChan, lastMember, sameChan, sameMember, chan, member]
    exact ⟨rfl, rfl⟩
  refine ⟨fun hf hon ht => ?_, fun hf hn => ?_, fun m hf hp hm hoff => ?_, fun hf hn => ?_⟩
  · obtain ⟨stopped, paused⟩ := driven_fixed_pauses (qd := qd) (h.closed rfl) group h.resumed.moves
      (by rw [member, chan]; unfold TrimPauses; rw [h.windows]; exact ⟨ht.1, rfl, hf, hon⟩)
    rw [lastChan, lastMember, stopped, chan]
    exact ⟨paused, chanStop_takes_time ht⟩
  · obtain ⟨flag, same⟩ := still (by
      rw [member, chan]
      unfold TrimPauses
      rw [h.windows]
      rintro ⟨hr, -, -, he⟩
      rcases hn with hn | hn
      · exact hn hr
      · exact absurd he (not_le.mpr hn)) (by rw [member]; rintro ⟨ht, -⟩; exact absurd (hf.symm.trans ht) (by simp))
    exact ⟨flag.trans hf, same⟩
  · obtain ⟨flag, started⟩ := driven_fixed_ends (qd := qd) (h.closed rfl) group h.resumed.moves
      (by rw [member, chan]; unfold TrimEnds; rw [h.windows]; exact ⟨hf, rfl, hp, hoff⟩) (p := m) (by rw [member]; exact hm)
    rw [lastChan, lastMember]
    obtain ⟨-, supply, -, -, stops, -⟩ := (h.tested.within.trans h.resumed.within).part
    refine ⟨flag, fun he hlow ho hl => started ?_ ?_ ?_ ?_⟩
    · rw [stops]; exact he
    · rw [stops]; exact hlow
    · rw [supply]; exact ho
    · rw [chan]; exact hl
  · obtain ⟨flag, same⟩ := still (by rw [member]; rintro ⟨-, -, hp, -⟩; exact absurd (hf.symm.trans hp) (by simp)) (by
      rw [member, chan]
      unfold TrimEnds
      rw [h.windows]
      rintro ⟨-, -, hp, he⟩
      rcases hn with hn | hn
      · exact hn hp
      · exact absurd he (not_le.mpr hn))
    exact ⟨flag.trans hf, same⟩

/-- The duty of a VARIABLE member that is not arrived (R131, R132). -/
theorem UpdateMade.duty (h : UpdateMade g false e s v w t qd) (hk : MembersAre g false s) (hi : stillAway g false s i = true)
    (hr : (s.chan i).state = .running) (hp : (s.member g i).plan = some p) :
    let delta := intervalMs (s.grp g).interval
    let ff := match (s.grp g).moveKind with
      | .cue => p.dist * qd * 1000 * 255 / (65536 * delta * (s.chan i).cfg.ratedSpeed)
      | .jog => qd * 1000 * 255 / (delta * (s.chan i).cfg.ratedSpeed)
    let corr := (updError g false s i).natAbs * (s.chan i).cfg.gainK / 16
    (t.chan i).gen.pendingDuty =
      some (max 0 (min 255 (if updError g false s i < 0 then (ff : Int) + corr
        else if 0 < updError g false s i then (ff : Int) - corr else ff))).toNat := by
  obtain ⟨chan, group, member⟩ := h.away hi
  obtain ⟨duty, -⟩ := driven_variable (qd := qd) group
  have kind : (s.chan i).cfg.kind = .variableSpeed := hk.2 i (by rw [← chan]; exact group)
  have record : ∀ m c, dutyChan (w.grp g) m qd c = dutyChan (s.grp g) m qd c := fun m c => by
    rw [h.resumed.record, h.tested.record]; rfl
  rw [(h.tail.driven i).1, duty, record, chan, member]
  exact dutyChan_pendingDuty rfl hr kind hp

end Sys2Proof.Machine
end

section
/-! PROOFS. An update that stops a jog at its bound (R144), and the statement of the errors, the stops, the trim, the duty and
the load-share counts of an update. -/

namespace Sys2Proof.Machine

open Sys2Proof.Safety

variable {s t u v w : State} {g : GroupId} {i j : Channel} {fixed : Bool} {e : Time} {p : MemberPlan} {qd : Nat}

/-- What an update leaves that has stopped a jog at its bound: the outcome of the controlled stop, with duties written. -/
structure BoundMade (g : GroupId) (w t : State) (qd : Nat) : Prop where
  only : MembersOnly g w t
  member : ∀ i, t.member g i = w.member g i
  gen : ∀ i, t.chan i = { w.chan i with gen := (t.chan i).gen }
  rests : ∀ i, (w.chan i).state ≠ .running → t.chan i = w.chan i
  duty : w.groupFixed g = false → ∀ i, (w.chan i).group = some g → t.chan i = dutyChan (w.grp g) (w.member g i) qd (w.chan i)

theorem boundMade (hs : ¬((w.grp g).state = .moving ∨ (w.grp g).state = .holding)) (hm : (w.grp g).moveKind = .jog) :
    BoundMade g w (updateTail g qd w) qd := by
  rw [updateTail_of_stopped hs hm]
  cases hk : w.groupFixed g with
  | true => exact ⟨.rfl', fun _ => rfl, fun _ => rfl, fun _ _ => rfl, by simp [hk]⟩
  | false =>
    obtain ⟨only, member, duty⟩ := dutyStep_spec (s := w) (g := g) (qd := qd)
    refine ⟨only, member, fun i => ?_, fun i hi => ?_, fun _ => duty⟩
    · by_cases hg : (w.chan i).group = some g
      · show (dutyStep g qd w).chan i = { w.chan i with gen := ((dutyStep g qd w).chan i).gen }
        rw [duty i hg]
        exact dutyChan_gen
      · show (dutyStep g qd w).chan i = { w.chan i with gen := ((dutyStep g qd w).chan i).gen }
        rw [only.outside i hg]
    · by_cases hg : (w.chan i).group = some g
      · exact (duty i hg).trans (dutyChan_of_not_running hi)
      · exact only.outside i hg

theorem BoundMade.record (h : BoundMade g w t qd) : t.grp g = w.grp g := by
  have same : (t.grp g).prof.members = (w.grp g).prof.members := Chans.ext_get h.member
  rw [h.only.record, same]

theorem stoppable_testsPassed (hk : MembersAre g fixed s) (hs : (s.grp g).state = .moving) :
    ((testsPassed g fixed e s).grp g).state.stoppable = true := by
  have record := (tested_threeSteps (e := e) hk).record
  rw [testsPassed, record]
  simp [hs, GroupState.stoppable]

section Bound

variable (hk : MembersAre g fixed s) (hs : (s.grp g).state = .moving) (hb : AtJogBound g fixed s)
include hk hs hb

/-- The controlled stop that the bound of a jog makes. -/
theorem boundMade_update : BoundMade g (controlledStop g (testsPassed g fixed e s))
    (updateTail g qd (controlledStop g (testsPassed g fixed e s))) qd := by
  have stopped := controlledStop_not_stoppable g (testsPassed g fixed e s)
  have tested : Tested g fixed e s (testsPassed g fixed e s) := tested_threeSteps hk
  refine boundMade (fun h => ?_) ?_
  · rcases h with h | h <;> simp [h, GroupState.stoppable] at stopped
  · rw [controlledStop_prof (stoppable_testsPassed hk hs)]
    show ((testsPassed g fixed e s).grp g).moveKind = .jog
    rw [tested.record]
    exact hb.1

/-- The record of the group after the update: the one of step 5, stopped. -/
theorem boundMade_record :
    let v := testsPassed g fixed e s
    let t := updateTail g qd (controlledStop g v)
    t.grp g = { stoppingRecord (v.grp g) with state := (t.grp g).state, updateTimer := (t.grp g).updateTimer } := by
  intro v t
  have made : BoundMade g (controlledStop g v) t qd := boundMade_update hk hs hb
  rw [made.record]
  exact controlledStop_prof (stoppable_testsPassed hk hs)

theorem boundMade_member :
    (updateTail g qd (controlledStop g (testsPassed g fixed e s))).member g i = (testsPassed g fixed e s).member g i := by
  rw [State.member, boundMade_record hk hs hb]
  rfl

/-- A RUNNING member of a VARIABLE jog at its bound has its duty written (log entry 18). -/
theorem boundMade_duty (hf : fixed = false) (hi : stillAway g fixed s i = true) (hr : (s.chan i).state = .running) :
    let v := testsPassed g fixed e s
    (updateTail g qd (controlledStop g v)).chan i = dutyChan (s.grp g) (v.member g i) qd (s.chan i) := by
  intro v
  set w := controlledStop g v with hw
  have made : BoundMade g w (updateTail g qd w) qd := boundMade_update hk hs hb
  have tested : Tested g fixed e s v := tested_threeSteps hk
  obtain ⟨hg, -, reach⟩ := stillAway_iff.mp hi
  have chan : v.chan i = s.chan i := by rw [tested.chan, if_neg (by simp [arrivesNow, reach])]
  have kind : v.groupFixed g = false := by
    rw [groupFixed_congr tested.group fun i => (tested.within.kept i).cfg, groupFixed_of_membersAre hk, hf]
  have entered : (stopEntered g v).chan i = s.chan i := by
    rw [stopEntered_chan, if_pos ((tested.group i).trans hg), stoppedAtEntry, if_pos ⟨by rw [chan]; exact hr, kind⟩, chan]
  have within : Within g v (stopEntered g v) := within_stopEntered
  have waits : w = stopEntered g v := by
    rw [hw, controlledStop_eq (stoppable_testsPassed hk hs)]
    exact stopTest_of_waiting (j := i) (by rw [entered]; exact hg) (by rw [entered, hr]; simp)
  have fixed_ : w.groupFixed g = false := by
    rw [waits, groupFixed_congr (fun i => (within.kept i).group) fun i => (within.kept i).cfg, kind]
  have member : w.member g i = v.member g i := by
    rw [State.member, hw, controlledStop_prof (stoppable_testsPassed hk hs)]; rfl
  rw [made.duty fixed_ i (by rw [waits, entered]; exact hg), member, waits, entered, stopEntered_grp]
  unfold dutyChan
  rw [show (stoppingRecord (v.grp g)).moveKind = (s.grp g).moveKind by rw [tested.record]; rfl,
    show (stoppingRecord (v.grp g)).interval = (s.grp g).interval by rw [tested.record]; rfl]

end Bound

/-! ### The update with a member still away -/

/-- With a member still away the update leaves of the members' items what step 5 left, but for the trim pauses; and the
load-share check, the progress and the displacement. -/
theorem update_items (ht : (s.grp g).updateTimer = some e) (hk : MembersAre g fixed s) (hno : NoTripNow g fixed s)
    (hc : fixed = true → SwitchesClosed g s) (hs : (s.grp g).state = .moving ∨ (s.grp g).state = .holding)
    (ha : ∃ j, stillAway g fixed s j = true) :
    let v := testsPassed g fixed e s
    let t := groupUpdate g s
    (∀ i, t.member g i = { v.member g i with trimPaused := (t.member g i).trimPaused }) ∧
      (t.grp g).prof.loadCheck = (v.grp g).prof.loadCheck ∧ (t.grp g).prof.p = (updProfile g fixed s).p ∧
      (t.grp g).prof.j = (updProfile g fixed s).j := by
  intro v t
  have tested : Tested g fixed e s v := tested_threeSteps hk
  by_cases hb : (s.grp g).state = .moving ∧ AtJogBound g fixed s
  · obtain ⟨hm, hb⟩ := hb
    have made : t = _ := update_bound ht hk hno hm hb
    rw [made]
    refine ⟨fun i => by rw [boundMade_member hk hm hb], ?_⟩
    rw [boundMade_record hk hm hb]
    refine ⟨rfl, ?_, ?_⟩
    · show (v.grp g).prof.p = _
      rw [tested.record]
    · show (v.grp g).prof.j = _
      rw [tested.record]
  · obtain ⟨w, qd, resumed, made, -⟩ := update_resumes ht hk hno hs hb
    have all : UpdateMade g fixed e s v w t qd := by simp only [t]; rw [made]; exact updateMade hk hc resumed (.inl ha)
    refine ⟨all.member, ?_⟩
    rw [all.tail.record, resumed.record, tested.record]
    exact ⟨rfl, rfl, rfl⟩

/-- Settles O24: an update forms the errors, and stops, trims, drives and counts as the rules of its state say. -/
theorem updateFormsErrorsAndStops : Obligations.UpdateFormsErrorsAndStops := by
  unfold Obligations.UpdateFormsErrorsAndStops
  intro g e fixed s ht
  refine ⟨fun hs => ?starting, fun hs hk => ?stopping, fun hk hno hc hs => ?moving⟩
  case starting =>
    obtain ⟨state, timer, errors, progress, displacement, states, groups, outside, records, part⟩ := update_starting ht hs
    exact ⟨_, exec_groupUpdate, state, timer, errors, progress, displacement, states, outside, records, groups, part⟩
  case stopping =>
    obtain ⟨rate, phase, progress, displacement, errors, fixed_⟩ := update_stopping ht hs hk
    refine ⟨_, exec_groupUpdate, rate, phase, progress, displacement, errors, fixed_, ?_⟩
    cases fixed with
    | true =>
      have made := update_stopping_fixed ht hs (groupFixed_of_membersAre hk)
      have within : Within g s (groupUpdate g s) := by
        rw [made]; exact (updateTaken_within (e := e) (pr := (s.grp g).prof)).trans formErrors_only.within
      obtain ⟨groups, outside, records, part⟩ := within.updateKeeps
      refine ⟨(nomatch ·), ?_, ?_, fun i => ?_, fun _ => outside, groups, part⟩
      · rw [made, formErrors_only.record, updateTaken_grp]
      · rw [made, formErrors_only.record, updateTaken_grp]
      · obtain ⟨stored, -, position⟩ := records i
        exact ⟨stored, position⟩
    | false =>
      have made := update_stopping_variable ht hs (groupFixed_of_membersAre hk)
      have taken : RampTaken g e s (ramped g e s) (groupUpdate g s) := by rw [made]; exact rampTaken hs
      obtain ⟨slowing, ended, duty⟩ := rampTaken_members taken hk
      have before : Within g s (ramped g e s) :=
        (updateTaken_within (e := e) (pr := stopRamp (s.grp g).moveKind (s.grp g).prof)).trans taken.ramped.only.within
      refine ⟨fun _ => ⟨slowing, ended, duty, taken.waiting hs, fun hall => ?_, taken.noticed⟩, ?_, ?_, taken.kept,
        fun hg i hi => (taken.outside hg i hi).trans (before.outside i hi),
        fun h hh => (taken.others h hh).trans (before.groups h hh), keepsPart_trans before.part taken.part⟩
      · obtain ⟨timer, state⟩ := taken.ends hall
        refine ⟨timer, ?_⟩
        rw [state]
        have kind : ((ramped g e s).grp g).moveKind = (s.grp g).moveKind := by
          rw [taken.ramped.only.record, updateTaken_grp]
        rw [kind]
      · rw [taken.group]
      · rw [taken.group]
  case moving =>
    have tested : Tested g fixed e s (testsPassed g fixed e s) := tested_threeSteps hk
    refine ⟨fun ha hh => ?_, fun i hi hn => ?_, fun i hi => ?_, fun i hon hr hi ha => ?_⟩
    · obtain ⟨-, -, progress, displacement⟩ := update_items ht hk hno (fun _ => hc) hs ha
      have free : ¬((s.grp g).state = .moving ∧ AtJogBound g fixed s) := fun h => by simp [hh] at h
      refine ⟨_, exec_groupUpdate, progress, displacement, fun hw => ?_, fun ⟨j, hj⟩ => ?_, ?_⟩
      · have made := update_releases ht hk hno hh hw
        have all : UpdateMade g fixed e s (testsPassed g fixed e s) (releaseGroup g (testsPassed g fixed e s))
            (groupUpdate g s) 0 := by
          rw [made]; exact updateMade hk (fun _ => hc) resumed_releaseGroup (.inl ha)
        have kind : (testsPassed g fixed e s).groupFixed g = fixed := by
          rw [groupFixed_congr tested.group fun i => (tested.within.kept i).cfg, groupFixed_of_membersAre hk]
        rw [all.tail.record]
        simp [releaseGroup, kind]
      · have made := update_waits ht hk hno hh fun h => by rw [h j] at hj; cases hj
        have state : ((testsPassed g fixed e s).grp g).state = .holding := by rw [tested.record]; exact hh
        have all : UpdateMade g fixed e s (testsPassed g fixed e s) (testsPassed g fixed e s) (groupUpdate g s) 0 := by
          rw [made]; exact updateMade hk (fun _ => hc) (resumed_self (.inr state)) (.inl ha)
        rw [all.tail.record, tested.record]
        refine ⟨hh, rfl, rfl, ?_⟩
        rw [updProfile_eq]
      · obtain ⟨w, qd, resumed, made, -⟩ := update_resumes ht hk hno hs free
        rw [made]
        exact (updateMade hk (fun _ => hc) resumed (.inl ha)).within.updateKeeps
    · have free : ¬((s.grp g).state = .moving ∧ AtJogBound g fixed s) := fun h => by
        obtain ⟨-, -, reach⟩ := arrivesNow_iff.mp hi
        unfold inReach at reach
        rw [h.2.1] at reach
        simp at reach
      obtain ⟨w, qd, resumed, made, -⟩ := update_resumes ht hk hno hs free
      refine ⟨_, exec_groupUpdate, ?_⟩
      rw [made]
      exact (updateMade hk (fun _ => hc) resumed (hn.imp_right fun ht => ⟨i, hi, ht⟩)).arrives hi
    · obtain ⟨items, -⟩ := update_items ht hk hno (fun _ => hc) hs ⟨i, hi⟩
      obtain ⟨hg, away, reach⟩ := stillAway_iff.mp hi
      have item : (groupUpdate g s).member g i = _ := items i
      rw [tested.member i hg] at item
      refine ⟨_, exec_groupUpdate, ?_, ?_, fun hf free => ?_, fun m hf hr hm => ?_⟩
      · show ((groupUpdate g s).member g i).arrived = false
        rw [item]; simp [away, reach]
      · show ((groupUpdate g s).member g i).err = updError g fixed s i
        rw [item]
      · subst hf
        obtain ⟨w, qd, resumed, made, -⟩ := update_resumes ht hk hno hs free
        rw [made]
        exact (updateMade hk (fun _ => hc) resumed (.inl ⟨i, hi⟩)).trims hi
      · subst hf
        by_cases hb : (s.grp g).state = .moving ∧ AtJogBound g false s
        · obtain ⟨hmv, hb⟩ := hb
          have rate : dutyRate (s.grp g).moveKind (s.grp g).prof (updProfile g false s) = _ := dutyRate_eq _ _
          rw [if_neg (by rintro ⟨h, -⟩; rw [hb.1] at h; cases h)] at rate
          have still : ¬((s.grp g).state = .holding ∨
              ((s.grp g).state = .moving ∧ ¬AtJogBound g false s ∧ ∃ j, holdsNow g false s j = true) ∨
              ((s.grp g).moveKind = .cue ∧ (s.grp g).prof.p = 65536)) := by
            rintro (h | h | h)
            · simp [hmv] at h
            · exact h.2.1 hb
            · rw [hb.1] at h; simp at h
          rw [update_bound ht hk hno hmv hb, boundMade_duty hk hmv hb rfl hi hr, rate, if_neg still, tested.member i hg]
          exact dutyChan_pendingDuty (by simp [away, reach]) hr (hk.2 i hg) hm
        · obtain ⟨w, qd, resumed, made, rate⟩ := update_resumes ht hk hno hs hb
          rw [made, ← rate]
          exact (updateMade hk (fun _ => hc) resumed (.inl ⟨i, hi⟩)).duty hk hi hr hm
    · obtain ⟨items, check, -⟩ := update_items ht hk hno (fun _ => hc) hs ha
      obtain ⟨on, counts⟩ := testsPassed_of_on (e := e) hk hon
      obtain ⟨share, viol⟩ := counts i hi hr
      have item : (groupUpdate g s).member g i = _ := items i
      refine ⟨_, exec_groupUpdate, check.trans on, ?_, ?_⟩
      · show ((groupUpdate g s).member g i).refShare = (s.member g i).refShare
        rw [item, ← share]
      · show ((groupUpdate g s).member g i).viol = nextViol g s i
        rw [item, ← viol]

end Sys2Proof.Machine
end

section
/-! PROOFS. Starts: the checks of GO and JOG in the terms of the statements (R110, R112), and what the start requests of a group
leave (R111, R113). -/

namespace Sys2Proof.Machine

open Sys2Proof.Safety

variable {s t u v w : State} {g : GroupId} {i j : Channel} {d : Dir} {cue : Cue} {a b : Chan} {p : MemberPlan} {m : Member}

/-! ### The checks -/

theorem members_any_iff (q : Chan → Bool) : ((s.members g).map s.chan).any q = true ↔ SomeMember g s fun c => q c = true := by
  simp [List.any_map]

theorem partRefusal_eq (rest : Option Result) :
    (if stopHolds s = true then some Result.stopActive else if supplyDown s = true then some .supplyOff else rest) =
      match partRefusal s with
      | some r => some r
      | none => rest := by
  have stop : stopHolds s = true ↔ s.stops.estop ≠ .clear ∨ s.stops.monitor = .low ∨ s.stops.rstin = true := by
    simp [stopHolds, or_assoc]
  have down : supplyDown s = true ↔ s.supply.state = .off ∨ s.supply.state = .failed := by simp [supplyDown]
  unfold partRefusal
  simp only [stop, down]
  split_ifs <;> rfl

/-- The checks of GO on a group are the statements' (R110). -/
theorem goCheck_eq : goCheck g cue s = goRefusal g cue s := by
  unfold goCheck goRefusal
  dsimp only
  simp only [firstFailure_cons, firstFailure_nil]
  rw [partRefusal_eq]
  cases partRefusal s with
  | some r => rfl
  | none =>
    have outside : (cue.entries.any fun e => !s.isMember g e.1) = true ↔ ∃ e ∈ cue.entries, (s.chan e.1).group ≠ some g := by
      simp [State.isMember]
    have window : (((s.members g).map s.chan).any (fun c => decide (c.window ≠ .valid)) ||
        cue.entries.any fun e => outsideLimits (s.chan e.1) e.2) = true ↔
        (SomeMember g s fun c => c.window ≠ .valid) ∨
          ∃ e ∈ cue.entries, e.2 < (s.chan e.1).lower ∨ (s.chan e.1).upper < e.2 := by
      rw [Bool.or_eq_true, members_any_iff]
      simp [outsideLimits]
    have switch : (cue.entries.any fun e => entryIntoSwitch (s.chan e.1) e.2) = true ↔
        ∃ e ∈ cue.entries, ((s.chan e.1).position < e.2 ∧ (s.chan e.1).upperOpen = true) ∨
          (e.2 < (s.chan e.1).position ∧ (s.chan e.1).lowerOpen = true) := by simp [entryIntoSwitch]
    exact if_congr outside rfl (if_congr (by rw [members_any_iff]; simp) rfl (if_congr window rfl
      (if_congr (by rw [members_any_iff]; simp) rfl (if_congr (members_any_iff _) rfl
        (if_congr (by rw [members_any_iff]; simp) rfl (if_congr switch rfl rfl))))))

/-- The checks of JOG on a group are the statements' (R112). -/
theorem jogCheck_eq : jogCheck g d s = jogRefusal g d s := by
  unfold jogCheck jogRefusal
  dsimp only
  simp only [firstFailure_cons, firstFailure_nil]
  rw [partRefusal_eq]
  cases partRefusal s with
  | some r => rfl
  | none =>
    cases d <;> exact if_congr (by rw [members_any_iff]; simp) rfl (if_congr (members_any_iff _) rfl
      (if_congr (members_any_iff _) rfl rfl))

theorem partRefusal_none (h : partRefusal s = none) :
    ¬(s.stops.estop ≠ .clear ∨ s.stops.monitor = .low) ∧ s.stops.rstin = false ∧ s.supply.state ≠ .off ∧
      s.supply.state ≠ .failed := by
  unfold partRefusal at h
  split_ifs at h with h1 h2
  simp only [not_or, not_not, Bool.not_eq_true] at h1 h2
  exact ⟨by simp [h1], h1.2.2, h2⟩

/-! ### The start requests -/

/-- A channel that was `a` has taken a start request in direction `d` that nothing refuses, and is `b` (R4, R5). -/
structure Sent (d : Dir) (a b : Chan) : Prop where
  parked : a.state = .parked → b.state = .starting ∨ b.startPending = some d
  stopping : (∃ f, a.state = .stopping f) → b = { a with startPending := some d }

theorem startRequest_sent (hstop : ¬(s.stops.estop ≠ .clear ∨ s.stops.monitor = .low))
    (hl : limitOpen (s.chan i) d = false) :
    ∃ c, ChanKept (s.chan i) c ∧ Sent d (s.chan i) c ∧ startRequest i d s = s.setChan i c := by
  obtain ⟨parked, stopping, other⟩ := startRequest_cases s i d
  have still (h : startRequest i d s = s) (np : (s.chan i).state ≠ .parked) (ns : ¬∃ f, (s.chan i).state = .stopping f) :
      ∃ c, ChanKept (s.chan i) c ∧ Sent d (s.chan i) c ∧ startRequest i d s = s.setChan i c :=
    ⟨s.chan i, .rfl' _, ⟨fun h => absurd h np, fun h => absurd h ns⟩, h.trans (State.setChan_chan s i).symm⟩
  cases hs : (s.chan i).state with
  | starting => exact still (other (.inl hs)) (by simp [hs]) (by simp [hs])
  | running => exact still (other (.inr (.inl hs))) (by simp [hs]) (by simp [hs])
  | faulted => exact still (other (.inr (.inr (.inl hs)))) (by simp [hs]) (by simp [hs])
  | off => exact still (other (.inr (.inr (.inr hs)))) (by simp [hs]) (by simp [hs])
  | stopping f =>
    exact ⟨_, chanKept_startPending _ _, ⟨fun h => by simp [hs] at h, fun _ => rfl⟩, stopping ⟨f, hs⟩⟩
  | parked =>
    rw [parked hs]
    by_cases hw : s.supply.state ≠ .on ∨ ((s.chan i).lastDir = some d.opposite ∧ (s.chan i).out.dwellTimer ≠ none)
    · exact ⟨_, chanKept_startPending _ _, ⟨fun _ => .inr rfl, fun ⟨f, h⟩ => by simp [hs] at h⟩,
        startTry_of_waits hstop hl hw⟩
    · refine ⟨_, chanEnterStarting_kept _ _ _, ⟨fun _ => .inl ?_, fun ⟨f, h⟩ => by simp [hs] at h⟩,
        startTry_of_free hstop hl hw⟩
      obtain ⟨_, items⟩ := chanEnterStarting_items (now := s.timebase) (d := d) (c := s.chan i)
      rw [items]

/-- Nothing refuses the start requests of the STARTING group `g`. -/
structure StartFree (g : GroupId) (s : State) : Prop where
  state : (s.grp g).state = .starting
  stop : ¬(s.stops.estop ≠ .clear ∨ s.stops.monitor = .low)
  switches : ∀ i p, (s.chan i).group = some g → (s.member g i).plan = some p → (s.member g i).arrived = false →
    limitOpen (s.chan i) p.dir = false

theorem sendStart_of_arrived (h : (s.member g i).arrived = true) : sendStart g s i = s := by
  unfold sendStart
  dsimp only
  split
  · rfl
  · rw [if_neg (by simp [h])]

theorem sendStart_of_plan (hs : (s.grp g).state = .starting) (hp : (s.member g i).plan = some p)
    (ha : (s.member g i).arrived = false) : sendStart g s i = startRequest i p.dir s := by
  unfold sendStart
  dsimp only
  simp only [hp]
  rw [if_pos ⟨hs, ha⟩]

/-- What the start request of one member writes. -/
theorem sendStart_writes (h : StartFree g s) (hi : (s.chan i).group = some g) :
    ∃ c, ChanKept (s.chan i) c ∧ sendStart g s i = s.setChan i c ∧
      ((s.member g i).arrived = true → c = s.chan i) ∧
      ∀ p, (s.member g i).plan = some p → (s.member g i).arrived = false → Sent p.dir (s.chan i) c := by
  cases ha : (s.member g i).arrived with
  | true =>
    exact ⟨s.chan i, .rfl' _, (sendStart_of_arrived ha).trans (State.setChan_chan s i).symm, fun _ => rfl,
      fun _ _ => (nomatch ·)⟩
  | false =>
    cases hp : (s.member g i).plan with
    | none =>
      have still : sendStart g s i = s := by
        unfold sendStart
        dsimp only
        simp only [hp]
      exact ⟨s.chan i, .rfl' _, still.trans (State.setChan_chan s i).symm, (nomatch ·), fun _ => (nomatch ·)⟩
    | some p =>
      obtain ⟨c, kept, sent, made⟩ := startRequest_sent h.stop (h.switches i p hi hp ha)
      refine ⟨c, kept, (sendStart_of_plan h.state hp ha).trans made, (nomatch ·), fun q hq _ => ?_⟩
      obtain rfl : p = q := Option.some_inj.mp hq
      exact sent

/-- The start requests of a group that nothing refuses. -/
theorem sends_spec (h : StartFree g s) :
    let t := (s.members g).foldl (sendStart g) s
    MembersOnly g s t ∧ t.grp g = s.grp g ∧ ∀ i, (s.chan i).group = some g →
      ((s.member g i).arrived = true → t.chan i = s.chan i) ∧
      ∀ p, (s.member g i).plan = some p → (s.member g i).arrived = false → Sent p.dir (s.chan i) (t.chan i) := by
  obtain ⟨only, same, turns⟩ := turn_members (g := g) (f := sendStart g) (P := StartFree g)
    (fun x i hx hi => by
      obtain ⟨c, kept, made, -⟩ := sendStart_writes hx hi
      rw [made]
      have one : AtMember g i x (x.setChan i c) := atMember_setChan hi kept
      refine ⟨one, hx.state, hx.stop, fun j p hj hp ha => ?_⟩
      rw [(one.only.kept j).group] at hj
      have switches := hx.switches j p hj hp ha
      cases hd : p.dir <;> simp only [hd, limitOpen, (one.only.kept j).upperOpen, (one.only.kept j).lowerOpen] at switches ⊢ <;>
        exact switches)
    (State.members_nodup s g) (fun i hi => (State.mem_members s g i).mp hi) h
  have turn (i : Channel) (hi : (s.chan i).group = some g) :
      ((s.members g).foldl (sendStart g) s).member g i = s.member g i ∧
      ((s.member g i).arrived = true → ((s.members g).foldl (sendStart g) s).chan i = s.chan i) ∧
      ∀ p, (s.member g i).plan = some p → (s.member g i).arrived = false →
        Sent p.dir (s.chan i) (((s.members g).foldl (sendStart g) s).chan i) := by
    obtain ⟨x, -, hx, at_, after⟩ := turns i ((State.mem_members s g i).mpr hi)
    obtain ⟨c, -, made, rests, sent⟩ := sendStart_writes hx (by rw [at_.1]; exact hi)
    rw [at_.1, at_.2] at sent
    rw [at_.2, at_.1] at rests
    have chan : (sendStart g x i).chan i = c := by rw [made]; simp
    rw [after.1, after.2, chan]
    exact ⟨by rw [made]; exact at_.2, rests, sent⟩
  have items : ((s.members g).foldl (sendStart g) s).grp g = s.grp g := by
    have members : (((s.members g).foldl (sendStart g) s).grp g).prof.members = (s.grp g).prof.members :=
      Chans.ext_get fun i => by
        by_cases hi : (s.chan i).group = some g
        · exact (turn i hi).1
        · exact (same i fun k => hi ((State.mem_members s g i).mp k)).2
    rw [only.record, members]
  exact ⟨only, items, fun i hi => (turn i hi).2⟩

end Sys2Proof.Machine
end

section
/-! PROOFS. The start of a cue that nothing refuses (R111, R126, R127), and the completion of a cue (R116, R117, R135). -/

namespace Sys2Proof.Machine

open Sys2Proof.Safety

variable {s t u v w : State} {g : GroupId} {i j m : Channel} {n : ConsoleGroup} {cue head : Cue} {rest more : List Cue}
  {x : Nat}

theorem startMs_3000 (now : Time) : startMs now 3000 = some (now + 3000000) := by simp [startMs, afterMs]

/-! ### The plan of a cue -/

theorem planCue_member (hi : (s.chan i).group = some g) :
    (planCue g cue s).members.get i =
      freshMember (cueMemberPlan (s.groupFixed g) cue i (s.chan i))
        (decide ((cueMemberPlan (s.groupFixed g) cue i (s.chan i)).dist = 0)) := by
  simp [planCue, freshProfile, hi]

theorem targetUnder_eq : targetUnder cue s i = (entryTarget cue i).getD (s.chan i).position := by
  have same : (fun e : Channel × Nat => e.1 == i) = fun e => decide (e.1 = i) := by
    funext e; exact Bool.eq_iff_iff.mpr (by simp)
  unfold targetUnder entryTarget
  rw [same]
  cases cue.entries.find? fun e => decide (e.1 = i) <;> rfl

theorem cueMemberPlan_dist (fixed : Bool) : (cueMemberPlan fixed cue i (s.chan i)).dist = distUnder cue s i := by
  unfold distUnder
  rw [targetUnder_eq, ← distance_eq]
  rfl

theorem distUnder_eq_zero : distUnder cue s i = 0 ↔ targetUnder cue s i = (s.chan i).position := by
  unfold distUnder; omega

theorem cueMemberPlan_dir (fixed : Bool) : (cueMemberPlan fixed cue i (s.chan i)).dir =
    if targetUnder cue s i < (s.chan i).position then .down else .up := by
  rw [targetUnder_eq]; rfl

/-! ### The start of a cue -/

/-- The record that the start of a cue writes, before the start requests. -/
def cueStarted (g : GroupId) (cue : Cue) (s : State) : State :=
  s.setGrp g (startedRecord s.timebase { s.grp g with moveKind := .cue, prof := planCue g cue s })

theorem startCue_sends : startCue g cue s = ((cueStarted g cue s).members g).foldl (sendStart g) (cueStarted g cue s) :=
  startCue_eq g cue s

theorem cueStarted_grp : (cueStarted g cue s).grp g =
    startedRecord s.timebase { s.grp g with moveKind := .cue, prof := planCue g cue s } := by simp [cueStarted]

theorem cueStarted_member (hi : (s.chan i).group = some g) : (cueStarted g cue s).member g i =
    freshMember (cueMemberPlan (s.groupFixed g) cue i (s.chan i)) (decide (targetUnder cue s i = (s.chan i).position)) := by
  have item : (cueStarted g cue s).member g i = (planCue g cue s).members.get i := by
    unfold State.member; rw [cueStarted_grp]; rfl
  rw [item, planCue_member hi, cueMemberPlan_dist]
  simp only [distUnder_eq_zero]

/-- A cue that passes its checks is started with no request refused. -/
theorem startFree_cueStarted (h : goRefusal g cue s = none) : StartFree g (cueStarted g cue s) := by
  have part : partRefusal s = none := by
    cases hp : partRefusal s with
    | none => rfl
    | some r => unfold goRefusal at h; simp [hp] at h
  unfold goRefusal at h
  rw [part] at h
  dsimp only at h
  split_ifs at h with _ _ _ _ _ _ switches
  simp only [not_exists, not_and, not_or] at switches
  refine ⟨by rw [cueStarted_grp]; rfl, (partRefusal_none part).1, fun i p hi hp ha => ?_⟩
  have hi' : (s.chan i).group = some g := hi
  rw [cueStarted_member hi'] at hp ha
  obtain rfl : cueMemberPlan (s.groupFixed g) cue i (s.chan i) = p := Option.some_inj.mp hp
  have moves : targetUnder cue s i ≠ (s.chan i).position := by simpa [freshMember] using ha
  have target := targetUnder_eq (cue := cue) (s := s) (i := i)
  obtain ⟨y, hy⟩ : ∃ y, entryTarget cue i = some y := by
    cases hy : entryTarget cue i with
    | none => rw [hy] at target; exact absurd target moves
    | some y => exact ⟨y, rfl⟩
  obtain ⟨entry, found, rfl⟩ := Option.map_eq_some_iff.mp hy
  have named : entry.1 = i := by simpa using List.find?_some found
  obtain ⟨up, down⟩ := switches entry (List.mem_of_find?_eq_some found)
  rw [hy] at target
  have target : targetUnder cue s i = entry.2 := target
  rw [target] at moves
  show limitOpen (s.chan i) (cueMemberPlan (s.groupFixed g) cue i (s.chan i)).dir = false
  rw [cueMemberPlan_dir, target]
  rw [named] at up down
  split
  next hd => exact Bool.eq_false_iff.mpr (down hd)
  next hu => exact Bool.eq_false_iff.mpr (up (by omega))

/-- What the start of a cue leaves that passes its checks. -/
theorem startCue_spec (h : goRefusal g cue s = none) :
    MembersOnly g (cueStarted g cue s) (startCue g cue s) ∧ (startCue g cue s).grp g = (cueStarted g cue s).grp g ∧
      ∀ i, (s.chan i).group = some g →
        (¬MovesUnder g cue s i → (startCue g cue s).chan i = s.chan i) ∧
        (MovesUnder g cue s i → Sent (if targetUnder cue s i < (s.chan i).position then .down else .up) (s.chan i)
          ((startCue g cue s).chan i)) := by
  obtain ⟨only, record, sent⟩ := sends_spec (startFree_cueStarted h)
  rw [startCue_sends]
  refine ⟨only, record, fun i hi => ?_⟩
  obtain ⟨rests, moves⟩ := sent i hi
  rw [cueStarted_member hi] at rests moves
  refine ⟨fun hm => rests ?_, fun hm => ?_⟩
  · have same : targetUnder cue s i = (s.chan i).position := by by_contra hne; exact hm ⟨hi, hne⟩
    simp [freshMember, same]
  · rw [← cueMemberPlan_dir (s.groupFixed g)]
    exact moves _ rfl (by simp [freshMember, hm.2])

theorem nothingMoves_iff : nothingMoves g s = true ↔ ∀ i, (s.chan i).group = some g → (s.member g i).arrived = true := by
  unfold nothingMoves
  rw [List.all_eq_true]
  simp

/-- After its start a cue has nothing to move exactly where no member is to move under it. -/
theorem nothingMoves_startCue (h : goRefusal g cue s = none) :
    nothingMoves g (startCue g cue s) = true ↔ ¬∃ i, MovesUnder g cue s i := by
  obtain ⟨only, record, -⟩ := startCue_spec h
  have item (i : Channel) : (startCue g cue s).member g i = (cueStarted g cue s).member g i := by
    unfold State.member; rw [record]
  rw [nothingMoves_iff]
  constructor
  · rintro all ⟨i, hi, hm⟩
    have arrived := all i (by rw [(only.kept i).group]; exact hi)
    rw [item, cueStarted_member hi] at arrived
    exact hm (by simpa [freshMember] using arrived)
  · intro none i hi
    have hi' : (s.chan i).group = some g := (only.kept i).group.symm.trans hi
    have same : targetUnder cue s i = (s.chan i).position := by by_contra hne; exact none ⟨i, hi', hne⟩
    rw [item, cueStarted_member hi']
    simp [freshMember, same]

theorem goRefusal_congr (hc : ∀ i, t.chan i = s.chan i) (hs : t.stops = s.stops) (hp : t.supply = s.supply) :
    goRefusal g cue t = goRefusal g cue s := by
  unfold goRefusal partRefusal SomeMember
  simp only [hc, hs, hp]

/-! ### Completion -/

/-- The state when a completion has told and the group is IDLE (R116). -/
def completed (g : GroupId) (rest : List Cue) (s : State) : State :=
  (completionTold g s).setGrp g (completedRecord rest (s.grp g))

theorem completionTold_rest : completionTold g s = { s with notices := (completionTold g s).notices } := by
  unfold completionTold missCheck
  cases g with
  | pendant => split <;> rfl
  | console n => split <;> rfl

theorem completed_chan : (completed g rest s).chan i = s.chan i := by
  unfold completed; rw [completionTold_rest]; rfl

theorem completed_grp : (completed g rest s).grp g = completedRecord rest (s.grp g) := by simp [completed]

theorem completed_stops : (completed g rest s).stops = s.stops ∧ (completed g rest s).supply = s.supply ∧
    (completed g rest s).timebase = s.timebase := by
  unfold completed; rw [completionTold_rest]; exact ⟨rfl, rfl, rfl⟩

/-- Where no cue follows, the completion drops the deadline (R117). -/
theorem completeFrom_ends
    (h : head.follow = .stopAtEnd ∨ rest = [] ∨ (s.grp g).deadline = none ∨ ∃ next more, rest = next :: more ∧
      goRefusal g next s ≠ none) : completeFrom g (head :: rest) s = dropDeadline g (completed g rest s) := by
  rw [completeFrom_cons]
  dsimp only
  split
  next hf =>
    cases rest with
    | nil => rfl
    | cons next more =>
      obtain ⟨stops, supply, -⟩ := completed_stops (g := g) (rest := next :: more) (s := s)
      have refused : goRefusal g next s ≠ none := by
        rcases h with h | h | h | ⟨_, _, e, h⟩
        · rw [hf.1] at h; cases h
        · cases h
        · rw [h] at hf; simp at hf
        · cases e; exact h
      have check : goCheck g next (completed g (next :: more) s) = goRefusal g next s := by
        rw [goCheck_eq]; exact goRefusal_congr (fun _ => completed_chan) stops supply
      obtain ⟨r, hr⟩ := Option.ne_none_iff_exists'.mp refused
      rw [hr] at check
      simp only [completed] at check
      simp only [check]
      rfl
  next => rfl

/-- Where the E-stop is not CLEAR no cue follows (R110, R117). -/
theorem completeFrom_drops (h : head.follow = .stopAtEnd ∨ rest = [] ∨ (s.grp g).deadline = none ∨ s.stops.estop ≠ .clear) :
    completeFrom g (head :: rest) s = dropDeadline g (completed g rest s) := by
  refine completeFrom_ends ?_
  rcases h with h | h | h | h
  · exact .inl h
  · exact .inr (.inl h)
  · exact .inr (.inr (.inl h))
  · cases rest with
    | nil => exact .inr (.inl rfl)
    | cons next more =>
      refine .inr (.inr (.inr ⟨next, more, rfl, ?_⟩))
      have part : partRefusal s = some .stopActive := if_pos (.inl h)
      unfold goRefusal
      rw [part]
      simp

/-- Where the next cue follows, the completion starts it (R117). -/
theorem completeFrom_follows {next : Cue} (hf : head.follow = .autoNext) (hd : (s.grp g).deadline ≠ none)
    (h : goRefusal g next s = none) :
    completeFrom g (head :: next :: more) s =
      let v := startCue g next (completed g (next :: more) s)
      if nothingMoves g v then completeFrom g (next :: more) v else v := by
  obtain ⟨stops, supply, -⟩ := completed_stops (g := g) (rest := next :: more) (s := s)
  have check : goCheck g next (completed g (next :: more) s) = none := by
    rw [goCheck_eq, goRefusal_congr (fun _ => completed_chan) stops supply, h]
  rw [completeFrom_cons]
  dsimp only
  rw [if_pos ⟨hf, Option.isSome_iff_ne_none.mpr hd⟩]
  simp only [completed] at check
  simp only [check]
  rfl

/-- A member rests outside its settle band (R135). -/
abbrev Missed (g : GroupId) (s : State) : Prop := ∃ j : Channel, (s.chan j).group = some g ∧
  ((s.grp g).prof.members.get j).plan.any (fun m => decide
    ((s.grp g).windows.settleBand < (((s.chan j).position : Int) - m.target).natAbs)) = true

theorem members_any_outsideBand : (s.members g).any (outsideBand g s) = true ↔ Missed g s := by
  rw [List.any_eq_true]
  refine exists_congr fun j => and_congr (State.mem_members s g j) ?_
  unfold outsideBand State.member
  cases ((s.grp g).prof.members.get j).plan with
  | none => simp
  | some p => simp [distance_eq]

theorem completed_notices :
    (Missed (.console n) s → (completed (.console n) rest s).notices =
      ((s.raise (.group n .miss)).raise (.group n .done)).notices) ∧
    (¬Missed (.console n) s → (completed (.console n) rest s).notices = (s.raise (.group n .done)).notices) := by
  have told : (completed (.console n) rest s).notices =
      (raiseGroup (.console n) .done (missCheck (.console n) s)).notices := rfl
  rw [told]
  unfold missCheck
  constructor <;> intro h
  · rw [if_pos (members_any_outsideBand.mpr h)]; rfl
  · rw [if_neg (mt members_any_outsideBand.mp h)]; rfl

/-- The head entry of a cue names its target. -/
theorem targetUnder_head (h : cue.entries.head? = some (m, x)) : targetUnder cue s m = x := by
  cases he : cue.entries with
  | nil => rw [he] at h; cases h
  | cons e es =>
    rw [he] at h
    obtain rfl : e = (m, x) := Option.some_inj.mp h
    simp [targetUnder, he]

/-- What a completion finds that starts the next cue with nothing refused (R110, R117). -/
abbrev FollowFree (n : ConsoleGroup) (cue : Cue) (s : State) : Prop :=
  (s.stops.estop = .clear ∧ s.stops.monitor ≠ .low ∧ s.stops.rstin = false ∧ s.supply.state ≠ .off ∧
    s.supply.state ≠ .failed) ∧
  (∀ j : Channel, (s.chan j).group = some (.console n) →
    (s.chan j).referenced = true ∧ (s.chan j).window = .valid ∧ (s.chan j).thermal = false ∧
    (s.chan j).load.status ≠ .unknown ∧ (s.chan j).load.status ≠ .fault) ∧
  (∀ v ∈ cue.entries, (s.chan v.1).group = some (.console n) ∧ (s.chan v.1).lower ≤ v.2 ∧ v.2 ≤ (s.chan v.1).upper ∧
    ((s.chan v.1).position < v.2 → (s.chan v.1).upperOpen = false) ∧
    (v.2 < (s.chan v.1).position → (s.chan v.1).lowerOpen = false))

theorem goRefusal_of_followFree (hp : ∀ j, (s.chan j).group = some (.console n) → (s.chan j).state = .parked)
    (h : FollowFree n cue s) : goRefusal (.console n) cue s = none := by
  obtain ⟨⟨he, hm, hrst, hoff, hfail⟩, hch, hen⟩ := h
  have part : partRefusal s = none := by
    unfold partRefusal
    rw [if_neg (by simp [he, hm, hrst]), if_neg (by simp [hoff, hfail])]
  unfold goRefusal
  rw [part]
  dsimp only
  rw [if_neg (fun ⟨e, h, k⟩ => k (hen e h).1), if_neg (fun ⟨j, h, k⟩ => by simp [(hch j h).1] at k),
    if_neg (not_or.mpr ⟨fun ⟨j, h, k⟩ => k (hch j h).2.1, fun ⟨e, h, k⟩ => by
      obtain ⟨-, lower, upper, -⟩ := hen e h; omega⟩),
    if_neg (fun ⟨j, h, k⟩ => by simp [hp j h] at k), if_neg (fun ⟨j, h, k⟩ => by simp [(hch j h).2.2.1] at k),
    if_neg (fun ⟨j, h, k⟩ => k.elim (hch j h).2.2.2.1 (hch j h).2.2.2.2), if_neg]
  rintro ⟨e, h, ⟨k, o⟩ | ⟨k, o⟩⟩
  · simp [(hen e h).2.2.2.1 k] at o
  · simp [(hen e h).2.2.2.2 k] at o

/-- The next cue is started, and its first entry moves. -/
theorem completeFrom_starts (hf : head.follow = .autoNext) (hd : (s.grp (.console n)).deadline ≠ none)
    (free : goRefusal (.console n) cue s = none) (hhd : cue.entries.head? = some (m, x)) (hx : x ≠ (s.chan m).position)
    (hm : (s.chan m).group = some (.console n)) :
    let u := completed (.console n) (cue :: more) s
    completeFrom (.console n) (head :: cue :: more) s = startCue (.console n) cue u ∧
      goRefusal (.console n) cue u = none ∧ MovesUnder (.console n) cue u m := by
  intro u
  obtain ⟨stops, supply, time⟩ := completed_stops (g := .console n) (rest := cue :: more) (s := s)
  have chan (i : Channel) : u.chan i = s.chan i := completed_chan
  have freeThen : goRefusal (.console n) cue u = none := by rw [goRefusal_congr chan stops supply, free]
  have moves : MovesUnder (.console n) cue u m := ⟨by rw [chan]; exact hm, by rw [targetUnder_head hhd, chan]; exact hx⟩
  refine ⟨?_, freeThen, moves⟩
  rw [completeFrom_follows hf hd free]
  exact if_neg fun h => (nothingMoves_startCue freeThen).mp h ⟨m, moves⟩

/-- A completion of a console group whose members are PARKED leaves what R116 and R117 say. -/
theorem cueCompleted_completeFrom (hp : ∀ j, (s.chan j).group = some (.console n) → (s.chan j).state = .parked) :
    CueCompleted n head rest s (completeFrom (.console n) (head :: rest) s) := by
  have within : Within (.console n) s (completeFrom (.console n) (head :: rest) s) := within_completeFrom _ calm_console
  obtain ⟨missed, settled⟩ := completed_notices (n := n) (s := s) (rest := rest)
  refine ⟨fun h => ?_, fun cue more m x hr hf hd he hm hrst hoff hfail hch hen hhd hx => ?_⟩
  · have ends := completeFrom_drops (g := .console n) h
    have record := dropDeadline_grp (g := .console n) (s := completed (.console n) rest s)
    rw [completed_grp] at record
    rw [ends] at within ⊢
    rw [record]
    refine ⟨rfl, rfl, rfl, rfl, rfl, missed, settled, ?_, within.updateKeeps⟩
    exact Chans.ext_get fun i => completed_chan (g := .console n) (rest := rest) (s := s)
  · subst hr
    have free := goRefusal_of_followFree hp ⟨⟨he, hm, hrst, hoff, hfail⟩, hch, hen⟩
    obtain ⟨named, -⟩ := hen _ (List.mem_of_head? hhd)
    obtain ⟨made, freeThen, moves⟩ := completeFrom_starts (more := more) hf hd free hhd hx named
    set u := completed (.console n) (cue :: more) s with hu
    obtain ⟨-, -, time⟩ := completed_stops (g := .console n) (rest := cue :: more) (s := s)
    obtain ⟨only, record, -⟩ := startCue_spec freeThen
    have notices : (startCue (.console n) cue u).notices = u.notices := by rw [only.rest]; rfl
    have item : ((startCue (.console n) cue u).member (.console n) m).arrived = false := by
      rw [State.member, record]
      have item := cueStarted_member (cue := cue) moves.1
      simp only [State.member] at item
      rw [item]
      simp [freshMember, moves.2]
    rw [made] at within ⊢
    rw [cueStarted_grp, hu, completed_grp, ← hu] at record
    refine ⟨by rw [record]; rfl, by rw [record]; rfl, by rw [record]; rfl, by rw [record]; rfl, ?_, by rw [record]; rfl,
      by rw [record]; rfl, item, fun h => notices.trans (missed h), fun h => notices.trans (settled h), within.updateKeeps⟩
    rw [record]
    show startMs u.timebase 3000 = _
    rw [hu, time, startMs_3000]

end Sys2Proof.Machine
end

section
/-! PROOFS. A group update in MOVING: the progress of a cue (R113, R128), the hold (R138), the stop of a jog at its bound
(R115, R144). -/

namespace Sys2Proof.Machine

open Sys2Proof.Safety

variable {s t u v w : State} {g : GroupId} {i j : Channel} {n : ConsoleGroup} {fixed : Bool} {e : Time} {qd : Nat}
  {cause : TripCause} {ch : Option Channel}

/-! ### The progress of a cue -/

/-- A trip of a group in a move leaves the progress of its record. -/
theorem tripGroup_progress (hin : (u.grp g).state.inMove = true) (hc : Calm g u) :
    ((tripGroup cause ch g u).grp g).prof.p = (u.grp g).prof.p := by
  rw [(tripGroup_cases u cause ch g).2.2 hin, (tripEntered_of_stays (cause := cause) ch (stays_of_calm hc)).record]
  rfl

/-- A trip that steps 4 and 5 report: the group is TRIPPED with the progress of this update. -/
theorem StepThree.trips_progress (h : StepThree g fixed e s u) (only : MembersOnly g u v) (same : ∀ j, v.chan j = u.chan j)
    (hs : (s.grp g).state.inMove = true) (hc : Calm g s) :
    let t := tripGroup cause ch g v
    (t.grp g).state = .tripped ∧ (t.grp g).prof.p = (updProfile g fixed s).p ∧ UpdateKeeps g s t := by
  obtain ⟨⟨tripped, -⟩, keeps⟩ := h.trips (cause := cause) (ch := ch) only same hs hc
  have state : (v.grp g).state = (s.grp g).state := by rw [only.record, h.state]
  refine ⟨tripped, ?_, keeps⟩
  rw [tripGroup_progress (by rw [state]; exact hs) ((h.updateKeeps.trans only.within).calm hc), only.record, h.only.record,
    updateTaken_grp]

/-- An update of a group in MOVING reports a trip, or steps 4 and 5 pass. -/
theorem update_trips_or_passes (ht : (s.grp g).updateTimer = some e) (hs : (s.grp g).state = .moving)
    (hk : MembersAre g fixed s) (hc : Calm g s) :
    ((groupUpdate g s).grp g).state = .tripped ∧ ((groupUpdate g s).grp g).prof.p = (updProfile g fixed s).p ∧
      UpdateKeeps g s (groupUpdate g s) ∨ NoTripNow g fixed s := by
  have kind := groupFixed_of_membersAre hk
  have three : StepThree g fixed e s (threeSteps g fixed e s) := stepThree kind
  have inMove : (s.grp g).state.inMove = true := by rw [hs]; rfl
  by_cases lags : ∃ i, lagsNow g fixed s i = true
  · rw [groupUpdate_moving ht hs kind, three.lags lags]
    exact .inl (three.trips_progress .rfl' (fun _ => rfl) inMove hc)
  have noLag (i : Channel) : lagsNow g fixed s i = false := by
    rw [← Bool.not_eq_true]; exact fun h => lags ⟨i, h⟩
  by_cases leads : ∃ i, leadsNow g fixed s i = true
  · rw [groupUpdate_moving ht hs kind, three.leads noLag leads]
    exact .inl (three.trips_progress .rfl' (fun _ => rfl) inMove hc)
  have noLead (i : Channel) : leadsNow g fixed s i = false := by
    rw [← Bool.not_eq_true]; exact fun h => leads ⟨i, h⟩
  by_cases shifts : ∃ i, shiftsNow g s i = true
  · rw [groupUpdate_moving ht hs kind, three.shifts (fun i => ⟨noLag i, noLead i⟩) shifts]
    exact .inl (three.trips_progress compareShares_only (fun _ => rfl) inMove hc)
  · exact .inr fun i => ⟨noLag i, noLead i, by rw [← Bool.not_eq_true]; exact fun h => shifts ⟨i, h⟩⟩

/-- What an update of a cue in ACCEL, not yet due to slow down and short of its end, makes of the profile (R128). -/
theorem updProfile_accel (hs : (s.grp g).state = .moving) (hm : (s.grp g).moveKind = .cue)
    (hp : (s.grp g).prof.phase = .accel)
    (hd : (s.grp g).prof.q * (s.grp g).prof.q / (2 * (s.grp g).prof.a) + (s.grp g).prof.q < 65536 - (s.grp g).prof.p)
    (hf : (s.grp g).prof.p + min ((s.grp g).prof.q + (s.grp g).prof.a) (s.grp g).prof.qCruise < 65536) :
    let pr := updProfile g false s
    pr.p = (s.grp g).prof.p + min ((s.grp g).prof.q + (s.grp g).prof.a) (s.grp g).prof.qCruise ∧
      pr.q = min ((s.grp g).prof.q + (s.grp g).prof.a) (s.grp g).prof.qCruise ∧
      (pr.phase = .cruise ↔ (s.grp g).prof.qCruise ≤ (s.grp g).prof.q + (s.grp g).prof.a) := by
  obtain ⟨-, accel, -, cue, -⟩ := advanceMoving_rules (mk := .cue) (pr := (s.grp g).prof)
  have early : ¬Slowing .cue (s.grp g).prof := by
    rintro (h | ⟨-, h⟩)
    · rw [hp] at h; cases h
    · simp only [remainingOf, Option.any_some, decide_eq_true_eq, fullProgress] at h
      omega
  obtain ⟨rate, phase⟩ := accel early hp
  obtain ⟨progress, -⟩ := cue rfl
  unfold updProfile
  rw [if_pos hs, hm]
  refine ⟨?_, rate, ?_⟩
  · rw [progress, rate]; omega
  · rw [phase, rate]
    split
    next h => simp only [true_iff]; omega
    next h => simp only [reduceCtorEq, false_iff]; omega

/-! ### A hold, and an update that goes on -/

section Paths

variable (ht : (s.grp g).updateTimer = some e) (hk : MembersAre g fixed s) (hno : NoTripNow g fixed s)
  (hc : fixed = true → SwitchesClosed g s) (hs : (s.grp g).state = .moving) (hb : ¬AtJogBound g fixed s)
include ht hk hno hc hs hb

theorem update_hold_made (hh : ∃ j, holdsNow g fixed s j = true) :
    UpdateMade g fixed e s (testsPassed g fixed e s) (enterHolding g (testsPassed g fixed e s)) (groupUpdate g s) 0 := by
  have away : ∃ j, stillAway g fixed s j = true := by
    obtain ⟨j, hj⟩ := hh
    exact ⟨j, (Bool.and_eq_true_iff.mp hj).1⟩
  rw [update_holds ht hk hno hs hb hh]
  exact updateMade hk hc resumed_enterHolding (.inl away)

theorem update_on_made (hh : ∀ j, holdsNow g fixed s j = false) (ha : ∃ j, stillAway g fixed s j = true) :
    UpdateMade g fixed e s (testsPassed g fixed e s) (testsPassed g fixed e s) (groupUpdate g s)
      (dutyRate (s.grp g).moveKind (s.grp g).prof (updProfile g fixed s)) := by
  have tested : Tested g fixed e s (testsPassed g fixed e s) := tested_threeSteps hk
  have state : ((testsPassed g fixed e s).grp g).state = .moving := by rw [tested.record]; exact hs
  rw [update_goes_on ht hk hno hs hb fun ⟨j, hj⟩ => by rw [hh j] at hj; cases hj]
  exact updateMade hk hc (resumed_self (.inl state)) (.inl ha)

/-- The group record after a hold (R138). -/
theorem update_hold_record (hh : ∃ j, holdsNow g fixed s j = true) :
    let pr := updProfile g fixed s
    let r := (groupUpdate g s).grp g
    r.state = .holding ∧ r.prof.q = 0 ∧ r.prof.p = pr.p ∧ r.prof.j = pr.j ∧ r.prof.phase = pr.phase ∧
      r.prof.holdTimer = startMs s.timebase (s.grp g).windows.holdTimeout ∧
      r.updateTimer = startMs e (intervalMs (s.grp g).interval) ∧ r.queue = (s.grp g).queue ∧
      r.deadline = (s.grp g).deadline := by
  have made := update_hold_made ht hk hno hc hs hb hh
  have entered : (enterHolding g (testsPassed g fixed e s)).grp g =
      { (testsPassed g fixed e s).grp g with
        state := .holding
        prof := { ((testsPassed g fixed e s).grp g).prof with
          q := 0
          holdTimer := startMs (testsPassed g fixed e s).timebase ((testsPassed g fixed e s).grp g).windows.holdTimeout } } := by
    simp [enterHolding]
  obtain ⟨-, -, -, -, -, -, -, -, time, -⟩ := made.tested.within.part
  intro pr r
  have record : r = _ := made.tail.record
  rw [record, entered, made.tested.record, time]
  exact ⟨rfl, rfl, rfl, rfl, rfl, rfl, rfl, rfl, rfl⟩

/-- The group record where nobody holds it and a member is still away (R125, R136). -/
theorem update_on_record (hh : ∀ j, holdsNow g fixed s j = false) (ha : ∃ j, stillAway g fixed s j = true) :
    let pr := updProfile g fixed s
    let r := (groupUpdate g s).grp g
    r.state = .moving ∧ r.prof.q = pr.q ∧ r.prof.p = pr.p ∧ r.prof.j = pr.j ∧ r.prof.phase = pr.phase ∧
      r.prof.holdTimer = (s.grp g).prof.holdTimer ∧ r.updateTimer = startMs e (intervalMs (s.grp g).interval) ∧
      r.prof.finishTimer = (if (s.grp g).moveKind = .cue ∧ pr.p = 65536 ∧ (s.grp g).prof.finishTimer = none then
        startMs s.timebase 2000 else (s.grp g).prof.finishTimer) ∧
      r.queue = (s.grp g).queue ∧ r.deadline = (s.grp g).deadline := by
  have made := update_on_made ht hk hno hc hs hb hh ha
  have moves : nothingMoves g (driven g fixed (dutyRate (s.grp g).moveKind (s.grp g).prof (updProfile g fixed s))
      (testsPassed g fixed e s)) = false := by
    rw [← Bool.not_eq_true, nothingMoves_iff]
    intro all
    obtain ⟨j, hj⟩ := ha
    obtain ⟨-, group, member⟩ := made.away hj
    have arrived := all j ((((driven_only made.closed).kept j).group).trans group)
    rw [driven_member made.closed, member] at arrived
    cases arrived
  have finish := made.tail.finish
  obtain ⟨-, -, -, -, -, -, -, -, time, -⟩ := made.tested.within.part
  have timers : (updProfile g fixed s).finishTimer = (s.grp g).prof.finishTimer ∧
      (updProfile g fixed s).holdTimer = (s.grp g).prof.holdTimer := by rw [updProfile_eq]; exact ⟨rfl, rfl⟩
  intro pr r
  have record : r = _ := made.tail.record
  have last : r.prof.finishTimer = _ := finish
  rw [moves, time, made.tested.record] at last
  simp only [true_and] at last
  refine ⟨?_, ?_, ?_, ?_, ?_, ?_, ?_, last.trans ?_, ?_, ?_⟩
  case refine_8 =>
    show (if (s.grp g).moveKind = .cue ∧ pr.p = 65536 ∧ pr.finishTimer = none then _ else pr.finishTimer) = _
    rw [timers.1]
  all_goals rw [record, made.tested.record]
  · exact hs
  · exact timers.2

end Paths

/-! ### A jog at its bound -/

/-- Of a member that has been stopped, the duties written after its stop change the generator alone. -/
theorem memberStopped_gen {a b c : Chan} (h : MemberStopped g s a b) (hc : c = { b with gen := c.gen })
    (hr : b.state ≠ .running → c = b) : MemberStopped g s a c := by
  by_cases hb : b.state = .running
  · obtain ⟨rests, parked, starting, fixed, variable_⟩ := h
    have running : c.state = .running := by rw [hc]; exact hb
    have away {x : Chan} (e : b = x) (hx : x.state = a.state) : a.state = .running := by rw [← hx, ← e]; exact hb
    refine ⟨fun k => ?_, fun k => ?_, fun k => ?_, fun k hm => ?_, fun k hm => ?_⟩
    · have := away (rests k) rfl
      rcases k with k | k <;> rw [k] at this <;> cases this
    · have := away (parked k) rfl
      rcases k with k | k | k <;> rw [k] at this <;> cases this
    · obtain ⟨k | k, -⟩ := starting k <;> rw [hb] at k <;> cases k
    · obtain ⟨k | k, -⟩ := fixed k hm <;> rw [hb] at k <;> cases k
    · rw [hc, variable_ k hm]
  · rw [hr hb]; exact h

/-- The controlled stop that an update makes of a jog at its bound (R115, R144). -/
theorem update_bound_made (ht : (s.grp g).updateTimer = some e) (hk : MembersAre g fixed s) (hno : NoTripNow g fixed s)
    (hs : (s.grp g).state = .moving) (hb : AtJogBound g fixed s) :
    let t := groupUpdate g s
    StopMade g s t ∧ (t.grp g).prof.j = (updProfile g fixed s).j ∧
      ((∃ j : Channel, (s.chan j).group = some g ∧ StopTakesTime (s.chan j)) → (t.grp g).state = .stopping) ∧
      (∀ h : GroupId, h ≠ g → t.grp h = s.grp h) ∧
      (∀ j : Channel, KeepsStored (s.chan j) (t.chan j) ∧ (t.chan j).position = (s.chan j).position) ∧ KeepsPart s t := by
  set v := testsPassed g fixed e s with hv
  have tested : Tested g fixed e s v := tested_threeSteps hk
  have chan (i : Channel) : v.chan i = s.chan i := by
    rw [tested.chan, if_neg]
    intro h
    obtain ⟨-, -, reach⟩ := arrivesNow_iff.mp h
    unfold inReach at reach
    rw [hb.1] at reach
    cases reach
  have made := boundMade_update (qd := dutyRate (s.grp g).moveKind (s.grp g).prof (updProfile g fixed s)) (e := e) hk hs hb
  rw [← hv] at made
  have record := boundMade_record (qd := dutyRate (s.grp g).moveKind (s.grp g).prof (updProfile g fixed s)) (e := e) hk hs hb
  obtain ⟨kept, part, others⟩ := controlledStop_kept g v
  have stop : StopMade g v (controlledStop g v) := stopMade_controlledStop (stoppable_testsPassed hk hs)
  dsimp only at record
  rw [← hv] at record
  have update := update_bound ht hk hno hs hb
  rw [← hv] at update
  rw [← update] at made record
  set w := controlledStop g v with hw
  intro t
  obtain ⟨waits, ends, paused, members, trip, queue, start, deadline, hold, finish, phase⟩ := stop
  have state (i : Channel) : (t.chan i).state = (w.chan i).state := by rw [made.gen i]
  have before : (v.grp g).moveKind = (s.grp g).moveKind ∧ (v.grp g).trip = (s.grp g).trip ∧
      (v.grp g).queue = (s.grp g).queue := by rw [tested.record]; exact ⟨rfl, rfl, rfl⟩
  have sameRecord : t.grp g = w.grp g := made.record
  have notices : t.notices = w.notices := (congrArg State.notices made.only.rest :)
  have kinds (f : Bool) : MembersAre g f v ↔ MembersAre g f s := by simp only [MembersAre, chan]
  simp only [chan] at waits ends members
  have stopMade : StopMade g s t := by
    refine ⟨?_, ?_, ?_, fun j hj => ?_, ?_, ?_, ?_, ?_, ?_, ?_, ?_⟩
    · simp only [state]; rw [sameRecord]; exact waits
    · simp only [state]; rw [sameRecord, ← before.1]; exact ends
    · rw [sameRecord]
      intro n hn hp
      have pending := paused n hn hp
      simp only [PendingBoth] at pending ⊢
      rw [notices]; exact pending
    · have stopped := memberStopped_gen (members j hj) (made.gen j) (made.rests j)
      simp only [MemberStopped, kinds] at stopped ⊢
      exact stopped
    · rw [sameRecord, trip]; exact before.2.1
    · rw [sameRecord, queue]; exact before.2.2
    all_goals rw [sameRecord]; assumption
  refine ⟨stopMade, ?_, fun ⟨j, hj, htime⟩ => ?_, fun h hh => ?_, fun j => ?_, ?_⟩
  · rw [record]
    show (v.grp g).prof.j = _
    rw [tested.record]
  · refine stopMade.1 ⟨j, hj, ?_⟩
    obtain ⟨-, -, -, fixed_, variable_⟩ := stopMade.2.2.2.1 j hj
    cases fixed with
    | true =>
      obtain ⟨-, -, -, stopping⟩ := fixed_ htime.1 hk
      rw [stopping htime]; simp
    | false => rw [variable_ htime.1 hk]; show (s.chan j).state ≠ _; rw [htime.1]; simp
  · rw [made.only.groups h hh, others h hh, tested.within.groups h hh]
  · have same := made.gen j
    obtain ⟨stored, position⟩ := kept j
    rw [chan] at stored position
    rw [same]
    exact ⟨stored, position⟩
  · exact keepsPart_trans tested.within.part (keepsPart_trans part made.only.within.part)

end Sys2Proof.Machine
end

section
/-! PROOFS. A group update in MOVING: the load-share decision (R146), the completion of a cue (R116, R117, R135), and the
statement. -/

namespace Sys2Proof.Machine

open Sys2Proof.Safety

variable {s t u v w : State} {g : GroupId} {i j : Channel} {n : ConsoleGroup} {fixed : Bool} {e : Time} {qd : Nat}
  {cause : TripCause} {ch : Option Channel} {d : Dir} {head : Cue} {rest : List Cue}

/-! ### What an update keeps of the load shares, its hard limit switches open or closed -/

/-- The group updates its members (R125). -/
abbrev Updates (r : Group) : Prop := r.state = .moving ∨ r.state = .holding

theorem enterTripped_ends : ¬Updates ((enterTripped g cause ch s).grp g) := by
  have records := (tripRecords_grp (s := s) (g := g) (cause := cause) ch g).trans (if_pos rfl)
  have tripped {r : Group} (h : r.state = .tripped ∨ r.state = .idle) : ¬Updates r := by
    rintro (k | k) <;> rcases h with h | h <;> rw [h] at k <;> cases k
  cases g with
  | console n =>
    rw [enterTripped_console_eq, State.retrip_grp, State.raise_grp, records]
    exact tripped (.inl rfl)
  | pendant =>
    rw [enterTripped_pendant_eq]
    rcases pendantExit_cases (tripRecords .pendant cause ch s).retrip with h | ⟨-, -, -, h⟩ <;> rw [h]
    · rw [State.retrip_grp, records]
      exact tripped (.inl rfl)
    · rw [pendantIdle, pendantEval_grp]
      exact tripped (.inr (by simp))

/-- No group updates its members after a trip of it. -/
theorem tripGroup_ends : ¬Updates ((tripGroup cause ch g s).grp g) := by
  have rests {r : Group} (h : r.state = .idle ∨ r.state = .paused ∨ r.state = .tripped) : ¬Updates r := by
    rintro (k | k) <;> rcases h with h | h | h <;> rw [h] at k <;> cases k
  unfold tripGroup
  split
  next h => exact rests (.inl h)
  next h => exact rests (.inr (.inl h))
  next h => exact rests (.inr (.inr (by simpa [countFurther] using h)))
  all_goals exact enterTripped_ends

/-- From `s` to `t` the load shares of group `g` and the items of its members are kept, but for the trim pauses; and where the
group updates its members in `t`, it did so in `s`, and they are the same ones. -/
structure SharesKept (g : GroupId) (s t : State) : Prop where
  loads : (t.grp g).prof.loadCheck = (s.grp g).prof.loadCheck
  item : ∀ i, t.member g i = { s.member g i with trimPaused := (t.member g i).trimPaused }
  same : Updates (t.grp g) → Updates (s.grp g) ∧ ∀ i, (t.chan i).group = (s.chan i).group

theorem SharesKept.rfl' : SharesKept g s s := ⟨rfl, fun _ => rfl, fun h => ⟨h, fun _ => rfl⟩⟩

theorem SharesKept.trans (h : SharesKept g s t) (k : SharesKept g t u) : SharesKept g s u :=
  ⟨k.loads.trans h.loads, fun i => by rw [k.item, h.item], fun hu =>
    have ⟨ht, same⟩ := k.same hu
    ⟨(h.same ht).1, fun i => (same i).trans ((h.same ht).2 i)⟩⟩

theorem sharesKept_of_members (h : MembersOnly g s t)
    (hi : ∀ i, t.member g i = { s.member g i with trimPaused := (t.member g i).trimPaused }) : SharesKept g s t :=
  ⟨by rw [h.record], hi, fun hu => ⟨by rw [h.record] at hu; exact hu, fun i => (h.kept i).group⟩⟩

theorem limitRefused_member (hi : (s.chan i).group = some g) :
    limitRefused i s = tripGroup .limitSwitch (some i) g
      ((s.setChan i { s.chan i with startPending := none }).raise (.chan i .limit)) := by
  have member : (((s.setChan i { s.chan i with startPending := none }).raise (.chan i .limit)).chan i).group = some g := by
    rw [State.raise_chan, State.chan_setChan, if_pos rfl]; exact hi
  unfold limitRefused tripGroupOf
  dsimp only [State.modChan]
  rw [member]

/-- A start tried on a member, be it refused by an open hard limit switch, which trips the group (R16). -/
theorem sharesKept_startTry (hi : (s.chan i).group = some g) : SharesKept g s (startTry i d s) := by
  have kept := startTry_grpKept i d s g
  refine ⟨kept.loads, fun k => by simp only [State.member, kept.members], fun hu => ?_⟩
  have written {c : Chan} (h : ChanKept (s.chan i) c) (k : Channel) : ((s.setChan i c).chan k).group = (s.chan k).group := by
    rw [State.chan_setChan]
    split
    next e => rw [e, h.group]
    next => rfl
  rcases startTry_cases s i d with ⟨-, h⟩ | ⟨-, h⟩ | ⟨-, h⟩ | ⟨-, -, -, -, h⟩
  · rw [h] at hu ⊢; exact ⟨hu, written (chanKept_startPending _ _)⟩
  · rw [h, limitRefused_member hi] at hu
    exact absurd hu tripGroup_ends
  · rw [h] at hu ⊢; exact ⟨hu, written (chanKept_startPending _ _)⟩
  · rw [h] at hu ⊢; exact ⟨hu, written (chanEnterStarting_kept _ _ _)⟩

/-- Step 7 on one member. -/
theorem sharesKept_trimOf (hi : Updates (s.grp g) → (s.chan i).group = some g) : SharesKept g s (trimOf g s i) := by
  have flagged (b : Bool) : SharesKept g s (s.modMember g i fun m => { m with trimPaused := b }) := by
    refine sharesKept_of_members (atMember_modMember (i := i) _).only fun k => ?_
    rw [modMember_member]
    split <;> simp_all
  by_cases hs : Updates (s.grp g)
  · by_cases hp : TrimPauses (s.grp g) (s.member g i) (s.chan i)
    · rw [trimOf_of_pauses hs hp]
      exact (flagged true).trans
        (sharesKept_of_members (atMember_setChan (s := s.modMember g i _) (hi hs) (chanStop_kept _ _ _)).only fun _ => rfl)
    · by_cases he : TrimEnds (s.grp g) (s.member g i) (s.chan i)
      · cases hm : (s.member g i).plan with
        | none =>
          have still : trimOf g s i = s := by
            unfold trimOf
            dsimp only
            rw [if_pos hs, if_neg hp]
            unfold trimRestart
            simp only [hm]
          rw [still]
          exact .rfl'
        | some p =>
          rw [trimOf_of_ends hs he hm]
          exact (flagged false).trans (sharesKept_startTry (s := s.modMember g i _) (hi hs))
      · rw [trimOf_of_still (.inr ⟨hp, he⟩)]
        exact .rfl'
  · rw [trimOf_of_still (.inl hs)]
    exact .rfl'

theorem sharesKept_trims {l : List Channel} (hl : ∀ i ∈ l, Updates (s.grp g) → (s.chan i).group = some g) :
    SharesKept g s (l.foldl (trimOf g) s) := by
  induction l generalizing s with
  | nil => exact .rfl'
  | cons i l ih =>
    have first : SharesKept g s (trimOf g s i) := sharesKept_trimOf (hl i (by simp))
    refine first.trans (ih fun k hk hu => ?_)
    obtain ⟨before, same⟩ := first.same hu
    rw [same]
    exact hl k (by simp [hk]) before

theorem sharesKept_driven : SharesKept g s (driven g fixed qd s) := by
  unfold driven
  split
  next => exact sharesKept_trims fun i hi _ => (State.mem_members s g i).mp hi
  next =>
    obtain ⟨only, item, -⟩ := dutyStep_spec (s := s) (g := g) (qd := qd)
    exact sharesKept_of_members only fun i => by rw [item]

theorem sharesKept_settled : SharesKept g s (settled g s) := by
  obtain ⟨f, written, -⟩ := settled_eq (g := g) (s := s)
  have record : (settled g s).grp g = { s.grp g with prof := { (s.grp g).prof with finishTimer := f } } := by
    rw [written]; simp [State.modProf]
  refine ⟨by rw [record], fun i => ?_, fun h => ⟨by rw [record] at h; exact h, fun i => by rw [settled_chan]⟩⟩
  have item : (settled g s).member g i = s.member g i := by unfold State.member; rw [record]
  rw [item]

/-- Steps 7 to 9 where a member is not arrived. -/
theorem sharesKept_updateTail (ha : ∃ j, (s.chan j).group = some g ∧ (s.member g j).arrived = false) :
    SharesKept g s (updateTail g qd s) := by
  set x := driven g (s.groupFixed g) qd s with hx
  have kept : SharesKept g s x := sharesKept_driven
  have tail : updateTail g qd s = match (x.grp g).moveKind with
      | .jog => x
      | .cue => completionTest g (finishStep g x) := rfl
  have last : SharesKept g x (settled g x) := sharesKept_settled
  suffices made : updateTail g qd s = settled g x by rw [made]; exact kept.trans last
  cases hm : (x.grp g).moveKind with
  | jog =>
    have same : settled g x = x := by unfold settled; rw [hm]
    rw [tail, hm, same]
  | cue =>
    have same : settled g x = finishStep g x := by unfold settled; rw [hm]
    rw [tail, hm, ← same]
    have all := kept.trans last
    refine completionTest_of_notDone ?_
    by_cases hs : ((settled g x).grp g).state = .moving
    · obtain ⟨j, hj, away⟩ := ha
      refine .inr ⟨j, ((all.same (.inl hs)).2 j).trans hj, .inl ?_⟩
      rw [all.item]
      exact away
    · exact .inl hs

/-! ### The load-share decision -/

/-- With a member still away an update in MOVING leaves the load shares as step 5 left them (R146). -/
theorem update_shares (ht : (s.grp g).updateTimer = some e) (hk : MembersAre g fixed s) (hno : NoTripNow g fixed s)
    (hs : (s.grp g).state = .moving) (ha : ∃ j, stillAway g fixed s j = true) :
    let v := testsPassed g fixed e s
    let t := groupUpdate g s
    (t.grp g).prof.loadCheck = (v.grp g).prof.loadCheck ∧
      ∀ i, t.member g i = { v.member g i with trimPaused := (t.member g i).trimPaused } := by
  intro v t
  have tested : Tested g fixed e s v := tested_threeSteps hk
  by_cases hb : AtJogBound g fixed s
  · have made : t = _ := update_bound ht hk hno hs hb
    rw [made]
    refine ⟨?_, fun i => by rw [boundMade_member hk hs hb]⟩
    rw [boundMade_record hk hs hb]
    rfl
  · obtain ⟨w, qd, resumed, made, -⟩ := update_resumes ht hk hno (.inl hs) fun h => hb h.2
    have away : ∃ j, (w.chan j).group = some g ∧ (w.member g j).arrived = false := by
      obtain ⟨j, hj⟩ := ha
      have still : notArrived g v j = true := by rw [tested.notArrived]; exact hj
      simp only [notArrived, Bool.and_eq_true, decide_eq_true_eq, Bool.not_eq_true'] at still
      exact ⟨j, by rw [resumed.chan]; exact still.1, by rw [resumed.member]; exact still.2⟩
    have kept : SharesKept g w t := by simp only [t]; rw [made]; exact sharesKept_updateTail away
    refine ⟨?_, fun i => ?_⟩
    · rw [kept.loads, resumed.record]
    · rw [kept.item, resumed.member]

/-- The decision at the first update in MOVING (R146). -/
theorem update_decides (ht : (s.grp g).updateTimer = some e) (hk : MembersAre g fixed s) (hno : NoTripNow g fixed s)
    (hs : (s.grp g).state = .moving) (hu : (s.grp g).prof.loadCheck = .undecided)
    (ha : ∃ j, stillAway g fixed s j = true) :
    let t := groupUpdate g s
    let taken := loadTaken g s
    ((channels.filter taken).length < 2 ∨ loadTotal taken s < 50 → (t.grp g).prof.loadCheck = .off) ∧
      (2 ≤ (channels.filter taken).length → 50 ≤ loadTotal taken s →
        (t.grp g).prof.loadCheck = .on ∧
        ∀ j : Channel, (s.chan j).group = some g →
          (taken j = true →
            (t.member g j).refShare = some ((s.chan j).load.filtered * 1024 / loadTotal taken s) ∧
            (t.member g j).viol = 0) ∧
          (taken j = false → (t.member g j).refShare = (s.member g j).refShare)) := by
  intro t taken
  have three : StepThree g fixed e s (threeSteps g fixed e s) := stepThree (groupFixed_of_membersAre hk)
  obtain ⟨check, items⟩ := update_shares ht hk hno hs ha
  have loads := three.loadCheck
  rw [updProfile_eq] at loads
  have state := three.state
  set x := threeSteps g fixed e s with hx
  have decided : testsPassed g fixed e s = decideShares g x := by
    unfold testsPassed loadStep
    rw [← hx, loads, state, hs]
    simp only [hu]
  have total : loadSum x (channels.filter taken) = loadTotal taken s := three.loadSum taken
  have off := decideShares_off (g := g) (s := x)
  have on := decideShares_on (g := g) (s := x)
  have found : (x.members g).filter (loadValid x) = channels.filter taken := three.taken
  rw [found, total] at off on
  rw [decided] at check items
  refine ⟨fun h => ?_, fun h2 h50 => ?_⟩
  · rw [check, off h]
    simp [State.modProf]
  · have made := on (by omega)
    refine ⟨?_, fun j hj => ?_⟩
    · rw [check, made]
      simp [State.modProf]
    · have item : t.member g j = { (decideShares g x).member g j with trimPaused := (t.member g j).trimPaused } := items j
      have load := three.load j
      have share := three.refShare hj
      have at_ : (decideShares g x).member g j = if taken j = true then
          { x.member g j with refShare := some (shareOf (x.chan j).load.filtered (loadTotal taken s)), viol := 0 }
          else x.member g j := by
        rw [made]
        simp only [State.member, State.modProf, State.modGrp_eq, State.grp_setGrp, if_true, Chans.get_mapIdx]
        refine if_congr ?_ rfl rfl
        simp [mem_channels]
      refine ⟨fun h => ?_, fun h => ?_⟩
      · rw [item, at_, if_pos h, load]
        exact ⟨rfl, rfl⟩
      · rw [item, at_, if_neg (by simp [h])]
        exact share

end Sys2Proof.Machine
end

section
/-! PROOFS. The update that completes a cue (R116, R117, R135), and the statement on the updates in MOVING. -/

namespace Sys2Proof.Machine

open Sys2Proof.Safety

variable {s t u v w : State} {g : GroupId} {i j : Channel} {n : ConsoleGroup} {fixed : Bool} {e : Time} {qd : Nat}
  {head : Cue} {rest : List Cue}

/-! ### The completion of a cue by an update -/

/-- What a completion leaves depends on no item of the profile record but the plans of the members. -/
theorem cueCompleted_congr (hv : v = { s with groups := v.groups })
    (hp : ∀ i, (s.chan i).group = some (.console n) →
      (v.member (.console n) i).plan = (s.member (.console n) i).plan)
    (hw : (v.grp (.console n)).windows = (s.grp (.console n)).windows)
    (hd : (v.grp (.console n)).deadline = (s.grp (.console n)).deadline) (hk : UpdateKeeps (.console n) s t)
    (h : CueCompleted n head rest v t) : CueCompleted n head rest s t := by
  have chan (i : Channel) : v.chan i = s.chan i := by rw [hv]; rfl
  have chans : v.chans = s.chans := by rw [hv]
  have stops : v.stops = s.stops := by rw [hv]
  have supply : v.supply = s.supply := by rw [hv]
  have time : v.timebase = s.timebase := by rw [hv]
  have notice (x : Notice) : (v.raise x).notices = (s.raise x).notices := by rw [hv]; rfl
  have notices (x y : Notice) : ((v.raise x).raise y).notices = ((s.raise x).raise y).notices := by rw [hv]; rfl
  have same : Missed (.console n) v ↔ Missed (.console n) s := by
    refine exists_congr fun j => ?_
    rw [chan, hw]
    refine and_congr_right fun hj => ?_
    have plan := hp j hj
    simp only [State.member] at plan
    rw [plan]
  obtain ⟨ends, follows⟩ := h
  refine ⟨fun k => ?_, fun cue more m x hr hf hdl he hm hrst hoff hfail hch hen hhd hx => ?_⟩
  · obtain ⟨state, queue, deadline, update, finish, missed, kept, unmoved, -⟩ := ends (by rw [hd, stops]; exact k)
    exact ⟨state, queue, deadline, update, finish, fun h => (missed (same.mpr h)).trans (notices _ _),
      fun h => (kept (mt same.mp h)).trans (notice _), unmoved.trans chans, hk⟩
  · obtain ⟨state, kind, queue, deadline, start, progress, rate, away, missed, kept, -⟩ :=
      follows cue more m x hr hf (by rw [hd]; exact hdl) (by rw [stops]; exact he) (by rw [stops]; exact hm)
        (by rw [stops]; exact hrst) (by rw [supply]; exact hoff) (by rw [supply]; exact hfail)
        (fun j hj => by rw [chan] at hj ⊢; exact hch j hj) (fun e he => by rw [chan]; exact hen e he) hhd
        (by rw [chan]; exact hx)
    exact ⟨state, kind, queue, deadline.trans hd, by rw [start, time], progress, rate, away,
      fun h => (missed (same.mpr h)).trans (notices _ _), fun h => (kept (mt same.mp h)).trans (notice _), hk⟩

/-- Steps 1 to 5 write the channel and group records alone. -/
theorem testsPassed_rest (hk : MembersAre g fixed s) :
    testsPassed g fixed e s =
      { s with chans := (testsPassed g fixed e s).chans, groups := (testsPassed g fixed e s).groups } := by
  have three : StepThree g fixed e s (threeSteps g fixed e s) := stepThree (groupFixed_of_membersAre hk)
  obtain ⟨l, ms, written, -⟩ := loadStep_writes (g := g) (s := threeSteps g fixed e s)
  have first := three.only.rest
  have made : testsPassed g fixed e s = _ := written
  rw [made]
  generalize threeSteps g fixed e s = x at first
  rw [first]
  rfl

/-- A member that is arrived has nothing to be trimmed or driven for. -/
theorem driven_of_arrived (ha : ∀ i, (s.chan i).group = some g → (s.member g i).arrived = true) :
    driven g fixed qd s = s := by
  have still (f : State → Channel → State) (hf : ∀ i ∈ s.members g, f s i = s) :
      (s.members g).foldl f s = s := by
    generalize s.members g = l at hf
    induction l with
    | nil => rfl
    | cons i l ih => rw [List.foldl_cons, hf i (by simp)]; exact ih fun k hk => hf k (by simp [hk])
  have away (i : Channel) (hi : i ∈ s.members g) : ¬(s.member g i).arrived = false := by
    rw [ha i ((State.mem_members s g i).mp hi)]; simp
  unfold driven
  split
  · exact still _ fun i hi => trimOf_of_still (.inr ⟨fun h => away i hi h.2.1, fun h => away i hi h.2.1⟩)
  · refine still _ fun i hi => ?_
    unfold dutyFor
    dsimp only
    split
    · rfl
    · exact if_neg fun h => away i hi h.1

/-- With every member of a MOVING cue arrived and PARKED, the tail of the update is the completion. -/
theorem updateTail_completes (hs : (s.grp g).state = .moving) (hm : (s.grp g).moveKind = .cue)
    (ha : ∀ i, (s.chan i).group = some g → (s.member g i).arrived = true ∧ (s.chan i).state = .parked) :
    updateTail g qd s = completeFrom g (s.grp g).queue s := by
  have arrived := nothingMoves_iff.mpr fun i hi => (ha i hi).1
  have still : driven g (s.groupFixed g) qd s = s := driven_of_arrived fun i hi => (ha i hi).1
  have parked := (s.allParked_iff g).mpr fun i hi => (ha i hi).2
  have finish : finishStep g s = s := by
    unfold finishStep
    dsimp only
    exact if_neg fun h => by simp [arrived] at h
  have tail : updateTail g qd s = match ((driven g (s.groupFixed g) qd s).grp g).moveKind with
      | .jog => driven g (s.groupFixed g) qd s
      | .cue => completionTest g (finishStep g (driven g (s.groupFixed g) qd s)) := rfl
  rw [tail, still, hm]
  simp only [finish]
  unfold completionTest
  dsimp only
  exact if_pos ⟨hs, hm, arrived, parked⟩

/-- An update that finds every member of a MOVING cue arrived and PARKED. -/
theorem update_completes (hq : (s.grp (.console n)).queue = head :: rest) (ht : (s.grp (.console n)).updateTimer = some e)
    (hs : (s.grp (.console n)).state = .moving) (hm : (s.grp (.console n)).moveKind = .cue)
    (hk : MembersAre (.console n) fixed s) (hno : NoTripNow (.console n) fixed s)
    (ha : ∀ j : Channel, (s.chan j).group = some (.console n) →
      (s.member (.console n) j).arrived = true ∧ (s.chan j).state = .parked) :
    CueCompleted n head rest s (groupUpdate (.console n) s) ∧
      (head.follow = .stopAtEnd ∨ rest = [] ∨ (s.grp (.console n)).deadline = none ∨ s.stops.estop ≠ .clear →
        ((groupUpdate (.console n) s).grp (.console n)).prof.p = (updProfile (.console n) fixed s).p) := by
  set g : GroupId := .console n with hg
  set v := testsPassed g fixed e s with hv
  have tested : Tested g fixed e s v := tested_threeSteps hk
  have none_ (i : Channel) : notArrived g s i = false := by
    cases h : notArrived g s i with
    | false => rfl
    | true =>
      simp only [notArrived, Bool.and_eq_true, decide_eq_true_eq, Bool.not_eq_true'] at h
      obtain ⟨hi, away⟩ := h
      rw [show ((s.grp g).prof.members.get i).arrived = true from (ha i hi).1] at away
      cases away
  have chan (i : Channel) : v.chan i = s.chan i := by
    rw [tested.chan, if_neg (by simp [arrivesNow, none_])]
  have rest_ : v = { s with groups := v.groups } := by
    have chans : v.chans = s.chans := Chans.ext_get chan
    have made : v = { s with chans := v.chans, groups := v.groups } := testsPassed_rest hk
    rw [chans] at made
    exact made
  have all (j : Channel) (hj : (v.chan j).group = some g) : (v.member g j).arrived = true ∧ (v.chan j).state = .parked := by
    rw [chan] at hj ⊢
    obtain ⟨arrived, parked⟩ := ha j hj
    exact ⟨by rw [tested.member j hj]; simp [arrived], parked⟩
  have record := tested.record
  have free : ¬AtJogBound g fixed s := fun ⟨h, _⟩ => by rw [hm] at h; cases h
  have update : groupUpdate g s = completeFrom g (head :: rest) v := by
    rw [update_goes_on ht hk hno hs free fun ⟨j, hj⟩ => by simp [holdsNow, stillAway, none_] at hj,
      updateTail_completes (by rw [record]; exact hs) (by rw [record]; exact hm) all, record]
    exact congrArg (completeFrom g · v) hq
  have completed_ : CueCompleted n head rest v (completeFrom g (head :: rest) v) :=
    cueCompleted_completeFrom fun j hj => (all j hj).2
  rw [← update] at completed_
  have keeps : UpdateKeeps g s (groupUpdate g s) := by
    rw [update]
    exact (tested.within.trans (within_completeFrom _ calm_console)).updateKeeps
  have deadline : (v.grp g).deadline = (s.grp g).deadline := by rw [record]
  have stops : v.stops = s.stops := by rw [rest_]
  refine ⟨cueCompleted_congr rest_ (fun i hi => by rw [tested.member i hi]) (by rw [record]) deadline keeps
    completed_, fun h => ?_⟩
  rw [update, completeFrom_drops (by rw [deadline, stops]; exact h), dropDeadline_grp, completed_grp, record]
  rfl

/-! ### The statement -/

/-- An update of a VARIABLE cue in ACCEL, short of its end and not yet due to slow down (R113, R128). -/
theorem update_accel (ht : (s.grp (.console n)).updateTimer = some e) (hs : (s.grp (.console n)).state = .moving)
    (hm : (s.grp (.console n)).moveKind = .cue) (hk : MembersAre (.console n) false s)
    (hi : (s.chan i).group = some (.console n)) (ha : (s.member (.console n) i).arrived = false)
    (hp : (updProfile (.console n) false s).p < 65536) :
    let t := groupUpdate (.console n) s
    let pr := updProfile (.console n) false s
    (t.grp (.console n)).prof.p = pr.p ∧
      ((t.grp (.console n)).state = .moving → (t.grp (.console n)).prof.q = pr.q ∧
        (t.grp (.console n)).prof.phase = pr.phase) ∧
      (Updates (t.grp (.console n)) →
        (t.grp (.console n)).updateTimer = startMs e (intervalMs (s.grp (.console n)).interval)) ∧
      UpdateKeeps (.console n) s t := by
  intro t pr
  have away : stillAway (.console n) false s i = true := by
    refine stillAway_iff.mpr ⟨hi, ha, ?_⟩
    unfold inReach
    rw [hm]
    cases ((s.grp (.console n)).prof.members.get i).plan with
    | none => rfl
    | some m => simp [hp.ne]
  rcases update_trips_or_passes ht hs hk calm_console with ⟨tripped, progress, keeps⟩ | hno
  · have ended : ¬Updates (t.grp (.console n)) := by
      rintro (h | h) <;> rw [tripped] at h <;> cases h
    exact ⟨progress, fun h => absurd (.inl h) ended, fun h => absurd h ended, keeps⟩
  · have free : ¬AtJogBound (.console n) false s := fun ⟨h, _⟩ => by rw [hm] at h; cases h
    by_cases hh : ∃ j, holdsNow (.console n) false s j = true
    · obtain ⟨state, -, progress, -, -, -, timer, -⟩ := update_hold_record ht hk hno (nomatch ·) hs free hh
      have state : (t.grp (.console n)).state = .holding := state
      exact ⟨progress, fun h => (by rw [state] at h; cases h), fun _ => timer,
        (update_hold_made ht hk hno (nomatch ·) hs free hh).within.updateKeeps⟩
    · have nobody (j : Channel) : holdsNow (.console n) false s j = false := by
        rw [← Bool.not_eq_true]; exact fun h => hh ⟨j, h⟩
      obtain ⟨-, rate, progress, -, phase, -, timer, -⟩ :=
        update_on_record ht hk hno (nomatch ·) hs free nobody ⟨i, away⟩
      exact ⟨progress, fun _ => ⟨rate, phase⟩, fun _ => timer,
        (update_on_made ht hk hno (nomatch ·) hs free nobody ⟨i, away⟩).within.updateKeeps⟩

/-- Settles O23: an update in MOVING advances the progress, holds, stops a jog at its bound, decides the load-share check and
completes a cue. -/
theorem updateAdvancesProgress : Obligations.UpdateAdvancesProgress := by
  unfold Obligations.UpdateAdvancesProgress
  intro n i e k fixed s
  refine ⟨?accel, ?moving, ?completes⟩
  case accel =>
    intro g ht hs hm hi hk ha hp hd hf
    have kinds : MembersAre g false s := ⟨⟨i, hi⟩, hk⟩
    obtain ⟨progress, rate, phase⟩ := updProfile_accel hs hm hp hd hf
    obtain ⟨made, moving, timer, groups, outside, records, part⟩ :=
      update_accel ht hs hm kinds hi ha (by rw [progress]; exact hf)
    refine ⟨_, exec_groupUpdate, made.trans progress, fun h => ?_, timer, groups, outside, records, part⟩
    obtain ⟨q, ph⟩ := moving h
    rw [q, ph]
    exact ⟨rate, phase⟩
  case moving =>
    intro ht hs hk hno pr next
    refine ⟨fun hb hc hh => ?_, fun hb hc hh ha => ?_, fun hb => ?_, fun hu ha => ?_⟩
    · obtain ⟨state, q, p, j, phase, hold, timer, queue, deadline⟩ := update_hold_record ht hk hno (fun _ => hc) hs hb hh
      exact ⟨_, exec_groupUpdate, state, q, p, j, phase, hold, timer, queue, deadline,
        (update_hold_made ht hk hno (fun _ => hc) hs hb hh).within.updateKeeps⟩
    · obtain ⟨state, q, p, j, phase, hold, timer, finish, queue, deadline⟩ :=
        update_on_record ht hk hno (fun _ => hc) hs hb hh ha
      exact ⟨_, exec_groupUpdate, state, q, p, j, phase, hold, timer, finish, queue, deadline,
        (update_on_made ht hk hno (fun _ => hc) hs hb hh ha).within.updateKeeps⟩
    · exact ⟨_, exec_groupUpdate, update_bound_made ht hk hno hs hb⟩
    · exact ⟨_, exec_groupUpdate, update_decides ht hk hno hs hu ha⟩
  case completes =>
    intro head rest hq ht hs hm hk hno ha g
    exact ⟨_, exec_groupUpdate, update_completes hq ht hs hm hk hno ha⟩

end Sys2Proof.Machine
end

section
/-! PROOFS. JOG (R112): its frame, its plan (R143), and the start of a jog. -/

namespace Sys2Proof.Machine

open Sys2Proof.Safety

variable {s t u v w : State} {g : GroupId} {i j : Channel} {n : ConsoleGroup} {c : Console} {d : Dir} {f ramp : Nat}
  {fixed : Bool} {p : List Byte}

/-! ### The least of a list -/

theorem least_of_min {l : List Channel} {q : Channel → Nat} {m : Nat} (h : (l.map q).min? = some m) :
    ∃ i ∈ l, q i = m ∧ ∀ j ∈ l, q i ≤ q j := by
  obtain ⟨found, least⟩ := List.min?_eq_some_iff.mp h
  obtain ⟨i, hi, rfl⟩ := List.mem_map.mp found
  exact ⟨i, hi, rfl, fun j hj => least _ (List.mem_map_of_mem hj)⟩

theorem exists_min {l : List Channel} {q : Channel → Nat} (h : ∃ i, i ∈ l) : ∃ m, (l.map q).min? = some m := by
  obtain ⟨i, hi⟩ := h
  refine Option.isSome_iff_exists.mp (List.isSome_min?_iff.mpr ?_)
  exact List.ne_nil_of_mem (List.mem_map_of_mem hi)

/-! ### The plan of a jog (R143) -/

theorem planJog_member (hi : (s.chan i).group = some g) :
    (planJog g d f ramp s).members.get i = freshMember (jogMemberPlan (s.groupFixed g) d f (s.chan i)) false := by
  simp [planJog, freshProfile, hi]

theorem planJog_cruise (hk : MembersAre g fixed s) :
    ∃ i : Channel, LeastOf (fun j => (s.chan j).group = some g) (stepUnder g f fixed s) i ∧
      (planJog g d f ramp s).qCruise = max 1 (stepUnder g f fixed s i) := by
  have kind := groupFixed_of_membersAre hk
  obtain ⟨m, hm⟩ := exists_min (q := stepUnder g f fixed s) (l := s.members g)
    (hk.1.imp fun i hi => (State.mem_members s g i).mpr hi)
  obtain ⟨i, hi, rfl, least⟩ := least_of_min hm
  refine ⟨i, ⟨(State.mem_members s g i).mp hi, fun j hj => least j ((State.mem_members s g j).mpr hj)⟩, ?_⟩
  have steps : ((s.members g).map fun i => jogMemberPlan fixed d f (s.chan i)).map
      (fun m => m.veff * intervalMs (s.grp g).interval / 1000) = (s.members g).map (stepUnder g f fixed s) := by
    rw [List.map_map]; rfl
  have cruise : (planJog g d f ramp s).qCruise = jogCruise (intervalMs (s.grp g).interval)
      ((s.members g).map fun i => jogMemberPlan (s.groupFixed g) d f (s.chan i)) := rfl
  rw [cruise, kind, jogCruise, steps, hm]

theorem planJog_bound :
    ((∀ i : Channel, ¬BindsJog g s i) → (planJog g d f ramp s).jMax = none) ∧
      ((∃ i : Channel, BindsJog g s i) →
        ∃ i : Channel, LeastOf (BindsJog g s) (roomOf d s) i ∧ (planJog g d f ramp s).jMax = some (roomOf d s i)) := by
  have bound : (planJog g d f ramp s).jMax =
      (((s.members g).filter fun i => softLimitsBind (s.chan i)).map (roomOf d s)).min? := by
    cases d <;> rfl
  have binds (i : Channel) : i ∈ (s.members g).filter (fun i => softLimitsBind (s.chan i)) ↔ BindsJog g s i := by
    rw [List.mem_filter, State.mem_members]
    simp [softLimitsBind, BindsJog, and_comm]
  rw [bound]
  refine ⟨fun h => ?_, fun ⟨k, hk⟩ => ?_⟩
  · have empty : (s.members g).filter (fun i => softLimitsBind (s.chan i)) = [] :=
      List.eq_nil_iff_forall_not_mem.mpr fun i hi => h i ((binds i).mp hi)
    rw [empty]; rfl
  · obtain ⟨m, hm⟩ := exists_min (q := roomOf d s) ⟨k, (binds k).mpr hk⟩
    obtain ⟨i, hi, rfl, least⟩ := least_of_min hm
    exact ⟨i, ⟨(binds i).mp hi, fun j hj => least j ((binds j).mpr hj)⟩, hm⟩

/-- The plan of a jog is the rule's (R143). -/
theorem jogPlanned_planJog (hk : MembersAre g fixed s) : JogPlanned g d f ramp fixed s (planJog g d f ramp s) := by
  have kind := groupFixed_of_membersAre hk
  obtain ⟨free, bound⟩ := planJog_bound (g := g) (d := d) (f := f) (ramp := ramp) (s := s)
  refine ⟨⟨rfl, ?_, rfl, rfl, rfl, rfl⟩, rfl, rfl, planJog_cruise hk, free, bound, fun i hi => ?_⟩
  · show (if s.groupFixed g then Phase.cruise else .accel) = _
    rw [kind]
  · rw [planJog_member hi, kind]
    exact ⟨rfl, rfl, decide_eq_true ⟨rfl, rfl, rfl, rfl, rfl⟩⟩

theorem planJog_congr (hc : ∀ i, t.chan i = s.chan i) (hi : (t.grp g).interval = (s.grp g).interval) :
    planJog g d f ramp t = planJog g d f ramp s := by
  have chans : t.chans = s.chans := Chans.ext_get hc
  have members : t.members g = s.members g := State.members_congr g fun i => by rw [hc]
  have kind : t.groupFixed g = s.groupFixed g := groupFixed_congr (fun i => by rw [hc]) fun i => by rw [hc]
  have inside (i : Channel) : t.isMember g i = s.isMember g i := by simp only [State.isMember, hc]
  simp only [planJog, jogBound, hc, hi, chans, members, kind, inside]

/-! ### The start of a jog (R112, R113) -/

/-- The record that the start of a jog writes, before the start requests. -/
def jogStarted (g : GroupId) (d : Dir) (f ramp : Nat) (s : State) : State :=
  s.setGrp g (startedRecord s.timebase { s.grp g with moveKind := .jog, prof := planJog g d f ramp s })

theorem startJog_sends :
    startJog g d f ramp s = ((jogStarted g d f ramp s).members g).foldl (sendStart g) (jogStarted g d f ramp s) :=
  startJog_eq g d f ramp s

theorem jogStarted_grp : (jogStarted g d f ramp s).grp g =
    startedRecord s.timebase { s.grp g with moveKind := .jog, prof := planJog g d f ramp s } := by simp [jogStarted]

theorem jogStarted_member (hi : (s.chan i).group = some g) : (jogStarted g d f ramp s).member g i =
    freshMember (jogMemberPlan (s.groupFixed g) d f (s.chan i)) false := by
  have item : (jogStarted g d f ramp s).member g i = (planJog g d f ramp s).members.get i := by
    unfold State.member; rw [jogStarted_grp]; rfl
  rw [item, planJog_member hi]

/-- What the start of a jog leaves where no stop forbids it and the hard limit switches ahead are closed. -/
theorem startJog_spec (hstop : ¬(s.stops.estop ≠ .clear ∨ s.stops.monitor = .low))
    (hl : ∀ i, (s.chan i).group = some g → limitOpen (s.chan i) d = false) :
    MembersOnly g (jogStarted g d f ramp s) (startJog g d f ramp s) ∧
      (startJog g d f ramp s).grp g = (jogStarted g d f ramp s).grp g ∧
      ∀ i, (s.chan i).group = some g → Sent d (s.chan i) ((startJog g d f ramp s).chan i) := by
  have free : StartFree g (jogStarted g d f ramp s) := by
    refine ⟨by rw [jogStarted_grp]; rfl, hstop, fun i p hi hp _ => ?_⟩
    have member : (s.chan i).group = some g := hi
    rw [jogStarted_member member] at hp
    obtain rfl := Option.some_inj.mp hp
    exact hl i member
  obtain ⟨only, record, sent⟩ := sends_spec free
  rw [startJog_sends]
  refine ⟨only, record, fun i hi => ?_⟩
  have item := jogStarted_member (d := d) (f := f) (ramp := ramp) hi
  exact (sent i hi).2 _ (by rw [item]; rfl) (by rw [item]; rfl)

/-! ### The request -/

theorem exec_jog (h : Ready c [] s) (hp : p.length = 4) :
    exec (.jog c p) s = .next (replied c 0x37
      (withField (groupAt p 0) (fun g => withField (directionAt p 1) fun d => jogGroup c g d (byteAt p 2) (byteAt p 3))
        (refreshLink c s))) :=
  congrArg Host.Outcome.next (fixedFrame_eq (ready_of_length h (by omega)) hp _)

theorem jogRefusal_refreshLink : jogRefusal g d (refreshLink c s) = jogRefusal g d s := by
  have part : partRefusal (refreshLink c s) = partRefusal s := by simp [partRefusal]
  unfold jogRefusal
  rw [part]
  simp only [SomeMember, refreshLink_chan]

/-- A jog that no check refuses is asked of no channel under a stop or at a hard limit switch. -/
theorem jogRefusal_none (h : jogRefusal g d s = none) :
    ¬(s.stops.estop ≠ .clear ∨ s.stops.monitor = .low) ∧ ∀ i, (s.chan i).group = some g → limitOpen (s.chan i) d = false := by
  have part : partRefusal s = none := by
    cases hp : partRefusal s with
    | none => rfl
    | some r => unfold jogRefusal at h; simp [hp] at h
  refine ⟨(partRefusal_none part).1, fun i hi => ?_⟩
  unfold jogRefusal at h
  rw [part] at h
  dsimp only at h
  split_ifs at h with _ _ open_
  have closed := fun k => open_ ⟨i, hi, k⟩
  cases d <;> exact Bool.eq_false_iff.mpr closed

section Taken

variable (hj : jogRefusal (.console n) d s = none)
include hj

/-- What a taken JOG leaves (R112, R113, R90). -/
theorem jogTaken_spec :
    let k : GroupId := .console n
    let t := jogTaken n d f ramp s
    t.grp k = startedRecord s.timebase
        { s.grp k with
          jogSpeed := clamp 1 100 f, jogRamp := clamp 2 50 ramp
          deadline := startMs s.timebase s.settings.holdWindow, moveKind := .jog
          prof := planJog k d (clamp 1 100 f) (clamp 2 50 ramp) s } ∧
      t.notices = s.notices ∧ Within k s t ∧ ∀ i, (s.chan i).group = some k → Sent d (s.chan i) (t.chan i) := by
  intro k t
  obtain ⟨stop, switches⟩ := jogRefusal_none hj
  set v := s.setGrp k { s.grp k with
    jogSpeed := clamp 1 100 f, jogRamp := clamp 2 50 ramp, deadline := startMs s.timebase s.settings.holdWindow } with hv
  have record : v.grp k = { s.grp k with
      jogSpeed := clamp 1 100 f, jogRamp := clamp 2 50 ramp, deadline := startMs s.timebase s.settings.holdWindow } := by
    simp [v]
  have made : t = startJog k d (clamp 1 100 f) (clamp 2 50 ramp) v := rfl
  obtain ⟨only, same, sent⟩ := startJog_spec (g := k) (s := v) (f := clamp 1 100 f) (ramp := clamp 2 50 ramp) stop switches
  have plan : planJog k d (clamp 1 100 f) (clamp 2 50 ramp) v = planJog k d (clamp 1 100 f) (clamp 2 50 ramp) s :=
    planJog_congr (fun _ => rfl) (by rw [record])
  refine ⟨?_, ?_, ?_, sent⟩
  · rw [made, same, jogStarted_grp, plan, record]; rfl
  · rw [made, only.rest]; rfl
  · rw [made]
    exact (within_setGrp _).trans (within_startJog calm_console _ _)

end Taken

/-- Settles O47, by the tests of R112 in their order. -/
theorem jogStartsTheGroup : Obligations.JogStartsTheGroup := by
  unfold Obligations.JogStartsTheGroup
  intro c g d f ramp s h u k p echo
  have hgrp (k : GroupId) : u.grp k = s.grp k := refreshLink_grp s c k
  have hchan (i : Channel) : u.chan i = s.chan i := refreshLink_chan s c i
  have hown : owns c u g = true ↔ OwnedBy c s g := by rw [owns_iff, hgrp]
  have frame : exec (.jog c p) s = .next (replied c 0x37 (jogGroup c g d f.toNat ramp.toNat u)) := by
    have dir : directionAt p 1 = some d := by cases d <;> rfl
    rw [exec_jog h (by rfl), groupAt_ofNat_cons, withField_some, dir, withField_some]
    rfl
  have echoed : jogEcho g u = echo := by rw [jogEcho, hgrp]
  have empty : (u.members k).isEmpty = true ↔ ∀ i : Channel, (s.chan i).group ≠ some k := by
    rw [List.isEmpty_iff, List.eq_nil_iff_forall_not_mem]
    exact forall_congr' fun i => by rw [State.mem_members, hchan]
  have reaches (ho : OwnedBy c s g) (hs : (s.grp k).state = .idle) (hm : ∃ i : Channel, (s.chan i).group = some k) :
      jogGroup c g d f.toNat ramp.toNat u =
        match jogCheck k d u with
        | some r => refuseWith r (jogEcho g) u
        | none => takenWith .ok (jogEcho g) (jogTaken g d f.toNat ramp.toNat u) := by
    have free : ¬(u.members k).isEmpty = true := fun e => (empty.mp e) _ hm.choose_spec
    exact (if_pos (hown.mpr ho)).trans ((if_neg (by rw [hgrp, hs]; simp)).trans (if_neg free))
  have check : jogCheck k d u = jogRefusal k d s := jogCheck_eq.trans jogRefusal_refreshLink
  refine ⟨fun ho => ?_, fun ho hs => ?_, fun ho hs hm => ?_, fun x y hxy => ?_, fun ho hs hm r hr => ?_,
    fun ho hs hm hr => ?_⟩
  · rw [frame, jogGroup, if_neg (mt hown.mp ho), replied_refuseWith, echoed]
  · rw [frame, jogGroup, if_pos (hown.mpr ho), if_pos (by rw [hgrp]; exact hs), replied_refuseWith, echoed]
  · rw [frame, jogGroup, if_pos (hown.mpr ho), if_neg (by rw [hgrp, hs]; simp), if_pos (empty.mpr hm), replied_refuseWith,
      echoed]
  · rw [exec_jog h (by rfl)]
    rcases hxy with hx | ⟨h1, h2⟩
    · rw [groupAt_cons_out_of_range hx, withField_none, replied_refuse]
    · have dir : directionAt [x, y, f, ramp] 1 = none := by
        have byte : byteAt [x, y, f, ramp] 1 = y.toNat := rfl
        unfold directionAt
        rw [byte]
        split
        next e => exact absurd (BitVec.eq_of_toNat_eq e) h1
        next e => exact absurd (BitVec.eq_of_toNat_eq e) h2
        next => rfl
      rw [dir]
      cases groupAt [x, y, f, ramp] 0 with
      | none => rw [withField_none, replied_refuse]
      | some k => rw [withField_some, withField_none, replied_refuse]
  · rw [frame, reaches ho hs hm, check, hr, ← echoed]
    rfl
  · obtain ⟨record, notices, within, sent⟩ := jogTaken_spec (f := f.toNat) (ramp := ramp.toNat) (n := g)
      (jogRefusal_refreshLink.trans hr : jogRefusal k d u = none)
    have time : u.timebase = s.timebase := refreshLink_timebase s c
    have hold : u.settings = s.settings := refreshLink_settings s c
    have plan : planJog k d (clamp 1 100 f.toNat) (clamp 2 50 ramp.toNat) u =
        planJog k d (clamp 1 100 f.toNat) (clamp 2 50 ramp.toNat) s := planJog_congr hchan (by rw [hgrp])
    have record : (jogTaken g d f.toNat ramp.toNat u).grp k = _ := record
    rw [hgrp, time, hold, plan] at record
    refine ⟨jogTaken g d f.toNat ramp.toNat u, ?_, ?_⟩
    · rw [frame, reaches ho hs hm, check, hr]
      show Host.Outcome.next (answered c 0x37 .ok (jogEcho g (jogTaken g d f.toNat ramp.toNat u)) _) = _
      rw [jogEcho, record]
      rfl
    · rw [record]
      refine ⟨rfl, rfl, rfl, rfl, rfl, ?_, rfl, rfl, rfl, fun fixed hk => jogPlanned_planJog hk, notices, fun i hi hp => ?_,
        fun i hi => ?_, fun i => ?_, fun h hh => ?_, within.part⟩
      · exact startMs_3000 s.timebase
      · have := (sent i (by rw [hchan]; exact hi)).parked (by rw [hchan]; exact hp)
        exact this
      · rw [within.outside i (by rw [hchan]; exact hi), hchan]
      · rw [← hchan]; exact (within.kept i).stored
      · rw [within.groups h hh, hgrp]

end Sys2Proof.Machine
end

section
/-! PROOFS. The plan of a cue (R126, R127), and what the start of the head cue leaves of its group where the cue is one in which
nothing moves (R113, R116, R117). -/

namespace Sys2Proof.Machine

open Sys2Proof.Safety

variable {s t u v w x y : State} {g : GroupId} {i j : Channel} {n : ConsoleGroup} {cue head : Cue} {fixed : Bool}
  {rest q : List Cue}

/-! ### The plan of a cue -/

theorem planCue_cruise (hk : MembersAre g fixed s) (hm : ∃ i, MovesUnder g cue s i) :
    ∃ i : Channel, LeastOf (MovesUnder g cue s) (rateUnder g cue fixed s) i ∧
      (planCue g cue s).qCruise = max 1 (min 16384 (rateUnder g cue fixed s i)) := by
  have kind := groupFixed_of_membersAre hk
  set plan := fun i => cueMemberPlan fixed cue i (s.chan i) with hplan
  set l := (s.members g).filter fun i => decide ((plan i).dist ≠ 0) with hl
  have moves (i : Channel) : i ∈ l ↔ MovesUnder g cue s i := by
    rw [List.mem_filter, State.mem_members, decide_eq_true_eq, hplan]
    refine and_congr_right fun _ => ?_
    dsimp only
    rw [cueMemberPlan_dist, ne_eq, distUnder_eq_zero]
  have rates : ((((s.members g).map plan).filter fun m => m.dist ≠ 0).map (cueRate (intervalMs (s.grp g).interval))) =
      l.map (rateUnder g cue fixed s) := by
    rw [List.filter_map, List.map_map]
    refine List.map_congr_left fun i _ => ?_
    show cueRate _ (cueMemberPlan fixed cue i (s.chan i)) = _
    unfold cueRate rateUnder
    rw [cueMemberPlan_dist]
    rfl
  obtain ⟨m, hmin⟩ := exists_min (q := rateUnder g cue fixed s) (hm.imp fun i hi => (moves i).mpr hi)
  obtain ⟨i, hi, rfl, least⟩ := least_of_min hmin
  refine ⟨i, ⟨(moves i).mp hi, fun j hj => least j ((moves j).mpr hj)⟩, ?_⟩
  have cruise : (planCue g cue s).qCruise = cueCruise (intervalMs (s.grp g).interval)
      ((s.members g).map fun i => cueMemberPlan (s.groupFixed g) cue i (s.chan i)) := rfl
  rw [cruise, kind, cueCruise, rates, hmin]
  rfl

/-- The plan of a cue in which a member moves is the rule's (R126, R127). -/
theorem cuePlanned_planCue (hk : MembersAre g fixed s) (hm : ∃ i, MovesUnder g cue s i) :
    CuePlanned g cue fixed s (planCue g cue s) := by
  have kind := groupFixed_of_membersAre hk
  refine ⟨⟨rfl, ?_, rfl, rfl, rfl, rfl⟩, rfl, planCue_cruise hk hm, fun i hi => ?_⟩
  · show (if s.groupFixed g then Phase.cruise else .accel) = _
    rw [kind]
  · rw [planCue_member hi, kind]
    refine ⟨?_, rfl, rfl, rfl, decide_eq_true ⟨rfl, ?_, cueMemberPlan_dist fixed, cueMemberPlan_dir fixed, fun _ => rfl⟩⟩
    · simp [freshMember, cueMemberPlan_dist, distUnder_eq_zero, MovesUnder, hi]
    · rw [targetUnder_eq]; rfl

/-! ### The start of a cue and the cues after it -/

/-- `x` differs from `v` in the record of group `n` and in the notices, the group still waiting for its cues under the deadline of a
GO. -/
structure Awaiting (n : ConsoleGroup) (v x : State) : Prop where
  chan : ∀ i, x.chan i = v.chan i
  stops : x.stops = v.stops
  supply : x.supply = v.supply
  time : x.timebase = v.timebase
  interval : (x.grp (.console n)).interval = (v.grp (.console n)).interval
  deadline : (x.grp (.console n)).deadline = startMs v.timebase v.settings.holdWindow

/-- What GO asks of the state that a started cue leaves (R111, R113). -/
abbrev CueStarted (n : ConsoleGroup) (head : Cue) (rest : List Cue) (s t : State) : Prop :=
  let g : GroupId := .console n
  (t.grp g).state = .starting ∧ (t.grp g).moveKind = .cue ∧ (t.grp g).queue = head :: rest ∧
  (t.grp g).deadline = startMs s.timebase s.settings.holdWindow ∧
  (t.grp g).startTimer = some (s.timebase + 3000000) ∧
  (t.grp g).updateTimer = startMs s.timebase (intervalMs (s.grp g).interval) ∧
  (∀ fixed : Bool, MembersAre g fixed s → CuePlanned g head fixed s (t.grp g).prof) ∧
  (∀ i : Channel, (s.chan i).group = some g →
    (MovesUnder g head s i → (s.chan i).state = .parked →
      (t.chan i).state = .starting ∨
        (t.chan i).startPending = some (if targetUnder head s i < (s.chan i).position then .down else .up)) ∧
    (MovesUnder g head s i → (s.chan i).state = .stopping .controlled ∨ (s.chan i).state = .stopping .quick →
      t.chan i = { s.chan i with
        startPending := some (if targetUnder head s i < (s.chan i).position then .down else .up) }) ∧
    (¬MovesUnder g head s i → t.chan i = s.chan i))

theorem goLeaves_of_started (hm : ∃ i, MovesUnder (.console n) head s i) (h : CueStarted n head rest s t) :
    GoLeaves n s t (head :: rest) := by
  unfold GoLeaves
  exact (if_pos hm).mpr h

/-- The group is IDLE with this queue, its deadline absent (R116, R117). -/
abbrev GoEnded (n : ConsoleGroup) (q : List Cue) (t : State) : Prop :=
  (t.grp (.console n)).state = .idle ∧ (t.grp (.console n)).queue = q ∧ (t.grp (.console n)).deadline = none ∧
    (t.grp (.console n)).updateTimer = none

theorem goLeaves_of_ended (hm : ¬∃ i, MovesUnder (.console n) head s i) (hd : PendingBoth (.group n .done) t)
    (hf : ∀ next more, rest = next :: more → ¬(head.follow = .autoNext ∧ goRefusal (.console n) next s = none))
    (h : GoEnded n rest t) : GoLeaves n s t (head :: rest) := by
  unfold GoLeaves
  refine (if_neg hm).mpr ⟨hd, ?_⟩
  cases rest with
  | nil => exact h
  | cons next more => exact (if_neg (hf next more rfl)).mpr h

theorem goLeaves_of_follows {next : Cue} {more : List Cue} (hm : ¬∃ i, MovesUnder (.console n) head s i)
    (hd : PendingBoth (.group n .done) t) (hf : head.follow = .autoNext) (hr : goRefusal (.console n) next s = none)
    (h : GoLeaves n s t (next :: more)) : GoLeaves n s t (head :: next :: more) := by
  unfold GoLeaves
  exact (if_neg hm).mpr ⟨hd, (if_pos ⟨hf, hr⟩).mpr h⟩

theorem goLeaves_cases (h : GoLeaves n s t (head :: rest)) :
    ((∃ i, MovesUnder (.console n) head s i) ∧ CueStarted n head rest s t) ∨
      ((¬∃ i, MovesUnder (.console n) head s i) ∧ PendingBoth (.group n .done) t ∧
        (((∀ next more, rest = next :: more → ¬(head.follow = .autoNext ∧ goRefusal (.console n) next s = none)) ∧
            GoEnded n rest t) ∨
          ∃ next more, rest = next :: more ∧ head.follow = .autoNext ∧ goRefusal (.console n) next s = none ∧
            GoLeaves n s t rest)) := by
  unfold GoLeaves at h
  by_cases hm : ∃ i, MovesUnder (.console n) head s i
  · exact .inl ⟨hm, (if_pos hm).mp h⟩
  · obtain ⟨done, after⟩ := (if_neg hm).mp h
    refine .inr ⟨hm, done, ?_⟩
    cases rest with
    | nil => exact .inl ⟨fun _ _ => (nomatch ·), after⟩
    | cons next more =>
      by_cases hf : head.follow = .autoNext ∧ goRefusal (.console n) next s = none
      · exact .inr ⟨next, more, rfl, hf.1, hf.2, (if_pos hf).mp after⟩
      · exact .inl ⟨fun a b e => by cases e; exact hf, (if_neg hf).mp after⟩

section Awaiting

variable (h : Awaiting n v x)
include h

theorem Awaiting.refusal (c : Cue) : goRefusal (.console n) c x = goRefusal (.console n) c v :=
  goRefusal_congr h.chan h.stops h.supply

theorem Awaiting.target (c : Cue) (i : Channel) : targetUnder c x i = targetUnder c v i := by
  simp only [targetUnder, h.chan]

theorem Awaiting.moves (c : Cue) (i : Channel) : MovesUnder (.console n) c x i ↔ MovesUnder (.console n) c v i := by
  rw [MovesUnder, h.target, h.chan]

theorem Awaiting.membersAre (fixed : Bool) : MembersAre (.console n) fixed x ↔ MembersAre (.console n) fixed v := by
  simp only [MembersAre, h.chan]

theorem Awaiting.planned {pr : Profile} (c : Cue) (fixed : Bool) (hp : CuePlanned (.console n) c fixed x pr) :
    CuePlanned (.console n) c fixed v pr := by
  have target : targetUnder c x = targetUnder c v := funext (h.target c)
  have chan : x.chan = v.chan := funext h.chan
  have dist : distUnder c x = distUnder c v := by funext i; simp only [distUnder, target, chan]
  have rate : rateUnder (.console n) c fixed x = rateUnder (.console n) c fixed v := by
    funext i; simp only [rateUnder, chan, dist, h.interval]
  simp only [CuePlanned, RampPlanned, LeastOf, MovesUnder, target, chan, dist, rate, h.interval] at hp ⊢
  exact hp

/-- A cue that is started from there. -/
theorem Awaiting.started (hq : (x.grp (.console n)).queue = head :: rest) (hr : goRefusal (.console n) head v = none)
    (hm : ∃ i, MovesUnder (.console n) head v i) : CueStarted n head rest v (startCue (.console n) head x) := by
  have free : goRefusal (.console n) head x = none := (h.refusal head).trans hr
  obtain ⟨-, record, sent⟩ := startCue_spec free
  rw [cueStarted_grp] at record
  rw [CueStarted, record]
  refine ⟨rfl, rfl, hq, h.deadline, ?_, ?_, fun fixed hk => ?_, fun i hi => ?_⟩
  · exact (startMs_3000 x.timebase).trans (by rw [h.time])
  · show startMs x.timebase (intervalMs (x.grp (.console n)).interval) = _
    rw [h.time, h.interval]
  · exact h.planned head fixed (cuePlanned_planCue ((h.membersAre fixed).mpr hk) (hm.imp fun i hi => (h.moves head i).mpr hi))
  · obtain ⟨still, moves⟩ := sent i (by rw [h.chan]; exact hi)
    rw [h.moves, h.chan] at still moves
    rw [h.target] at moves
    refine ⟨fun hmv hp => (moves hmv).parked hp, fun hmv hs => (moves hmv).stopping ?_, still⟩
    rcases hs with hs | hs
    · exact ⟨_, hs⟩
    · exact ⟨_, hs⟩

/-- Where nothing moves under the cue, its start leaves the channel records. -/
theorem Awaiting.startCue (hr : goRefusal (.console n) head v = none) (hm : ¬∃ i, MovesUnder (.console n) head v i) :
    Awaiting n v (startCue (.console n) head x) := by
  have free : goRefusal (.console n) head x = none := (h.refusal head).trans hr
  obtain ⟨only, record, sent⟩ := startCue_spec free
  rw [cueStarted_grp] at record
  refine ⟨fun i => ?_, ?_, ?_, ?_, ?_, ?_⟩
  · by_cases hi : (x.chan i).group = some (.console n)
    · rw [(sent i hi).1 fun k => hm ⟨i, (h.moves head i).mp k⟩, h.chan]
    · rw [only.outside i hi]; exact h.chan i
  · rw [only.rest]; exact h.stops
  · rw [only.rest]; exact h.supply
  · rw [only.timebase]; exact h.time
  · rw [record]; exact h.interval
  · rw [record]; exact h.deadline

theorem Awaiting.completed (q : List Cue) : Awaiting n v (completed (.console n) q x) := by
  obtain ⟨stops, supply, time⟩ := completed_stops (g := .console n) (rest := q) (s := x)
  refine ⟨fun i => completed_chan.trans (h.chan i), stops.trans h.stops, supply.trans h.supply, time.trans h.time, ?_, ?_⟩
  · rw [completed_grp]; exact h.interval
  · rw [completed_grp]; exact h.deadline

end Awaiting

theorem completed_done : PendingBoth (.group n .done) (completed (.console n) rest s) := by
  have raised : (completed (.console n) rest s).notices =
      ((missCheck (.console n) s).raise (.group n .done)).notices := rfl
  simp only [PendingBoth, raised]
  exact State.pendingBoth_raise _ _

/-- A cue that completes leaves its DONE notice pending (R116). -/
theorem completeFrom_done : PendingBoth (.group n .done) (completeFrom (.console n) (head :: rest) s) := by
  have told := completed_done (n := n) (rest := rest) (s := s)
  by_cases hf : head.follow = .autoNext ∧ (s.grp (.console n)).deadline ≠ none ∧
      ∃ next more, rest = next :: more ∧ goRefusal (.console n) next s = none
  · obtain ⟨follow, deadline, next, more, rfl, free⟩ := hf
    rw [completeFrom_follows follow deadline free]
    have started := within_startCue (s := completed (.console n) (next :: more) s) (calm_console (n := n)) next
    dsimp only
    split
    · exact pendingBoth_of_keepsNotices told (started.trans (within_completeFrom _ calm_console)).part.1
    · exact pendingBoth_of_keepsNotices told started.part.1
  · rw [completeFrom_ends]
    · exact told
    · by_contra hne
      simp only [not_or, not_exists, not_and, not_not] at hne
      obtain ⟨follow, some_, deadline, free⟩ := hne
      obtain ⟨next, more, rfl⟩ := List.exists_cons_of_ne_nil some_
      refine hf ⟨by cases hh : head.follow <;> simp_all, deadline, next, more, rfl, free next more rfl⟩

theorem deadline_of_awaiting (h : Awaiting n v x) : (x.grp (.console n)).deadline ≠ none := by
  rw [h.deadline]; simp [startMs]

/-- The start of a cue from there, and of those that follow it where nothing moves. -/
theorem Awaiting.leaves (h : Awaiting n v x) (hq : (x.grp (.console n)).queue = head :: rest)
    (hr : goRefusal (.console n) head v = none) :
    let y := Machine.startCue (.console n) head x
    GoLeaves n v (if nothingMoves (.console n) y then completeFrom (.console n) (head :: rest) y else y) (head :: rest) := by
  induction rest generalizing head x with
  | nil =>
    have free : goRefusal (.console n) head x = none := (h.refusal head).trans hr
    intro y
    by_cases hm : ∃ i, MovesUnder (.console n) head v i
    · rw [if_neg fun k => (nothingMoves_startCue free).mp k (hm.imp fun i hi => (h.moves head i).mpr hi)]
      exact goLeaves_of_started hm (h.started hq hr hm)
    · rw [if_pos ((nothingMoves_startCue free).mpr fun ⟨i, hi⟩ => hm ⟨i, (h.moves head i).mp hi⟩)]
      refine goLeaves_of_ended hm completeFrom_done (fun _ _ => (nomatch ·)) ?_
      rw [completeFrom_ends (.inr (.inl rfl)), GoEnded, dropDeadline_grp, completed_grp]
      exact ⟨rfl, rfl, rfl, rfl⟩
  | cons next more ih =>
    have free : goRefusal (.console n) head x = none := (h.refusal head).trans hr
    intro y
    by_cases hm : ∃ i, MovesUnder (.console n) head v i
    · rw [if_neg fun k => (nothingMoves_startCue free).mp k (hm.imp fun i hi => (h.moves head i).mpr hi)]
      exact goLeaves_of_started hm (h.started hq hr hm)
    · rw [if_pos ((nothingMoves_startCue free).mpr fun ⟨i, hi⟩ => hm ⟨i, (h.moves head i).mp hi⟩)]
      have still : Awaiting n v y := h.startCue hr hm
      by_cases hf : head.follow = .autoNext ∧ goRefusal (.console n) next v = none
      · obtain ⟨follow, follows⟩ := hf
        refine goLeaves_of_follows hm completeFrom_done follow follows ?_
        rw [completeFrom_follows follow (deadline_of_awaiting still) ((still.refusal next).trans follows)]
        exact ih (still.completed _) (by rw [completed_grp]; rfl) follows
      · refine goLeaves_of_ended hm completeFrom_done (fun a b e => by cases e; exact hf) ?_
        rw [completeFrom_ends, GoEnded, dropDeadline_grp, completed_grp]
        · exact ⟨rfl, rfl, rfl, rfl⟩
        · by_cases follow : head.follow = .autoNext
          · refine .inr (.inr (.inr ⟨next, more, rfl, ?_⟩))
            rw [still.refusal next]
            exact fun k => hf ⟨follow, k⟩
          · exact .inl (by cases hh : head.follow <;> simp_all)

end Sys2Proof.Machine
end

section
/-! PROOFS. GO (R109, R110, R111): its frames, its refusals, the turn of each group of its set, and the statement. -/

namespace Sys2Proof.Machine

open Sys2Proof.Safety

variable {s t u v w x y : State} {g : GroupId} {i j : Channel} {n m : ConsoleGroup} {c : Console} {b : Byte} {cue head : Cue}
  {rest q : List Cue} {set : GroupSet} {r : Result}

/-! ### One group -/

/-- GO on one console group of a list. -/
def goConsole (s : State) (n : ConsoleGroup) : State := goStart (.console n) s

theorem goConsole_within : StaysWithin goConsole := fun _ _ => within_goStart calm_console

/-- A console group under the deadline of a GO. -/
def goReady (n : ConsoleGroup) (s : State) : State :=
  s.setGrp (.console n) { s.grp (.console n) with deadline := startMs s.timebase s.settings.holdWindow }

theorem awaiting_goReady : Awaiting n s (goReady n s) :=
  ⟨fun _ => rfl, rfl, rfl, rfl, by simp [goReady], by simp [goReady]⟩

theorem goConsole_eq (hq : (s.grp (.console n)).queue = head :: rest) : goConsole s n =
    let y := startCue (.console n) head (goReady n s)
    if nothingMoves (.console n) y then completeFrom (.console n) (head :: rest) y else y := by
  unfold goConsole goStart
  rw [hq]
  rfl

/-- GO finds a head cue that passes its checks. -/
theorem goFinds_none (h : goFinds n s = none) :
    ∃ head rest, (s.grp (.console n)).queue = head :: rest ∧ goRefusal (.console n) head s = none := by
  unfold goFinds at h
  split at h
  next => cases h
  next =>
    cases hq : (s.grp (.console n)).queue with
    | nil => rw [hq] at h; cases h
    | cons head rest => rw [hq] at h; exact ⟨head, rest, rfl, h⟩

theorem goLeaves_goConsole (h : goFinds n s = none) : GoLeaves n s (goConsole s n) (s.grp (.console n)).queue := by
  obtain ⟨head, rest, hq, free⟩ := goFinds_none h
  rw [goConsole_eq hq, hq]
  exact awaiting_goReady.leaves (by simp [goReady, hq]) free

/-- The group's queue has lost the cues that have completed. -/
theorem goLeaves_queue (h : GoLeaves n s t q) : (t.grp (.console n)).queue.length ≤ q.length ∧
    ((t.grp (.console n)).queue = q → ∃ head rest, q = head :: rest ∧ ∃ i, MovesUnder (.console n) head s i) := by
  have shorter {l : List Cue} {a : Cue} (e : (t.grp (.console n)).queue.length ≤ l.length)
      (k : (t.grp (.console n)).queue = a :: l) : False := by
    rw [k, List.length_cons] at e; omega
  induction q with
  | nil => exact h.elim
  | cons head rest ih =>
    rcases goLeaves_cases h with ⟨hm, -, -, queue, -⟩ | ⟨-, -, ⟨-, -, queue, -⟩ | ⟨next, more, -, -, -, after⟩⟩
    · exact ⟨by rw [queue], fun _ => ⟨head, rest, rfl, hm⟩⟩
    · exact ⟨by rw [queue, List.length_cons]; omega, fun k => (shorter (by rw [queue]) k).elim⟩
    · have le := (ih after).1
      exact ⟨by rw [List.length_cons]; omega, fun k => (shorter le k).elim⟩

/-- Where no cue has completed, nothing has been raised. -/
theorem goConsole_notices (h : goFinds n s = none)
    (hq : ((goConsole s n).grp (.console n)).queue = (s.grp (.console n)).queue) :
    (goConsole s n).notices = s.notices := by
  obtain ⟨-, moves⟩ := goLeaves_queue (goLeaves_goConsole h)
  obtain ⟨head, rest, queue, hm⟩ := moves hq
  obtain ⟨head', rest', queue', free⟩ := goFinds_none h
  obtain ⟨rfl, rfl⟩ := List.cons.inj (queue.symm.trans queue')
  have free' := (awaiting_goReady (n := n)).refusal head |>.trans free
  rw [goConsole_eq queue]
  dsimp only
  rw [if_neg fun k => (nothingMoves_startCue free').mp k
    (hm.imp fun i hi => ((awaiting_goReady (n := n)).moves head i).mpr hi)]
  have same := (startCue_spec free').1.rest
  rw [same]
  rfl

/-! ### The groups of the set, one after another -/

/-- All that GO tests and plans from is in `v` as it is in `s` for group `n`. -/
structure GoSame (n : ConsoleGroup) (s v : State) : Prop where
  record : v.grp (.console n) = s.grp (.console n)
  members : ∀ j, (s.chan j).group = some (.console n) → v.chan j = s.chan j
  kept : ∀ j, ChanKept (s.chan j) (v.chan j)
  part : partRefusal v = partRefusal s
  settings : v.settings = s.settings
  time : v.timebase = s.timebase

theorem SameGroup.goSame (h : SameGroup (.console n) s v) : GoSame n s v := by
  obtain ⟨-, supply, -, -, stops, settings, -, -, time, -⟩ := h.part
  exact ⟨h.record, h.members, h.kept, by unfold partRefusal; rw [supply, stops], settings, time⟩

theorem goSame_refreshLink : GoSame n s (refreshLink c s) :=
  ⟨refreshLink_grp s c _, fun j _ => refreshLink_chan s c j, fun j => by rw [refreshLink_chan]; exact .rfl' _,
    by simp [partRefusal], refreshLink_settings s c, refreshLink_timebase s c⟩

section Same

variable (h : GoSame n s v)
include h

theorem GoSame.refusal (c : Cue) : goRefusal (.console n) c v = goRefusal (.console n) c s := by
  have some_ (P : Chan → Prop) : SomeMember (.console n) v P ↔ SomeMember (.console n) s P := by
    refine exists_congr fun i => ?_
    rw [(h.kept i).group]
    exact and_congr_right fun hi => by rw [h.members i hi]
  have group (i : Channel) : (v.chan i).group = (s.chan i).group := (h.kept i).group
  have lower (i : Channel) : (v.chan i).lower = (s.chan i).lower := (h.kept i).lower
  have upper (i : Channel) : (v.chan i).upper = (s.chan i).upper := (h.kept i).upper
  have position (i : Channel) : (v.chan i).position = (s.chan i).position := (h.kept i).position
  have upperOpen (i : Channel) : (v.chan i).upperOpen = (s.chan i).upperOpen := (h.kept i).upperOpen
  have lowerOpen (i : Channel) : (v.chan i).lowerOpen = (s.chan i).lowerOpen := (h.kept i).lowerOpen
  unfold goRefusal
  rw [h.part]
  simp only [some_, group, lower, upper, position, upperOpen, lowerOpen]

theorem GoSame.finds : goFinds n v = goFinds n s := by
  unfold goFinds
  rw [h.record]
  cases (s.grp (.console n)).queue with
  | nil => rfl
  | cons head rest => simp only [h.refusal]

theorem GoSame.target (c : Cue) (i : Channel) : targetUnder c v i = targetUnder c s i := by
  simp only [targetUnder, (h.kept i).position]

theorem GoSame.moves (c : Cue) (i : Channel) : MovesUnder (.console n) c v i ↔ MovesUnder (.console n) c s i := by
  rw [MovesUnder, h.target, (h.kept i).group, (h.kept i).position]

theorem GoSame.membersAre (fixed : Bool) : MembersAre (.console n) fixed v ↔ MembersAre (.console n) fixed s := by
  simp only [MembersAre, (h.kept _).group, (h.kept _).cfg]

theorem GoSame.planned {pr : Profile} (c : Cue) (fixed : Bool) (hp : CuePlanned (.console n) c fixed v pr) :
    CuePlanned (.console n) c fixed s pr := by
  have target : targetUnder c v = targetUnder c s := funext (h.target c)
  have position (i : Channel) : (v.chan i).position = (s.chan i).position := (h.kept i).position
  have group (i : Channel) : (v.chan i).group = (s.chan i).group := (h.kept i).group
  have speed (f : Nat) (i : Channel) : speedUnder fixed f (v.chan i) = speedUnder fixed f (s.chan i) := by
    simp only [speedUnder, (h.kept i).cfg]
  have dist : distUnder c v = distUnder c s := by funext i; simp only [distUnder, target, position]
  have rate : rateUnder (.console n) c fixed v = rateUnder (.console n) c fixed s := by
    funext i; simp only [rateUnder, speed, dist, h.record]
  simp only [CuePlanned, RampPlanned, LeastOf, MovesUnder, target, position, group, speed, dist, rate, h.record] at hp ⊢
  exact hp

/-- What a GO leaves from a state in which the group is as it was. -/
theorem goLeaves_before (hl : GoLeaves n v t q) : GoLeaves n s t q := by
  induction q with
  | nil => exact hl.elim
  | cons head rest ih =>
    have some_ : (∃ i, MovesUnder (.console n) head v i) ↔ ∃ i, MovesUnder (.console n) head s i :=
      exists_congr fun i => h.moves head i
    rcases goLeaves_cases hl with
      ⟨hm, state, kind, queue, deadline, start, update, plan, members⟩ | ⟨hm, done, ⟨hf, ended⟩ | ⟨next, more, rfl, hf, hr, after⟩⟩
    · refine goLeaves_of_started (some_.mp hm) ⟨state, kind, queue, ?_, ?_, ?_, fun fixed hk => ?_, fun i hi => ?_⟩
      · rw [deadline, h.time, h.settings]
      · rw [start, h.time]
      · rw [update, h.time, h.record]
      · exact h.planned head fixed (plan fixed ((h.membersAre fixed).mpr hk))
      · have turn := members i (by rw [(h.kept i).group]; exact hi)
        rw [h.moves, h.target, h.members i hi] at turn
        exact turn
    · exact goLeaves_of_ended (mt some_.mpr hm) done (fun a b e k => hf a b e (by rw [h.refusal]; exact k)) ended
    · exact goLeaves_of_follows (mt some_.mpr hm) done hf (by rw [← h.refusal]; exact hr) (ih after)

end Same

/-- What a GO leaves stays where the group stays as it is. -/
theorem goLeaves_after (hg : ∀ i, (w.chan i).group = (s.chan i).group) (h : SameGroup (.console n) w t)
    (hl : GoLeaves n s w q) : GoLeaves n s t q := by
  induction q with
  | nil => exact hl.elim
  | cons head rest ih =>
    rcases goLeaves_cases hl with
      ⟨hm, state, kind, queue, deadline, start, update, plan, members⟩ | ⟨hm, done, ⟨hf, ended⟩ | ⟨next, more, rfl, hf, hr, after⟩⟩
    · rw [← h.record] at state kind queue deadline start update plan
      refine goLeaves_of_started hm ⟨state, kind, queue, deadline, start, update, plan, fun i hi => ?_⟩
      rw [h.members i (by rw [hg]; exact hi)]
      exact members i hi
    · rw [GoEnded, ← h.record] at ended
      exact goLeaves_of_ended hm (pendingBoth_of_keepsNotices done h.part.1) hf ended
    · exact goLeaves_of_follows hm (pendingBoth_of_keepsNotices done h.part.1) hf hr (ih after)

theorem goLeaves_foldl {gs : List ConsoleGroup} (hl : gs.Nodup) (hn : n ∈ gs) (hf : goFinds n s = none) :
    GoLeaves n s (gs.foldl goConsole s) (s.grp (.console n)).queue := by
  obtain ⟨v, before, after⟩ := turn_foldl goConsole_within hl hn (s := s)
  have made : GoLeaves n v (goConsole v n) (v.grp (.console n)).queue := goLeaves_goConsole (before.goSame.finds.trans hf)
  rw [before.record] at made
  exact goLeaves_after (fun i => ((goConsole_within v n).kept i).group.trans (before.kept i).group) after 
    (goLeaves_before before.goSame made)

/-- Where no group of the set has completed a cue, nothing has been raised. -/
theorem foldl_goConsole_notices {gs : List ConsoleGroup} (hl : gs.Nodup) (hf : ∀ n ∈ gs, goFinds n s = none)
    (hq : ∀ n ∈ gs, ((gs.foldl goConsole s).grp (.console n)).queue = (s.grp (.console n)).queue) :
    (gs.foldl goConsole s).notices = s.notices := by
  induction gs generalizing s with
  | nil => rfl
  | cons m gs ih =>
    obtain ⟨new, rest⟩ := List.nodup_cons.mp hl
    have other {n : ConsoleGroup} (hn : n ∈ gs) : GroupId.console n ≠ .console m := fun e => new (by cases e; exact hn)
    have same {n : ConsoleGroup} (hn : n ∈ gs) : SameGroup (.console n) s (goConsole s m) :=
      (goConsole_within s m).same (other hn)
    have first : (goConsole s m).notices = s.notices := by
      refine goConsole_notices (hf m (by simp)) ?_
      have later : SameGroup (.console m) (goConsole s m) (gs.foldl goConsole (goConsole s m)) :=
        sameGroup_foldl goConsole_within fun k hk e => (other hk) e.symm
      rw [← later.record]
      exact hq m (by simp)
    rw [List.foldl_cons, ih rest (fun n hn => (same hn).goSame.finds.trans (hf n (by simp [hn]))) fun n hn => ?_, first]
    rw [(same hn).record]
    exact hq n (by simp [hn])

/-! ### The refusals -/

/-- The groups of a set before one of them are lower-numbered ones. -/
theorem groupsOf_split (hn : set.getLsbD n.val = true) :
    ∃ before after, groupsOf set = before ++ n :: after ∧ ∀ m ∈ before, m < n ∧ set.getLsbD m.val = true := by
  have sorted : (groupsOf set).Pairwise (· < ·) := by
    have all : consoleGroups.Pairwise (· < ·) := by decide
    exact all.filter _
  obtain ⟨before, after, split⟩ := List.append_of_mem ((mem_groupsOf set n).mpr hn)
  refine ⟨before, after, split, fun m hm => ⟨?_, ?_⟩⟩
  · rw [split] at sorted
    exact (List.pairwise_append.mp sorted).2.2 m hm n (by simp)
  · rw [← mem_groupsOf, split]
    simp [hm]

theorem groupGoCheck_eq : groupGoCheck s n = goFinds n s := by
  unfold groupGoCheck goFinds
  dsimp only
  split
  · rfl
  · cases (s.grp (.console n)).queue with
    | nil => rfl
    | cons head rest => exact goCheck_eq

/-- The lowest group of the set that the requester does not own (R109, log entry 17). -/
theorem goFailure_not_owned (hn : set.getLsbD n.val = true) (ho : ¬OwnedBy c s n)
    (hl : ∀ m, m < n → set.getLsbD m.val = true → OwnedBy c s m) : goFailure c (groupsOf set) s = some (n, .notOwner) := by
  obtain ⟨before, after, split, lower⟩ := groupsOf_split hn
  have found : (groupsOf set).find? (fun g => !owns c s g) = some n := by
    refine List.find?_eq_some_iff_append.mpr ⟨?_, before, after, split, fun m hm => ?_⟩
    · rw [Bool.not_eq_true', ← Bool.not_eq_true]
      exact mt (owns_iff s c n).mp ho
    · simpa using (owns_iff s c m).mpr (hl m (lower m hm).1 (lower m hm).2)
  unfold goFailure
  rw [found]

theorem goFailure_owned (ho : ∀ m, set.getLsbD m.val = true → OwnedBy c s m) :
    goFailure c (groupsOf set) s = (groupsOf set).findSome? fun g => (goFinds g s).map fun r => (g, r) := by
  have none_ : (groupsOf set).find? (fun g => !owns c s g) = none :=
    List.find?_eq_none.mpr fun m hm => by simpa using (owns_iff s c m).mpr (ho m ((mem_groupsOf set m).mp hm))
  unfold goFailure
  rw [none_]
  simp only [groupGoCheck_eq]

/-- The first failure in the order of groups and of the checks (R109). -/
theorem goFailure_found (ho : ∀ m, set.getLsbD m.val = true → OwnedBy c s m) (hn : set.getLsbD n.val = true)
    (hl : ∀ m, m < n → set.getLsbD m.val = true → goFinds m s = none) (hr : goFinds n s = some r) :
    goFailure c (groupsOf set) s = some (n, r) := by
  obtain ⟨before, after, split, lower⟩ := groupsOf_split hn
  rw [goFailure_owned ho]
  refine List.findSome?_eq_some_iff.mpr ⟨before, n, after, split, by rw [hr]; rfl, fun m hm => ?_⟩
  rw [hl m (lower m hm).1 (lower m hm).2]
  rfl

theorem goFailure_none (h : ∀ m, set.getLsbD m.val = true → OwnedBy c s m ∧ goFinds m s = none) :
    goFailure c (groupsOf set) s = none := by
  rw [goFailure_owned fun m hm => (h m hm).1]
  refine List.findSome?_eq_none_iff.mpr fun m hm => ?_
  rw [(h m ((mem_groupsOf set m).mp hm)).2]
  rfl

/-! ### The frames -/

theorem exec_go_addressed (h : Ready c [b] s) : exec (.go c .addressed [b]) s =
    .next (replied c 0x34 (withField (groupSetAt [b] 0) (goGroups c) (refreshLink c s))) :=
  congrArg Host.Outcome.next (byteFrame_eq h _)

theorem exec_go_broadcast (h : Ready c [b] s) : exec (.go c .broadcast [b]) s =
    .next ((withField (groupSetAt [b] 0) (goGroups c) (refreshLink c s)).1.setPort c .hunting) := by
  have frame := broadcastFrame_ready s c [b] (reqGo c [b]) h
  have req : reqGo c [b] = withField (groupSetAt [b] 0) (goGroups c) := by
    funext u
    rw [reqGo, withLength_of_eq _ _ (by rfl)]
  rw [req] at frame
  exact congrArg Host.Outcome.next frame

theorem goGroups_of_failure (h : goFailure c (groupsOf set) s = some (n, r)) :
    goGroups c set s = refuseWith r (fun _ => [BitVec.ofNat 8 n.val]) s := by
  unfold goGroups
  rw [h]
  rfl

theorem goGroups_of_taken (h : goFailure c (groupsOf set) s = none) :
    goGroups c set s = takenWith .ok (fun _ => [0xFF]) ((groupsOf set).foldl goConsole s) := by
  unfold goGroups
  rw [h]
  rfl

/-- Settles O44: each group of the set has its turn, which finds it as it was. -/
theorem goStartsTheHeadCue : Obligations.GoStartsTheHeadCue := by
  unfold Obligations.GoStartsTheHeadCue
  intro c b g s h u named refused
  have same (n : ConsoleGroup) : GoSame n s u := goSame_refreshLink
  have finds (n : ConsoleGroup) : goFinds n u = goFinds n s := (same n).finds
  have owned (n : ConsoleGroup) : OwnedBy c u n ↔ OwnedBy c s n := by rw [OwnedBy, (same n).record]
  have bit (n : ConsoleGroup) : (b.setWidth 4 : GroupSet).getLsbD n.val = true ↔ named n := by
    simp [named]
  have addressed (hb : b.toNat < 16) :
      exec (.go c .addressed [b]) s = .next (replied c 0x34 (goGroups c (b.setWidth 4) u)) := by
    rw [exec_go_addressed h, groupSetAt_of_lt hb, withField_some]
  have broadcast (hb : b.toNat < 16) :
      exec (.go c .broadcast [b]) s = .next ((goGroups c (b.setWidth 4) u).1.setPort c .hunting) := by
    rw [exec_go_broadcast h, groupSetAt_of_lt hb, withField_some]
  have refuses {r : Result} (hb : b.toNat < 16) (hf : goFailure c (groupsOf (b.setWidth 4)) u = some (g, r)) :
      refused r := by
    refine ⟨?_, ?_⟩
    · rw [addressed hb, goGroups_of_failure hf, replied_refuseWith]
    · rw [broadcast hb, goGroups_of_failure hf]; rfl
  have taken (hb : b.toNat < 16) (hf : goFailure c (groupsOf (b.setWidth 4)) u = none) :
      exec (.go c .addressed [b]) s =
          .next (answered c 0x34 .ok [0xFF] ((groupsOf (b.setWidth 4)).foldl goConsole u)) ∧
        exec (.go c .broadcast [b]) s = .next (((groupsOf (b.setWidth 4)).foldl goConsole u).setPort c .hunting) := by
    refine ⟨?_, ?_⟩
    · rw [addressed hb, goGroups_of_taken hf, replied_takenWith]
    · rw [broadcast hb, goGroups_of_taken hf]; rfl
  refine ⟨fun hb => ?range, fun hb hg ho hl => ?_, fun hb ho hg hl r hr => ?_, fun hb => ?empty, fun hb hall => ?taken⟩
  case range =>
    have out : groupSetAt [b] 0 = none := if_neg (by simpa [byteAt] using hb)
    refine ⟨?_, ?_⟩
    · rw [exec_go_addressed h, out, withField_none, replied_refuse]
    · rw [exec_go_broadcast h, out, withField_none]; rfl
  · exact refuses hb (goFailure_not_owned ((bit g).mpr hg) (mt (owned g).mp ho) fun m hm hn =>
      (owned m).mpr (hl m hm ((bit m).mp hn)))
  · exact refuses hb (goFailure_found (fun m hm => (owned m).mpr (ho m ((bit m).mp hm))) ((bit g).mpr hg)
      (fun m hm hn => (finds m).trans (hl m hm ((bit m).mp hn))) ((finds g).trans hr))
  case empty =>
    subst hb
    have none_ : groupsOf ((0 : Byte).setWidth 4) = [] := by decide
    obtain ⟨first, second⟩ := taken (by decide) (by rw [none_]; rfl)
    rw [none_] at first second
    exact ⟨first, second⟩
  case taken =>
    have pass : goFailure c (groupsOf (b.setWidth 4)) u = none := goFailure_none fun m hm => by
      obtain ⟨ho, hf⟩ := hall m ((bit m).mp hm)
      exact ⟨(owned m).mpr ho, (finds m).trans hf⟩
    have found (n : ConsoleGroup) (hn : n ∈ groupsOf (b.setWidth 4)) : goFinds n u = none :=
      (finds n).trans (hall n ((bit n).mp ((mem_groupsOf _ n).mp hn))).2
    obtain ⟨first, second⟩ := taken hb pass
    obtain ⟨kept, part⟩ := foldl_kept goConsole_within (s := u) (groupsOf (b.setWidth 4))
    have grp (k : GroupId) : u.grp k = s.grp k := refreshLink_grp s c k
    have chan (i : Channel) : u.chan i = s.chan i := refreshLink_chan s c i
    refine ⟨_, first, second, fun n hn => ?_, fun n hn => ?_, ?_, fun i hi => ?_, fun hq => ?_, fun i => ?_, part⟩
    · have member : n ∈ groupsOf (b.setWidth 4) := (mem_groupsOf _ n).mpr ((bit n).mpr hn)
      have made := goLeaves_foldl (s := u) (nodup_groupsOf _) member (found n member)
      rw [grp] at made
      exact goLeaves_before (same n) made
    · rw [← grp]
      exact (sameGroup_foldl goConsole_within fun m hm e => hn (by
        cases e; exact (bit n).mp ((mem_groupsOf _ n).mp hm))).record
    · rw [← grp]
      exact (sameGroup_foldl goConsole_within fun m _ e => by cases e).record
    · rw [← chan]
      refine foldl_chan_outside goConsole_within fun n hn => ?_
      rw [chan]
      exact hi n ((bit n).mp ((mem_groupsOf _ n).mp hn))
    · refine foldl_goConsole_notices (nodup_groupsOf _) found fun n hn => ?_
      rw [grp]
      exact hq n ((bit n).mp ((mem_groupsOf _ n).mp hn))
    · rw [← chan]
      exact (kept i).stored

end Sys2Proof.Machine
end

section
/-! PROOFS. What follows an entry to PARKED (R8): the group is told, then a start pending retested (R5). -/

namespace Sys2Proof.Machine

open Sys2Proof.Safety

variable {s t u v w x y : State} {g : GroupId} {i j : Channel} {n : ConsoleGroup} {c p : Chan} {cue head : Cue}
  {rest : List Cue} {d : Dir} {m : MemberPlan}

/-! ### A start tried once more -/

theorem pendantIdle_chan (j : Channel) : (pendantIdle s).chan j =
    { s.chan j with holder := ((pendantIdle s).chan j).holder, group := ((pendantIdle s).chan j).group } := by
  have ends := pendantEnds_pendantIdle (s := s) (r := s.grp .pendant)
  rw [State.setGrp_grp] at ends
  exact ends.2.2.2.1 j

/-- A refused start is no longer pending. -/
theorem limitRefused_startPending (hp : (s.chan i).state = .parked) : ((limitRefused i s).chan i).startPending = none := by
  set r := (s.setChan i { s.chan i with startPending := none }).raise (.chan i .limit) with hr
  have chan : r.chan i = { s.chan i with startPending := none } := by simp [hr]
  have refused : limitRefused i s = tripGroupOf .limitSwitch i r := rfl
  rw [refused]
  unfold tripGroupOf
  split
  next => rw [chan]
  next g hg =>
    obtain ⟨rests, counts, trips⟩ := tripGroup_cases r .limitSwitch (some i) g
    have entered : ((enterTripped g .limitSwitch (some i) r).chan i).startPending = none := by
      have records : ((tripRecords g .limitSwitch (some i) r).chan i).startPending = none := by
        rw [tripRecords_chan, if_pos hg, (chanStop_at_rest _ _ .quick).2 (by rw [chan]; exact hp)]
      cases g with
      | console n => rw [enterTripped_console_eq, State.retrip_chan, State.raise_chan]; exact records
      | pendant =>
        rw [enterTripped_pendant_eq]
        rcases pendantExit_cases (tripRecords .pendant .limitSwitch (some i) r).retrip with h | ⟨-, -, -, h⟩ <;> rw [h]
        · exact records
        · rw [pendantIdle_chan]; exact records
    cases hs : (r.grp g).state with
    | idle => rw [rests (.inl hs), chan]
    | paused => rw [rests (.inr hs), chan]
    | tripped => rw [counts hs, State.setGrp_chan, chan]
    | starting => rw [trips (by rw [hs]; rfl)]; exact entered
    | moving => rw [trips (by rw [hs]; rfl)]; exact entered
    | holding => rw [trips (by rw [hs]; rfl)]; exact entered
    | stopping => rw [trips (by rw [hs]; rfl)]; exact entered

theorem retestPending_of_not_parked (h : (s.chan i).state ≠ .parked) : retestPending i s = s := by
  unfold retestPending
  dsimp only
  split
  · rfl
  · exact if_neg h

/-- A start that has been tried is not tried again with another outcome. -/
theorem retestPending_startTry (hp : (s.chan i).state = .parked) : retestPending i (startTry i d s) = startTry i d s := by
  by_cases hstop : s.stops.estop ≠ .clear ∨ s.stops.monitor = .low
  · rw [startTry_of_stopped hstop]
    exact retestPending_of_none (by simp)
  cases hl : limitOpen (s.chan i) d with
  | true =>
    rw [startTry_of_limited hstop hl]
    exact retestPending_of_none (limitRefused_startPending hp)
  | false =>
    by_cases hw : s.supply.state ≠ .on ∨ ((s.chan i).lastDir = some d.opposite ∧ (s.chan i).out.dwellTimer ≠ none)
    · have waits := startTry_of_waits hstop hl hw
      have again := startTry_of_waits (i := i) (d := d) (s := s.setChan i { s.chan i with startPending := some d }) hstop
        (by rw [State.chan_setChan, if_pos rfl]; cases d <;> exact hl) (by simpa using hw)
      rw [waits, retestPending_of_some (d := d) (by simp) (by simpa using hp), again]
      simp
    · rw [startTry_of_free hstop hl hw]
      obtain ⟨_, items⟩ := chanEnterStarting_items (now := s.timebase) (d := d) (c := s.chan i)
      exact retestPending_of_none (by rw [State.chan_setChan, if_pos rfl, items])

/-- A start that a cue has asked of a PARKED member is not refused when it is tried again. -/
theorem retest_startCue (free : goRefusal g cue x = none) (hi : (x.chan i).group = some g) (hp : (x.chan i).state = .parked)
    (hn : (x.chan i).startPending = none) :
    ∃ c, ChanKept ((startCue g cue x).chan i) c ∧ retestPending i (startCue g cue x) = (startCue g cue x).setChan i c := by
  obtain ⟨only, -, sent⟩ := startCue_spec free
  set t := startCue g cue x with ht
  have still (h : retestPending i t = t) : ∃ c, ChanKept (t.chan i) c ∧ retestPending i t = t.setChan i c :=
    ⟨t.chan i, .rfl' _, h.trans (State.setChan_chan t i).symm⟩
  cases hd : (t.chan i).startPending with
  | none => exact still (retestPending_of_none hd)
  | some d =>
    by_cases parked : (t.chan i).state = .parked
    · obtain ⟨rests, moves⟩ := sent i hi
      have hm : MovesUnder g cue x i := by
        by_contra hm
        rw [rests hm, hn] at hd
        cases hd
      have same : (if targetUnder cue x i < (x.chan i).position then Dir.down else .up) = d := by
        rcases (moves hm).parked hp with e | e
        · rw [parked] at e; cases e
        · exact Option.some_inj.mp (e.symm.trans hd)
      have start := startFree_cueStarted free
      have item := cueStarted_member (cue := cue) hi
      have closed : limitOpen (x.chan i) d = false := by
        have switches := start.switches i _ hi (by rw [item]; rfl) (by rw [item]; simp [freshMember, hm.2])
        rw [cueMemberPlan_dir, same] at switches
        exact switches
      have closed' : limitOpen (t.chan i) d = false := by
        cases d <;> simp only [limitOpen, (only.kept i).upperOpen, (only.kept i).lowerOpen] <;> exact closed
      have nostop : ¬(t.stops.estop ≠ .clear ∨ t.stops.monitor = .low) := by
        have stops : t.stops = x.stops := by rw [only.rest]; rfl
        rw [stops]; exact start.stop
      rw [retestPending_of_some hd parked]
      by_cases hw : t.supply.state ≠ .on ∨ ((t.chan i).lastDir = some d.opposite ∧ (t.chan i).out.dwellTimer ≠ none)
      · exact ⟨_, chanKept_startPending _ _, startTry_of_waits nostop closed' hw⟩
      · exact ⟨_, chanEnterStarting_kept _ _ _, startTry_of_free nostop closed' hw⟩
    · exact still (retestPending_of_not_parked parked)

/-! ### The group is told -/

section Told

variable (hg : (s.chan i).group = some g)
include hg

theorem tellParked_of_stopping (hs : (s.grp g).state = .stopping) : tellParked i s = stopTest g s := by
  unfold tellParked; simp only [hg, hs]

theorem tellParked_of_moving (hs : (s.grp g).state = .moving) :
    tellParked i s = completionTest g (trimAtPark g i s) := by unfold tellParked; simp only [hg, hs]

theorem tellParked_of_holding (hs : (s.grp g).state = .holding) : tellParked i s = trimAtPark g i s := by
  unfold tellParked; simp only [hg, hs]

theorem tellParked_of_tripped (hs : (s.grp g).state = .tripped) :
    tellParked i s = if g = .pendant then pendantExit s else s := by unfold tellParked; simp only [hg, hs]

theorem tellParked_of_rests (hs : (s.grp g).state = .idle ∨ (s.grp g).state = .starting ∨ (s.grp g).state = .paused) :
    tellParked i s = s := by
  unfold tellParked
  rcases hs with hs | hs | hs <;> simp only [hg, hs]

end Told

/-- The error of member `i` at its entry to PARKED is at or below trim off (R142). -/
theorem trimDue_iff : trimDue g s i = true ↔ ∃ m, (s.member g i).plan = some m ∧ (s.member g i).trimPaused = true ∧
    (s.member g i).arrived = false ∧
    memberError (s.grp g).moveKind (s.grp g).prof m (s.chan i).position ≤ (s.grp g).windows.trimOff := by
  cases hm : ((s.grp g).prof.members.get i).plan with
  | none => simp [trimDue, State.member, hm]
  | some m => simp [trimDue, State.member, memberError, hm, signOf_eq, and_assoc]

theorem trimAtPark_of_not_due (h : trimDue g s i = false) : trimAtPark g i s = s := by
  unfold trimAtPark
  cases hm : (s.member g i).plan with
  | none => rfl
  | some m =>
    unfold trimRestart
    simp only [hm]
    refine if_neg fun ⟨hp, ha, _, he⟩ => ?_
    rw [trimDue_iff.mpr ⟨m, hm, hp, ha, he⟩] at h
    cases h

theorem trimAtPark_of_due (h : trimDue g s i = true) (hp : (s.chan i).state = .parked) (hm : (s.member g i).plan = some m) :
    trimAtPark g i s = startTry i m.dir (s.modMember g i fun x => { x with trimPaused := false }) := by
  obtain ⟨m', hm', paused, arrived, err⟩ := trimDue_iff.mp h
  obtain rfl : m = m' := Option.some_inj.mp (hm.symm.trans hm')
  unfold trimAtPark
  simp only [hm]
  unfold trimRestart
  simp only [hm]
  rw [if_pos ⟨paused, arrived, hp, err⟩]
  exact (startRequest_cases _ i m.dir).1 hp

theorem trimDue_setChan (hk : ChanKept (s.chan i) p) : trimDue g (s.setChan i p) i = trimDue g s i := by
  unfold trimDue
  simp [hk.position]

section Parked

variable (hp : p.state = .parked) (hk : ChanKept (s.chan i) p)
include hp hk

theorem othersParked_iff (hi : (s.chan i).group = some g) :
    OthersParked g i s ↔ ∀ j, ((s.setChan i p).chan j).group = some g → ((s.setChan i p).chan j).state = .parked := by
  refine ⟨fun h j hj => ?_, fun h j hj hg => ?_⟩
  · by_cases e : j = i
    · subst e; simpa using hp
    · rw [State.chan_setChan, if_neg e] at hj ⊢
      exact h j e hj
  · have := h j (by rw [State.chan_setChan, if_neg hj]; exact hg)
    rwa [State.chan_setChan, if_neg hj] at this

/-- An entry to PARKED of which the group takes nothing. -/
theorem tellParked_untold (h : ParkUntold i s) : tellParked i (s.setChan i p) = s.setChan i p := by
  have group : ((s.setChan i p).chan i).group = (s.chan i).group := by rw [State.chan_setChan, if_pos rfl, hk.group]
  cases hg : (s.chan i).group with
  | none => unfold tellParked; rw [group, hg]
  | some g =>
    obtain ⟨stopping, tripped, trim, cue⟩ := h g hg
    have waits (others : ¬OthersParked g i s) : ∃ j, ((s.setChan i p).chan j).group = some g ∧
        ((s.setChan i p).chan j).state ≠ .parked := by
      rw [othersParked_iff hp hk hg] at others
      simpa using others
    cases hs : ((s.setChan i p).grp g).state with
    | idle => exact tellParked_of_rests (group.trans hg) (.inl hs)
    | paused => exact tellParked_of_rests (group.trans hg) (.inr (.inr hs))
    | starting => exact tellParked_of_rests (group.trans hg) (.inr (.inl hs))
    | stopping =>
      obtain ⟨j, hj, away⟩ := waits (stopping hs)
      exact (tellParked_of_stopping (group.trans hg) hs).trans (stopTest_of_waiting hj away)
    | holding =>
      exact (tellParked_of_holding (group.trans hg) hs).trans
        (trimAtPark_of_not_due ((trimDue_setChan hk).trans (trim (.inr hs))))
    | moving =>
      have still : trimAtPark g i (s.setChan i p) = s.setChan i p :=
        trimAtPark_of_not_due ((trimDue_setChan hk).trans (trim (.inl hs)))
      rw [tellParked_of_moving (group.trans hg) hs, still]
      unfold completionTest
      dsimp only
      refine if_neg fun ⟨_, hm, ha, hall⟩ => ?_
      rcases cue hs with k | k | k
      · exact absurd (k.symm.trans hm) (by simp)
      · refine k fun j hj => nothingMoves_iff.mp ha j ?_
        rw [State.chan_setChan]
        split
        next e => rw [hk.group, ← e]; exact hj
        next => exact hj
      · exact k ((othersParked_iff hp hk hg).mpr (((s.setChan i p).allParked_iff g).mp hall))
    | tripped =>
      rw [tellParked_of_tripped (group.trans hg) hs]
      by_cases hgp : g = .pendant
      · subst hgp
        rw [if_pos rfl]
        rcases tripped rfl hs with penb | others
        · exact pendantExit_of_penb penb
        · obtain ⟨j, hj, away⟩ := waits others
          exact pendantExit_of_not_parked hj away
      · exact if_neg hgp

/-- The end of a stop that the entry makes (R115). -/
theorem tellParked_stops (hi : (s.chan i).group = some g) (hs : (s.grp g).state = .stopping) (ho : OthersParked g i s) :
    Safety.StopEnded g (s.setChan i p) (tellParked i (s.setChan i p)) ∧
      ((tellParked i (s.setChan i p)).chan i).startPending = p.startPending := by
  set u := s.setChan i p with hu
  have chan : u.chan i = p := by simp [hu]
  have told : tellParked i u = stopTest g u := tellParked_of_stopping (by rw [chan, hk.group]; exact hi) hs
  have all := (othersParked_iff hp hk hi).mp ho
  have test : (u.grp g).state = .stopping ∧ u.allParked g = true := ⟨hs, (u.allParked_iff g).mpr all⟩
  have same : ((stopTest g u).chan i).startPending = p.startPending := by
    rw [(stopTest_of_parked (v := u) hs all).chans i, chan]
  rw [told]
  refine ⟨?_, same⟩
  cases g with
  | pendant =>
    have idle : stopTest .pendant u = pendantIdle u := by simp only [stopTest]; rw [if_pos test]
    have ends := pendantEnds_pendantIdle (s := u) (r := u.grp .pendant)
    rw [State.setGrp_grp] at ends
    show PendantEnds (u.grp .pendant) u (stopTest .pendant u)
    rw [idle]
    exact ends
  | console n =>
    show stopTest (.console n) u = _
    rcases stopTest_cases u (.console n) with h | ⟨-, -, ⟨h, -⟩ | ⟨k, hk, hm, h⟩ | ⟨k, hk, hm, h⟩⟩
    · have record := (stopTest_of_parked (v := u) hs all).record
      rw [h] at record
      have state : (u.grp (.console n)).state = _ := congrArg Group.state record
      rw [show (u.grp (.console n)).state = .stopping from hs] at state
      dsimp only at state
      split at state <;> cases state
    · cases h
    · cases hk
      rw [h, if_pos hm]
    · cases hk
      rw [h, if_neg (by rw [hm]; simp)]

/-- The pendant group leaves TRIPPED (R100). -/
theorem tellParked_exits (hi : (s.chan i).group = some .pendant) (hs : (s.grp .pendant).state = .tripped)
    (hb : s.arb.penb = false) (ho : OthersParked .pendant i s) :
    PendantEnds { s.grp .pendant with trip := none } (s.setChan i p) (tellParked i (s.setChan i p)) ∧
      ((tellParked i (s.setChan i p)).chan i).startPending = p.startPending := by
  set u := s.setChan i p with hu
  have chan : u.chan i = p := by simp [hu]
  have told : tellParked i u = pendantExit u :=
    (tellParked_of_tripped (s := u) (by rw [chan, hk.group]; exact hi) hs).trans (if_pos rfl)
  have all := (u.allParked_iff .pendant).mpr ((othersParked_iff hp hk hi).mp ho)
  have exits : pendantExit u = pendantIdle (u.setGrp .pendant { u.grp .pendant with trip := none }) := by
    unfold pendantExit
    exact if_pos ⟨hs, hb, all⟩
  have ends : PendantEnds { u.grp .pendant with trip := none } u
      (pendantIdle (u.setGrp .pendant { u.grp .pendant with trip := none })) := pendantEnds_pendantIdle
  rw [told, exits]
  refine ⟨ends, ?_⟩
  rw [ends.2.2.2.1 i, chan]

/-- A trim restart that the entry makes (R142). -/
theorem tellParked_trims (hi : (s.chan i).group = some g) (hs : (s.grp g).state = .moving ∨ (s.grp g).state = .holding)
    (hd : trimDue g s i = true) (hm : (s.member g i).plan = some m) :
    tellParked i (s.setChan i p) =
      startTry i m.dir ((s.modMember g i fun x => { x with trimPaused := false }).setChan i p) := by
  set u := s.setChan i p with hu
  have chan : u.chan i = p := by simp [hu]
  have group : (u.chan i).group = some g := by rw [chan, hk.group]; exact hi
  have made : trimAtPark g i u =
      startTry i m.dir ((s.modMember g i fun x => { x with trimPaused := false }).setChan i p) :=
    trimAtPark_of_due ((trimDue_setChan hk).trans hd) (by rw [chan]; exact hp) hm
  rcases hs with hs | hs
  · rw [tellParked_of_moving group hs, made]
    refine completionTest_of_notDone ?_
    obtain ⟨-, -, -, away, -⟩ := trimDue_iff.mp hd
    set w := (s.modMember g i fun x => { x with trimPaused := false }).setChan i p with hw
    have kept : SharesKept g w (startTry i m.dir w) := sharesKept_startTry (by rw [hw, State.chan_setChan, if_pos rfl, ← chan]; exact group)
    have item : (w.member g i).arrived = false := by
      rw [show w.member g i = (s.modMember g i fun x => { x with trimPaused := false }).member g i from rfl, modMember_member,
        if_pos rfl]
      exact away
    by_cases moving : ((startTry i m.dir w).grp g).state = .moving
    · refine .inr ⟨i, ?_, .inl ?_⟩
      · rw [(kept.same (.inl moving)).2, hw, State.chan_setChan, if_pos rfl, ← chan]; exact group
      · rw [kept.item]; exact item
    · exact .inl moving
  · rw [tellParked_of_holding group hs, made]

/-- The completion of a cue that the entry makes (R135). -/
theorem tellParked_completes (hi : (s.chan i).group = some (.console n)) (hs : (s.grp (.console n)).state = .moving)
    (hm : (s.grp (.console n)).moveKind = .cue) (ha : AllArrived (.console n) s) (ho : OthersParked (.console n) i s)
    (hq : (s.grp (.console n)).queue = head :: rest) :
    tellParked i (s.setChan i p) = completeFrom (.console n) (head :: rest) (s.setChan i p) := by
  set u := s.setChan i p with hu
  have chan : u.chan i = p := by simp [hu]
  have all := (othersParked_iff hp hk hi).mp ho
  have still : trimAtPark (.console n) i u = u := by
    refine trimAtPark_of_not_due ?_
    rw [← Bool.not_eq_true, trimDue_iff]
    rintro ⟨-, -, -, away, -⟩
    have arrived : (u.member (.console n) i).arrived = true := ha i hi
    rw [arrived] at away
    cases away
  rw [tellParked_of_moving (s := u) (by rw [chan, hk.group]; exact hi) hs, still]
  unfold completionTest
  dsimp only
  have arrived : nothingMoves (.console n) u = true := nothingMoves_iff.mpr fun j hj => ha j (by
    by_cases e : j = i
    · rw [e]; exact hi
    · rw [hu, State.chan_setChan, if_neg e] at hj; exact hj)
  rw [if_pos ⟨hs, hm, arrived, (u.allParked_iff _).mpr all⟩]
  exact congrArg (completeFrom (.console n) · u) hq

end Parked

/-- A completion stays one where channel `i`, PARKED with no start pending, has its start tried again. -/
theorem cueCompleted_retest (hp : ∀ j, (u.chan j).group = some (.console n) → (u.chan j).state = .parked)
    (hi : (u.chan i).group = some (.console n)) (hn : (u.chan i).startPending = none) :
    CueCompleted n head rest u (retestPending i (completeFrom (.console n) (head :: rest) u)) := by
  set t := completeFrom (.console n) (head :: rest) u with ht
  have done : CueCompleted n head rest u t := cueCompleted_completeFrom hp
  have within : Within (.console n) u t := within_completeFrom _ calm_console
  obtain ⟨ends, follows⟩ := done
  refine ⟨fun h => ?_, fun cue more m x hr hf hd he hm hrst hoff hfail hch hen hhd hx => ?_⟩
  · obtain ⟨-, -, -, -, -, -, -, chans, -⟩ := ends h
    have same : t.chan i = u.chan i := congrArg (fun l => l.get i) chans
    rw [retestPending_of_none (by rw [same]; exact hn)]
    exact ends h
  · subst hr
    have free := goRefusal_of_followFree hp ⟨⟨he, hm, hrst, hoff, hfail⟩, hch, hen⟩
    obtain ⟨named, -⟩ := hen _ (List.mem_of_head? hhd)
    obtain ⟨made, freeThen, -⟩ := completeFrom_starts (more := more) hf hd free hhd hx named
    have chan : (completed (.console n) (cue :: more) u).chan i = u.chan i := completed_chan
    obtain ⟨c, kept, retested⟩ := retest_startCue freeThen (by rw [chan]; exact hi) (by rw [chan]; exact hp i hi)
      (by rw [chan]; exact hn)
    rw [← made, ← ht] at kept retested
    rw [retested]
    have last : Within (.console n) t (t.setChan i c) := within_setChan (by rw [(within.kept i).group]; exact hi) kept
    obtain ⟨state, kind, queue, deadline, start, progress, rate, away, missed, quiet, -⟩ :=
      follows cue more m x rfl hf hd he hm hrst hoff hfail hch hen hhd hx
    exact ⟨state, kind, queue, deadline, start, progress, rate, away, missed, quiet, (within.trans last).updateKeeps⟩

/-- What follows an entry of channel `i` to PARKED with the record `p` (R8). -/
theorem parkMade (hp : p.state = .parked) (hk : ChanKept (s.chan i) p) :
    ParkMade i p s (retestPending i (tellParked i (s.setChan i p))) := by
  have chan : (s.setChan i p).chan i = p := by simp
  obtain ⟨stored, authority, position⟩ := hk.stored
  refine ⟨fun h => ?_, fun hn g hg => ?_, fun hn n hg hs hm ha ho head rest hq => ?_⟩
  · rw [tellParked_untold hp hk h]
    refine ⟨fun hn => retestPending_of_none (by rw [chan]; exact hn), fun d hd => ?_⟩
    rw [retestPending_of_some (by rw [chan]; exact hd) (by rw [chan]; exact hp)]
    exact retestMade_startTry hp stored authority position
  · intro u m
    refine ⟨fun hs ho => ?_, fun hgp hs hb ho => ?_, fun hs hd x hx => ?_⟩
    · obtain ⟨ended, same⟩ := tellParked_stops hp hk hg hs ho
      rw [retestPending_of_none (by rw [same]; exact hn)]
      exact ended
    · subst hgp
      obtain ⟨ended, same⟩ := tellParked_exits hp hk hg hs hb ho
      rw [retestPending_of_none (by rw [same]; exact hn)]
      exact ended
    · rw [tellParked_trims hp hk hg hs hd hx, retestPending_startTry (by simpa using hp)]
      exact retestMade_startTry hp stored authority position
  · rw [tellParked_completes hp hk hg hs hm ha ho hq]
    exact cueCompleted_retest ((othersParked_iff hp hk hg).mp ho) (by rw [chan, hk.group]; exact hg) (by rw [chan]; exact hn)

end Sys2Proof.Machine
end

section
/-! PROOFS. The ends of a stop sequence and of a brake-set confirmation (R8, R30, R32, R33, R55), and the statements of their
timers and of the brake feedback. -/

namespace Sys2Proof.Machine

open Sys2Proof.Safety

variable {s t : State} {i : Channel} {c p : Chan} {now : Time} {before : ChanState}

/-! ### The report of a stop -/

theorem chanFinishStop_parks (hs : ∃ f, c.state = .stopping f) (hc : c.out.confirmTimer = none)
    (hr : c.out.raise = false) (hl : c.out.lower = false) : chanFinishStop now c = parkedFrom now c := by
  obtain ⟨f, hf⟩ := hs
  have made : chanFinishStop now c = watchStuck now (chanPark now c) := by
    unfold chanFinishStop
    simp [hf, hc, linesDown, hr, hl]
  rw [made, watchStuck_eq_stuck]
  simp [chanPark, parkedFrom, hr, hl, brakeKnownSet]

theorem chanFinishStop_waits
    (h : c.out.confirmTimer ≠ none ∨ ¬(c.out.raise = false ∧ c.out.lower = false)) :
    chanFinishStop now c = watchStuck now c := by
  rcases chanFinishStop_eq now c with e | ⟨-, hc, hr, hl, -⟩
  · exact e
  · exact absurd hc (h.resolve_right (not_not.mpr ⟨hr, hl⟩))

theorem watchStuck_of_lines (h : ¬(c.out.raise = false ∧ c.out.lower = false)) :
    watchStuck now c = { c with out := { c.out with stuck := .idle } } := by
  rw [watchStuck_eq_stuck, if_neg fun k => h ⟨k.2.2.1, k.2.2.2⟩]

/-- A channel that enters PARKED is made known and retested (R8). -/
theorem parkMade_afterPark (hb : before ≠ .parked) (hp : p.state = .parked) (hk : ChanKept (s.chan i) p) :
    ParkMade i p s (afterPark before i (s.setChan i p)) := by
  have made : afterPark before i (s.setChan i p) = retestPending i (tellParked i (s.setChan i p)) :=
    if_pos ⟨hb, by simpa using hp⟩
  rw [made]
  exact parkMade hp hk

/-- A change after which the channel is in the state that it was in tells nobody. -/
theorem afterPark_setChan (h : p.state = before) : afterPark before i (s.setChan i p) = s.setChan i p := by
  refine if_neg fun ⟨hb, hp⟩ => hb (h.symm.trans ?_)
  simpa using hp

theorem chanKept_parkedFrom : ChanKept c (parkedFrom now c) :=
  ⟨rfl, rfl, rfl, rfl, rfl, rfl, rfl, rfl, rfl, rfl, rfl, rfl, rfl, rfl, rfl⟩

/-! ### STOP_HOLD_EXPIRY and BRAKE_SET_TIME_EXPIRY -/

theorem exec_brakeSetTimeExpiry : exec (.brakeSetTimeExpiry i) s = .next (confirmExpired i s) := rfl

theorem exec_stopHoldExpiry : exec (.stopHoldExpiry i) s = .next (holdLineExpired i s) := rfl

theorem exec_brakeFeedbackChange (released : Bool) :
    exec (.brakeFeedbackChange i released) s = .next (feedbackTo i released s) := rfl

/-- The channel's record with its brake-set confirmation done. -/
def confirmed (c : Chan) : Chan := { c with out := { c.out with confirmTimer := none } }

theorem confirmExpired_released (ht : (s.chan i).out.confirmTimer ≠ none)
    (h : (s.chan i).cfg.bfbFitted = true ∧ (s.chan i).out.bfb = true) :
    confirmExpired i s = faultReport i .brakeNoSet (s.setChan i (confirmed (s.chan i))) := by
  unfold confirmExpired
  exact (if_pos (Option.isSome_iff_ne_none.mpr ht)).trans (if_pos h)

section Set

variable (ht : (s.chan i).out.confirmTimer ≠ none) (hb : (s.chan i).cfg.bfbFitted = false ∨ (s.chan i).out.bfb = false)
include ht hb

theorem confirmExpired_faulted (hs : (s.chan i).state = .faulted) :
    confirmExpired i s = s.setChan i { confirmed (s.chan i) with pos := { (s.chan i).pos with slipArmed := true } } := by
  have set : ¬((s.chan i).cfg.bfbFitted = true ∧ (s.chan i).out.bfb = true) := by
    rintro ⟨h, k⟩; rcases hb with e | e <;> simp_all
  unfold confirmExpired
  exact (if_pos (Option.isSome_iff_ne_none.mpr ht)).trans ((if_neg set).trans (if_pos hs))

theorem confirmExpired_stopping (hs : (s.chan i).state ≠ .faulted) :
    confirmExpired i s =
      afterPark (s.chan i).state i (s.setChan i (chanFinishStop s.timebase (confirmed (s.chan i)))) := by
  have set : ¬((s.chan i).cfg.bfbFitted = true ∧ (s.chan i).out.bfb = true) := by
    rintro ⟨h, k⟩; rcases hb with e | e <;> simp_all
  unfold confirmExpired
  exact (if_pos (Option.isSome_iff_ne_none.mpr ht)).trans ((if_neg set).trans (if_neg hs))

end Set

theorem holdLineExpired_eq (ht : (s.chan i).out.stopHoldTimer ≠ none) :
    holdLineExpired i s = afterPark (s.chan i).state i (s.setChan i (chanFinishStop s.timebase
      { s.chan i with out := { (s.chan i).out with raise := false, lower := false, stopHoldTimer := none } })) :=
  if_pos (Option.isSome_iff_ne_none.mpr ht)

/-- Settles O9: each part of the report is made, and with the second the channel is PARKED. -/
theorem stopSequenceEnds : Obligations.StopSequenceEnds := by
  unfold Obligations.StopSequenceEnds
  intro i s c stopping down dropped
  have form (h : stopping) : ∃ f, c.state = .stopping f := h.elim (⟨_, ·⟩) (⟨_, ·⟩)
  have away (h : stopping) : c.state ≠ .faulted ∧ c.state ≠ .parked := by rcases h with h | h <;> simp [h]
  refine ⟨fun ht hf hb ho hst hr => ?released, fun ht hb hs => ?_, fun ht hb hs hd => ?_, fun ht hb hs hd => ?_,
    fun ht hs hc => ?held, fun ht hs hc => ?_⟩
  case released =>
    refine ⟨_, exec_brakeSetTimeExpiry, ?_⟩
    rw [confirmExpired_released ht ⟨hf, hb⟩]
    refine ⟨faultTaken_after_setChan ho ⟨rfl, rfl, rfl, rfl, rfl, rfl, rfl, rfl, rfl⟩ ⟨rfl, rfl⟩ rfl rfl rfl, ?_⟩
    have chan : (s.setChan i (confirmed c)).chan i = confirmed c := by simp
    have state : (confirmed c).state = c.state := rfl
    rw [faultReport_chan_self (by rw [chan]; exact ho), chan]
    by_cases hfl : c.state = .faulted
    · have marked : chanFault s.timebase .brakeNoSet (confirmed c) =
          { confirmed c with faults := c.faults ||| faultBit .brakeNoSet } := by
        unfold chanFault
        simp only [state, hfl]
        rfl
      exact congrArg (·.out.confirmTimer) marked
    · rw [show (s.setChan i (confirmed c)).timebase = s.timebase from rfl, chanFault_confirm (c := confirmed c) ho hfl]
      unfold faultConfirm
      cases hs : (confirmed c).state with
      | starting => exact absurd hs hst
      | running => exact absurd hs hr
      | stopping f => rfl
      | off => rfl
      | parked => rfl
      | faulted => rfl
  · rw [exec_brakeSetTimeExpiry, confirmExpired_faulted ht hb hs]
    rfl
  · refine ⟨_, exec_brakeSetTimeExpiry, ?_⟩
    rw [confirmExpired_stopping ht hb (away hs).1, chanFinishStop_parks (c := confirmed c) (form hs) rfl hd.1 hd.2]
    exact parkMade_afterPark (away hs).2 rfl chanKept_parkedFrom
  · have waits : chanFinishStop s.timebase (confirmed c) = watchStuck s.timebase (confirmed c) :=
      chanFinishStop_waits (.inr hd)
    rw [exec_brakeSetTimeExpiry, confirmExpired_stopping ht hb (away hs).1, waits, watchStuck_of_lines (c := confirmed c) hd,
      afterPark_setChan (by rfl)]
    rfl
  case held =>
    refine ⟨_, exec_stopHoldExpiry, ?_⟩
    have waits : chanFinishStop s.timebase dropped = watchStuck s.timebase dropped :=
      chanFinishStop_waits (.inl hc)
    obtain ⟨w, hw⟩ := watchStuck_eq s.timebase dropped
    rw [holdLineExpired_eq ht, waits, hw,
      afterPark_setChan (by rfl)]
    have prepared : Prepared i s (s.setChan i { dropped with out := { dropped.out with stuck := w } }) :=
      prepared_setChan ⟨rfl, rfl, rfl, rfl, rfl, rfl, rfl, rfl, rfl⟩ ⟨rfl, rfl⟩ rfl
    refine ⟨by simpa [dropped] using hs, by simp [dropped], by simp [dropped], by simp [dropped], by simp [dropped, c],
      by simp [dropped, c], by simp [dropped, c], by simp [dropped, c],
      prepared.keepsRecords_trans fun j => ⟨⟨rfl, rfl, rfl, rfl, rfl, rfl, rfl, rfl, rfl⟩, ⟨rfl, rfl⟩, rfl⟩, prepared.others, rfl,
      rfl, prepared.part⟩
  · refine ⟨_, exec_stopHoldExpiry, ?_⟩
    rw [holdLineExpired_eq ht, chanFinishStop_parks (c := dropped) ⟨_, hs⟩ hc rfl rfl]
    refine parkMade_afterPark ?_ rfl ⟨rfl, rfl, rfl, rfl, rfl, rfl, rfl, rfl, rfl, rfl, rfl, rfl, rfl, rfl, rfl⟩
    rw [show (s.chan i).state = _ from hs]
    simp

/-! ### BRAKE_FEEDBACK_CHANGE -/

/-- The channel's record with this level of its brake feedback. -/
def seenAt (released : Bool) (c : Chan) : Chan := { c with out := { c.out with bfb := released } }

theorem feedbackChan_of_stopping (hs : ∃ f, c.state = .stopping f) :
    feedbackChan now false c = chanFinishStop now (confirmed (seenAt false c)) ∧
      feedbackChan now true c = seenAt true c := by
  obtain ⟨f, hs⟩ := hs
  cases c
  cases hs
  exact ⟨rfl, rfl⟩

theorem feedbackChan_of_parked (hs : c.state = .parked) (released : Bool) :
    feedbackChan now released c =
      { seenAt released c with pos := { (seenAt released c).pos with slipArmed := !released } } := by
  cases c
  cases hs
  rfl

theorem feedbackChan_of_faulted (hs : c.state = .faulted) (released : Bool) :
    feedbackChan now released c =
      { seenAt released c with
        out := { (seenAt released c).out with confirmTimer := if released then (seenAt released c).out.confirmTimer else none }
        pos := { (seenAt released c).pos with slipArmed := !released } } := by
  cases c
  cases hs
  rfl

theorem feedbackChan_of_held (hs : c.state = .starting ∨ c.state = .running ∨ c.state = .off) (released : Bool) :
    feedbackChan now released c = seenAt released c := by
  cases c
  rcases hs with hs | hs | hs <;> cases hs <;> rfl

theorem feedbackTo_of_fitted (hf : (s.chan i).cfg.bfbFitted = true) (released : Bool)
    (h : ¬(released = true ∧ (s.chan i).state = .starting ∧ (s.chan i).out.brakeTimer ≠ none)) :
    feedbackTo i released s =
      afterPark (s.chan i).state i (s.setChan i (feedbackChan s.timebase released (s.chan i))) := by
  unfold feedbackTo
  dsimp only
  rw [if_pos hf]
  exact if_neg fun ⟨hr, hs, ht⟩ => h ⟨hr, hs, Option.isSome_iff_ne_none.mp ht⟩

theorem feedbackTo_completes (hf : (s.chan i).cfg.bfbFitted = true) (hs : (s.chan i).state = .starting)
    (ht : (s.chan i).out.brakeTimer ≠ none) :
    feedbackTo i true s =
      startCompletion i (s.setChan i { s.chan i with out := { (s.chan i).out with bfb := true } }) := by
  have seen := feedbackChan_of_held (now := s.timebase) (.inl hs) true
  unfold feedbackTo
  dsimp only
  rw [if_pos hf, if_pos ⟨rfl, hs, Option.isSome_iff_ne_none.mpr ht⟩, seen]
  rfl

/-- Settles O7, by the state of the channel. -/
theorem brakeFeedbackActs : Obligations.BrakeFeedbackActs := by
  unfold Obligations.BrakeFeedbackActs
  intro i released s seen set stopping down
  have away (h : stopping) : (s.chan i).state ≠ .parked ∧ (s.chan i).state ≠ .starting := by
    rcases h with h | h <;> simp [h]
  have form (h : stopping) : ∃ f, (s.chan i).state = .stopping f := h.elim (⟨_, ·⟩) (⟨_, ·⟩)
  refine ⟨fun hf hs ht => ?_, fun hf hs hd => ?_, fun hf hs hd => ?_, fun hf hs => ?_, fun hf hs => ?_, fun h => ?held⟩
  · refine ⟨_, exec_brakeFeedbackChange true, ?_⟩
    rw [feedbackTo_completes hf hs ht]
    exact startCompleted_startCompletion (c := { s.chan i with out := { (s.chan i).out with bfb := true } }) ⟨rfl, rfl⟩
  · refine ⟨_, exec_brakeFeedbackChange false, ?_⟩
    rw [feedbackTo_of_fitted hf false fun h => Bool.noConfusion h.1, (feedbackChan_of_stopping (form hs)).1,
      chanFinishStop_parks (c := confirmed (seenAt false (s.chan i))) (form hs) rfl hd.1 hd.2]
    exact parkMade_afterPark (away hs).1 rfl
      ⟨rfl, rfl, rfl, rfl, rfl, rfl, rfl, rfl, rfl, rfl, rfl, rfl, rfl, rfl, rfl⟩
  · have waits : chanFinishStop s.timebase (confirmed (seenAt false (s.chan i))) = _ := chanFinishStop_waits (.inr hd)
    rw [exec_brakeFeedbackChange, feedbackTo_of_fitted hf false fun h => Bool.noConfusion h.1,
      (feedbackChan_of_stopping (form hs)).1, waits, watchStuck_of_lines (c := confirmed (seenAt false (s.chan i))) hd,
      afterPark_setChan (by rfl)]
    rfl
  · rw [exec_brakeFeedbackChange, feedbackTo_of_fitted hf released fun h => by simp [hs] at h, feedbackChan_of_parked hs,
      afterPark_setChan (by rfl)]
    rfl
  · rw [exec_brakeFeedbackChange, feedbackTo_of_fitted hf released fun h => by simp [hs] at h, feedbackChan_of_faulted hs,
      afterPark_setChan (by rfl)]
    rfl
  case held =>
    rw [exec_brakeFeedbackChange]
    refine congrArg Host.Outcome.next ?_
    by_cases hf : (s.chan i).cfg.bfbFitted = true
    · have still : (feedbackChan s.timebase released (s.chan i) = seen) ∧
          ¬(released = true ∧ (s.chan i).state = .starting ∧ (s.chan i).out.brakeTimer ≠ none) := by
        rcases h with h | h | h | ⟨h, hr⟩ | ⟨h, hr⟩
        · simp [hf] at h
        · exact ⟨feedbackChan_of_held (.inr (.inl h)) _, by simp [h]⟩
        · exact ⟨feedbackChan_of_held (.inr (.inr h)) _, by simp [h]⟩
        · obtain ⟨f, hs⟩ := form h
          subst hr
          exact ⟨(feedbackChan_of_stopping ⟨f, hs⟩).2, by simp [hs]⟩
        · refine ⟨feedbackChan_of_held (.inl h) _, fun k => ?_⟩
          rcases hr with hr | hr
          · simp [hr] at k
          · exact k.2.2 hr
      obtain ⟨made, free⟩ := still
      rw [feedbackTo_of_fitted hf released free, made, afterPark_setChan (by rfl)]
    · unfold feedbackTo
      exact if_neg hf

end Sys2Proof.Machine
end

section
/-! PROOFS. A hard limit switch that opens ahead of a run (R15), and the statement of LIMIT_SWITCH_CHANGE. -/

namespace Sys2Proof.Machine

open Sys2Proof.Safety

variable {s t u : State} {i : Channel} {c p a b : Chan} {now : Time} {side : Side}

/-! ### A QUICK stop of a run -/

/-- A run that was `a` has been stopped quick, or is PARKED where the stop was confirmed at once: it is `b`. -/
structure RunStopped (now : Time) (a b : Chan) : Prop where
  confirming : ¬ParksAtOnce a → b.state = .stopping .quick ∧ b.out.dwellTimer = a.out.dwellTimer
  parked : ParksAtOnce a → b.state = .parked ∧ b.out.dwellTimer = startMs now a.cfg.dwell
  raise : b.out.raise = false
  lower : b.out.lower = false
  brk : a.state ≠ .stopping .controlled → b.out.brk = false
  startPending : b.startPending = none
  faults : b.faults = a.faults

theorem RunStopped.state (h : RunStopped now a b) : b.state = .stopping .quick ∨ b.state = .parked := by
  by_cases k : ParksAtOnce a
  · exact .inr (h.parked k).1
  · exact .inl (h.confirming k).1

/-- A stop that is made with the record `p`, its lines off, is confirmed at once where no confirmation runs. -/
theorem runStopped_of_begun (hs : p.state = .stopping .quick) (hl : p.out.raise = false ∧ p.out.lower = false)
    (hc : p.out.confirmTimer = none ↔ ParksAtOnce a) (hd : p.out.dwellTimer = a.out.dwellTimer) (hcfg : p.cfg = a.cfg)
    (hb : a.state ≠ .stopping .controlled → p.out.brk = false) (hp : p.startPending = none) (hf : p.faults = a.faults) :
    RunStopped now a (chanFinishStop now p) := by
  by_cases k : ParksAtOnce a
  · rw [chanFinishStop_parks ⟨_, hs⟩ (hc.mpr k) hl.1 hl.2]
    refine ⟨fun h => absurd k h, fun _ => ⟨rfl, ?_⟩, hl.1, hl.2, hb, hp, hf⟩
    show startMs now p.cfg.dwell = _
    rw [hcfg]
  · rw [chanFinishStop_waits (.inl (mt hc.mp k))]
    obtain ⟨w, hw⟩ := watchStuck_eq now p
    rw [hw]
    exact ⟨fun _ => ⟨hs, hd⟩, fun h => absurd h k, hl.1, hl.2, hb, hp, hf⟩

theorem startConfirm_eq_none : startConfirm now c = none ↔ c.cfg.bfbFitted = true ∧ c.out.bfb = false := by
  unfold startConfirm
  split
  next h => simpa using h
  next h =>
    simp only [startMs, reduceCtorEq, false_iff]
    simpa using h

/-- A stop of a run whose brake is released (R31). -/
theorem runStopped_stopReleased
    (hp : ParksAtOnce a ↔ a.cfg.bfbFitted = true ∧ a.out.bfb = false) :
    RunStopped now a (stopReleased now .quick a) := by
  have same : (leaveRunning now a).cfg = a.cfg := (leaveRunning_kept now a).cfg
  unfold stopReleased
  refine runStopped_of_begun rfl ⟨rfl, rfl⟩ ?_ ?_ same (fun _ => rfl) rfl (leaveRunning_faults now a)
  · show startConfirm now (leaveRunning now a) = none ↔ _
    rw [startConfirm_eq_none, same, leaveRunning_out, hp]
  · show (leaveRunning now a).out.dwellTimer = _
    rw [leaveRunning_out]

theorem runStopped_chanStop
    (hs : a.state = .running ∨ a.state = .starting ∨ a.state = .stopping .controlled) :
    RunStopped now a (chanStop now .quick a) := by
  rcases hs with hs | hs | hs
  · have made : chanStop now .quick a = stopReleased now .quick a := by simp [chanStop, hs]
    rw [made]
    exact runStopped_stopReleased (by simp [ParksAtOnce, hs])
  · cases hb : a.out.brk with
    | true =>
      have made : chanStop now .quick a = stopReleased now .quick a := by simp [chanStop, hs, hb]
      rw [made]
      exact runStopped_stopReleased (by simp [ParksAtOnce, hs, hb])
    | false =>
      have made : chanStop now .quick a = stopUnproven now .quick a := by simp [chanStop, hs, hb]
      rw [made]
      unfold stopUnproven
      refine runStopped_of_begun rfl ⟨rfl, rfl⟩ ?_ rfl rfl (fun _ => rfl) rfl rfl
      show (if a.cfg.bfbFitted && a.out.bfb then startMs now a.cfg.brakeTime else none) = none ↔ _
      cases hf : a.cfg.bfbFitted <;> cases hr : a.out.bfb <;> simp [ParksAtOnce, hs, hb, hf, hr, startMs]
  · have made : chanStop now .quick a = stopMadeQuick now a := by simp [chanStop, hs]
    rw [made]
    unfold stopMadeQuick
    exact runStopped_of_begun rfl ⟨rfl, rfl⟩ (by simp [ParksAtOnce, hs]) rfl rfl (fun h => absurd hs h) rfl rfl

/-! ### The switch -/

theorem exec_limitSwitchChange (isOpen : Bool) :
    exec (.limitSwitchChange i side isOpen) s = .next (switchTo i side isOpen s) := rfl

theorem limitOpen_sideDir : limitOpen c (sideDir side) = match side with | .upper => c.upperOpen | .lower => c.lowerOpen := by
  cases side <;> rfl

theorem runsInto_iff : runsInto (sideDir side) c = true ↔ c.lastDir = some (sideDir side) ∧
    (c.state = .running ∨ c.state = .starting ∨ c.state = .stopping .controlled) := by
  unfold runsInto
  cases hs : c.state with
  | stopping f => cases f <;> simp
  | starting => simp
  | running => simp
  | off => simp
  | parked => simp
  | faulted => simp

/-- The channel with the field of its switch at its level. -/
theorem setSwitch_eq (isOpen : Bool) : setSwitch side isOpen c =
    match side with
    | .upper => { c with upperOpen := isOpen }
    | .lower => { c with lowerOpen := isOpen } := by cases side <;> rfl

theorem runsInto_setSwitch (isOpen : Bool) : runsInto (sideDir side) (setSwitch side isOpen c) = runsInto (sideDir side) c := by
  cases side <;> rfl

/-- A run stopped by a switch takes the stop as the channel it was. -/
theorem runStopped_setSwitch (h : RunStopped now (setSwitch side true c) b) : RunStopped now c b := by
  cases side <;>
    exact ⟨h.confirming, h.parked, h.raise, h.lower, h.brk, h.startPending, h.faults⟩

/-- The stop confirmed at once ends no stop, no trip and no cue of the channel's group. -/
abbrev EndsAlone (i : Channel) (s : State) : Prop :=
  ¬ParksAtOnce (s.chan i) ∨ (s.chan i).group = none ∨
    ∃ g : ConsoleGroup, (s.chan i).group = some (.console g) ∧ (s.grp (.console g)).state = .starting

/-- The stop that the opening makes tells the group nothing. -/
theorem afterPark_untold {before : ChanState} (hn : p.startPending = none)
    (h : p.state ≠ .parked ∨ p.group = none ∨ ∃ g : ConsoleGroup, p.group = some (.console g) ∧
      (s.grp (.console g)).state = .starting) : afterPark before i (s.setChan i p) = s.setChan i p := by
  have chan : (s.setChan i p).chan i = p := by simp
  rcases h with h | h | ⟨g, hg, hs⟩
  · exact afterPark_of_not_parked (s := s.setChan i p) before i (by rw [chan]; exact h)
  · exact afterPark_ungrouped (s := s.setChan i p) before i (by rw [chan]; exact h) (by rw [chan]; exact hn)
  · unfold afterPark
    rw [tellParked_of_rests (s := s.setChan i p) (i := i) (g := .console g) (by rw [chan]; exact hg) (.inr (.inl hs)),
      retestPending_of_none (s := s.setChan i p) (by rw [chan]; exact hn)]
    exact ite_self _

/-- The opening of a switch ahead of a run (R15). -/
theorem switchTo_stops (hr : runsInto (sideDir side) (s.chan i) = true) (hc : limitOpen (s.chan i) (sideDir side) = false)
    (h : EndsAlone i s) :
    let p := chanStop s.timebase .quick (setSwitch side true (s.chan i))
    switchTo i side true s = tripGroupOf .limitSwitch i ((s.setChan i p).raise (.chan i .limit)) := by
  intro p
  have stopped : RunStopped s.timebase (s.chan i) p := by
    have run := (runsInto_iff.mp hr).2
    refine runStopped_setSwitch (runStopped_chanStop ?_)
    cases side <;> exact run
  have kept : ChanKept (setSwitch side true (s.chan i)) p := chanStop_kept _ _ _
  have group : p.group = (s.chan i).group := by rw [kept.group]; cases side <;> rfl
  have untold : stopTold .quick (s.setChan i (setSwitch side true (s.chan i))) i = s.setChan i p := by
    have made : stopTold .quick (s.setChan i (setSwitch side true (s.chan i))) i =
        afterPark ((s.setChan i (setSwitch side true (s.chan i))).chan i).state i (s.setChan i p) := by
      unfold stopTold
      simp [State.modChan_eq, p]
    rw [made]
    refine afterPark_untold stopped.startPending ?_
    rcases h with h | h | ⟨g, hg, hs⟩
    · exact .inl (by rw [(stopped.confirming h).1]; simp)
    · exact .inr (.inl (group.trans h))
    · exact .inr (.inr ⟨g, group.trans hg, hs⟩)
  have opens : ¬limitOpen (s.chan i) (sideDir side) = true := by rw [hc]; simp
  unfold switchTo
  rw [if_neg opens]
  dsimp only [State.modChan]
  rw [if_pos ⟨rfl, by rw [State.chan_setChan, if_pos rfl, runsInto_setSwitch]; exact hr⟩, untold]

/-- What the opening leaves. -/
theorem switchTo_taken (hr : runsInto (sideDir side) (s.chan i) = true) (hc : limitOpen (s.chan i) (sideDir side) = false)
    (h : EndsAlone i s) :
    let t := switchTo i side true s
    RunStopped s.timebase (s.chan i) (t.chan i) ∧ limitOpen (t.chan i) (sideDir side) = true ∧
      (t.chan i).referenced = (s.chan i).referenced ∧ PendingBoth (.chan i .limit) t ∧ TripTaken .limitSwitch i s t ∧
      KeepsRecords s t ∧ KeepsPart s t ∧ KeepsOthers i s t := by
  set p := chanStop s.timebase .quick (setSwitch side true (s.chan i)) with hp
  set r := (s.setChan i p).raise (.chan i .limit) with hrs
  have stopped : RunStopped s.timebase (s.chan i) p := by
    have run := (runsInto_iff.mp hr).2
    refine runStopped_setSwitch (runStopped_chanStop ?_)
    cases side <;> exact run
  have kept : ChanKept (setSwitch side true (s.chan i)) p := chanStop_kept _ _ _
  have before : KeepsStored (s.chan i) (setSwitch side true (s.chan i)) ∧
      KeepsAuthority (s.chan i) (setSwitch side true (s.chan i)) ∧
      (setSwitch side true (s.chan i)).position = (s.chan i).position ∧
      (setSwitch side true (s.chan i)).referenced = (s.chan i).referenced ∧
      limitOpen (setSwitch side true (s.chan i)) (sideDir side) = true := by
    cases side <;> exact ⟨⟨rfl, rfl, rfl, rfl, rfl, rfl, rfl, rfl, rfl⟩, ⟨rfl, rfl⟩, rfl, rfl, rfl⟩
  obtain ⟨stored, authority, position, referenced, opened⟩ := before
  obtain ⟨stored', authority', position'⟩ := kept.stored
  have chan : r.chan i = p := by simp [hrs]
  have prepared : Prepared i s r := by
    refine ⟨rfl, keepsPart_trans (keepsPart_of_records _ _) (keepsPart_raise _), fun j hj => by simp [hrs, hj], ?_, ?_, ?_⟩
    all_goals rw [chan]
    · exact keepsStored_trans stored stored'
    · exact ⟨authority'.1.trans authority.1, authority'.2.trans authority.2⟩
    · exact position'.trans position
  have group : p.group = (s.chan i).group := authority'.2.trans authority.2
  have again : chanStop r.timebase .quick p = p := by
    have same : { p with startPending := none } = p := by rw [← stopped.startPending]
    rcases stopped.state with hs | hs
    · refine Eq.trans ?_ same
      unfold chanStop
      simp only [hs]
    · rw [(chanStop_at_rest _ _ .quick).2 hs, same]
  have stays (g : GroupId) (hg : (r.chan i).group = some g) : StaysTripped g r := by
    intro hgp
    subst hgp
    refine .inr ⟨i, hg, ?_⟩
    rw [chan, again]
    rw [chan, group] at hg
    rcases h with h | h | ⟨n, hn, -⟩
    · rw [(stopped.confirming h).1]; simp
    · rw [h] at hg; cases hg
    · rw [hn] at hg; cases hg
  obtain ⟨taken, part, fellows⟩ := tripGroupOf_of_stays (cause := .limitSwitch) stays
  intro t
  have made : t = tripGroupOf .limitSwitch i r := switchTo_stops hr hc h
  have last : t.chan i = p := by
    rw [made]
    rcases fellows i with e | ⟨-, -, e⟩
    · rw [e, chan]
    · rw [e, chan, again]
  rw [← made] at taken part fellows
  refine ⟨by rw [last]; exact stopped, ?_, ?_, pendingBoth_of_keepsNotices (State.pendingBoth_raise _ _) part.1,
    prepared.tripTaken taken, prepared.keepsRecords_trans fellows.keepsRecords, keepsPart_trans prepared.part part,
    prepared.keepsOthers_trans fellows.keepsOthers⟩
  · rw [last, ← opened]
    cases side
    · exact kept.upperOpen
    · exact kept.lowerOpen
  · rw [last, kept.referenced, referenced]

/-- A switch that closes, opens behind the run, or opens on a channel that is not on a run changes its field alone. -/
theorem switchTo_of_rest (isOpen : Bool) (h : isOpen = false ∨ runsInto (sideDir side) (s.chan i) = false) :
    switchTo i side isOpen s = s.setChan i (setSwitch side isOpen (s.chan i)) := by
  unfold switchTo
  split
  next same =>
    refine (State.setChan_eq_self ?_).symm
    cases side <;> (simp only [limitOpen, sideDir] at same; rw [← same]; rfl)
  next =>
    dsimp only [State.modChan]
    refine if_neg fun ⟨ho, hr⟩ => ?_
    rw [State.chan_setChan, if_pos rfl, runsInto_setSwitch] at hr
    rcases h with h | h
    · rw [h] at ho; cases ho
    · rw [h] at hr; cases hr

/-- Settles O6, by whether the switch opens ahead of a run. -/
theorem limitSwitchStopsTheRun : Obligations.LimitSwitchStopsTheRun := by
  unfold Obligations.LimitSwitchStopsTheRun
  intro i side isOpen s ahead onRun wasClosed
  have dir : ahead = sideDir side := by cases side <;> rfl
  refine ⟨fun hon hd hc h => ⟨_, exec_limitSwitchChange true, ?_⟩, fun h => ?_⟩
  · have runs : runsInto (sideDir side) (s.chan i) = true := runsInto_iff.mpr ⟨by rw [← dir]; exact hd, hon⟩
    obtain ⟨stopped, opened, referenced, noticed, taken, records, part, others⟩ :=
      switchTo_taken runs (by rw [limitOpen_sideDir]; exact hc) h
    refine ⟨stopped.confirming, stopped.parked, stopped.raise, stopped.lower, stopped.brk, stopped.startPending, ?_, noticed,
      taken, stopped.faults, referenced, records, part, others⟩
    rw [limitOpen_sideDir] at opened
    exact opened
  · have rests : isOpen = false ∨ runsInto (sideDir side) (s.chan i) = false := by
      refine h.imp_right fun h => ?_
      rw [← Bool.not_eq_true, runsInto_iff, ← dir]
      rintro ⟨hd, hon⟩
      exact h.elim (fun k => k hd) fun k => k hon
    rw [exec_limitSwitchChange, switchTo_of_rest isOpen rests]
    exact congrArg (fun c => Host.Outcome.next (s.setChan i c)) (setSwitch_eq isOpen)

end Sys2Proof.Machine
end

section
/-! PROOFS. Legal encoder edges (R47 to R49, R51, R53 to R59): what each of the five effects of R48 leaves, and the statement
of ENCODER_CHANGE on an edge. -/

namespace Sys2Proof.Machine

open Sys2Proof.Safety

variable {s t u : State} {i : Channel} {c : Chan} {d : Dir} {k : FaultKind} {seen : EncPair} {now : Time} {a b : PosUnit}

/-! ### The checks of an edge keep the edge (R55 to R59) -/

/-- What an edge writes itself is the same in `a` and `b`; the checks that follow it write the other items. -/
abbrev SameEdge (a b : PosUnit) : Prop :=
  b.held = a.held ∧ b.bound = a.bound ∧ b.lastEdge = a.lastEdge ∧ b.capture = a.capture ∧ b.speed = a.speed ∧
  b.speedTimeout = a.speedTimeout

/-- `t` comes from `s` by counts and fault reports on channel `i`. -/
structure EdgeChecked (i : Channel) (s t : State) : Prop where
  records : KeepsRecords s t
  part : KeepsPart s t
  others : KeepsOthers i s t
  referenced : (t.chan i).referenced = (s.chan i).referenced
  edge : SameEdge (s.chan i).pos (t.chan i).pos
  faults : ∀ k, hasFault (s.chan i).faults k = true → hasFault (t.chan i).faults k = true
  faulted : (s.chan i).state = .faulted → (t.chan i).state = .faulted

theorem keepsRecords_trans (h : KeepsRecords s u) (k : KeepsRecords u t) : KeepsRecords s t := by
  intro j
  obtain ⟨stored, authority, position⟩ := h j
  obtain ⟨stored', authority', position'⟩ := k j
  exact ⟨keepsStored_trans stored stored', ⟨authority'.1.trans authority.1, authority'.2.trans authority.2⟩,
    position'.trans position⟩

theorem keepsOthers_trans (hr : KeepsRecords s u) (h : KeepsOthers i s u) (k : KeepsOthers i u t) : KeepsOthers i s t := by
  intro j hj hg
  refine (k j hj ?_).trans (h j hj hg)
  rwa [(hr j).2.1.2, (hr i).2.1.2]

theorem EdgeChecked.trans (h : EdgeChecked i s u) (k : EdgeChecked i u t) : EdgeChecked i s t where
  records := keepsRecords_trans h.records k.records
  part := keepsPart_trans h.part k.part
  others := keepsOthers_trans h.records h.others k.others
  referenced := k.referenced.trans h.referenced
  edge := by
    obtain ⟨held, bound, last, capture, speed, timeout⟩ := h.edge
    obtain ⟨held', bound', last', capture', speed', timeout'⟩ := k.edge
    exact ⟨held'.trans held, bound'.trans bound, last'.trans last, capture'.trans capture, speed'.trans speed,
      timeout'.trans timeout⟩
  faults n hn := k.faults n (h.faults n hn)
  faulted hs := k.faulted (h.faulted hs)

theorem edgeChecked_setPos (h : SameEdge (s.chan i).pos b) : EdgeChecked i s (s.setChan i { s.chan i with pos := b }) := by
  have prepared : Prepared i s (s.setChan i { s.chan i with pos := b }) :=
    prepared_setChan ⟨rfl, rfl, rfl, rfl, rfl, rfl, rfl, rfl, rfl⟩ ⟨rfl, rfl⟩ rfl
  refine ⟨prepared.keepsRecords_trans fun j => ⟨⟨rfl, rfl, rfl, rfl, rfl, rfl, rfl, rfl, rfl⟩, ⟨rfl, rfl⟩, rfl⟩, prepared.part,
    fun j hj _ => prepared.others j hj, ?_, ?_, ?_, ?_⟩ <;> rw [State.chan_setChan, if_pos rfl]
  · exact h
  · exact fun _ => id
  · exact id

theorem edgeChecked_refl : EdgeChecked i s s := by
  have same := edgeChecked_setPos (s := s) (i := i) ⟨rfl, rfl, rfl, rfl, rfl, rfl⟩
  rwa [State.setChan_eq_self rfl] at same

theorem faultReport_pos (ho : (s.chan i).state ≠ .off) :
    ∃ a m, ((faultReport i k s).chan i).pos = { (s.chan i).pos with slipArmed := a, noMotion := m } := by
  obtain ⟨a, m, h, -⟩ := chanFault_pos (now := s.timebase) (k := k) (c := s.chan i)
  exact ⟨a, m, by rw [faultReport_chan_self ho, h]⟩

theorem hasFault_or (m : FaultSet) (n k : FaultKind) (h : hasFault m k = true) : hasFault (m ||| faultBit n) k = true := by
  simp only [hasFault, BitVec.getLsbD_or, Bool.or_eq_true] at h ⊢
  exact .inl h

theorem edgeChecked_faultReport (ho : (s.chan i).state ≠ .off) : EdgeChecked i s (faultReport i k s) := by
  obtain ⟨state, faults, -, -, -, records, part, others⟩ := faultTaken_faultReport (k := k) ho
  obtain ⟨a, m, pos⟩ := faultReport_pos (k := k) ho
  refine ⟨records, part, others, ?_, by rw [pos]; exact ⟨rfl, rfl, rfl, rfl, rfl, rfl⟩, fun n hn => ?_, fun _ => state⟩
  · rw [faultReport_chan_self ho]
    exact (chanFault_kept _ _ _).referenced
  · rw [faults]
    exact hasFault_or _ _ _ hn

/-! ### The slip accumulator (R56) -/

/-- The position unit with an edge taken by its slip accumulator. -/
def slipCounted (d : Dir) (c : Chan) : PosUnit :=
  { c.pos with slip := c.pos.slip + signOf d, slipStopped := decide (c.cfg.slipCount ≤ (c.pos.slip + signOf d).natAbs) }

theorem sign_eq : Dir.sign d = signOf d := by cases d <;> rfl

theorem edgeSlip_counts (h : (s.chan i).pos.slipArmed = true) (hs : (s.chan i).pos.slipStopped = false) :
    edgeSlip i d s =
      if (slipCounted d (s.chan i)).slipStopped = true then
        faultReport i .brakeSlip (s.setChan i { s.chan i with pos := slipCounted d (s.chan i) })
      else s.setChan i { s.chan i with pos := slipCounted d (s.chan i) } := by
  unfold edgeSlip
  rw [if_pos ⟨h, hs⟩, sign_eq]
  rfl

theorem edgeSlip_rests (h : (s.chan i).pos.slipArmed = false ∨ (s.chan i).pos.slipStopped = true) : edgeSlip i d s = s := by
  unfold edgeSlip
  refine if_neg fun ⟨ha, hs⟩ => ?_
  rcases h with h | h
  · rw [h] at ha; cases ha
  · rw [h] at hs; cases hs

theorem edgeChecked_edgeSlip (ho : (s.chan i).state ≠ .off) : EdgeChecked i s (edgeSlip i d s) := by
  by_cases h : (s.chan i).pos.slipArmed = true ∧ (s.chan i).pos.slipStopped = false
  · have counted : EdgeChecked i s (s.setChan i { s.chan i with pos := slipCounted d (s.chan i) }) :=
      edgeChecked_setPos ⟨rfl, rfl, rfl, rfl, rfl, rfl⟩
    rw [edgeSlip_counts h.1 h.2]
    split
    · exact counted.trans (edgeChecked_faultReport (by simpa using ho))
    · exact counted
  · rw [edgeSlip_rests (by simpa [Classical.or_iff_not_imp_left] using h)]
    exact edgeChecked_refl

/-! ### The wrong-direction count (R58) -/

/-- The position unit with an edge taken by its wrong-direction count. -/
def wrongCounted (d : Dir) (c : Chan) : PosUnit :=
  { c.pos with wrongDir := wrongNext (decide (c.lastDir = some d.opposite)) c.pos.wrongDir }

theorem edgeWrong_counts (h : (s.chan i).state = .running) :
    edgeWrong i d s =
      if 16 ≤ (wrongCounted d (s.chan i)).wrongDir then
        faultReport i .wrongDirection (s.setChan i { s.chan i with pos := wrongCounted d (s.chan i) })
      else s.setChan i { s.chan i with pos := wrongCounted d (s.chan i) } := by
  unfold edgeWrong
  rw [if_pos h]
  rfl

theorem edgeWrong_rests (h : (s.chan i).state ≠ .running) : edgeWrong i d s = s := by
  unfold edgeWrong
  exact if_neg h

theorem edgeChecked_edgeWrong : EdgeChecked i s (edgeWrong i d s) := by
  by_cases h : (s.chan i).state = .running
  · have counted : EdgeChecked i s (s.setChan i { s.chan i with pos := wrongCounted d (s.chan i) }) :=
      edgeChecked_setPos ⟨rfl, rfl, rfl, rfl, rfl, rfl⟩
    rw [edgeWrong_counts h]
    split
    · exact counted.trans (edgeChecked_faultReport (by simp [h]))
    · exact counted
  · rw [edgeWrong_rests h]
    exact edgeChecked_refl

theorem edgeWrong_slip : ((edgeWrong i d s).chan i).pos.slip = (s.chan i).pos.slip ∧
    ((edgeWrong i d s).chan i).pos.slipStopped = (s.chan i).pos.slipStopped := by
  by_cases h : (s.chan i).state = .running
  · rw [edgeWrong_counts h]
    split
    · obtain ⟨a, m, pos⟩ := faultReport_pos (k := .wrongDirection) (i := i)
        (s := s.setChan i { s.chan i with pos := wrongCounted d (s.chan i) }) (by simp [h])
      rw [pos, State.chan_setChan, if_pos rfl]
      exact ⟨rfl, rfl⟩
    · rw [State.chan_setChan, if_pos rfl]
      exact ⟨rfl, rfl⟩
  · rw [edgeWrong_rests h]
    exact ⟨rfl, rfl⟩

/-! ### The no-motion timer (R59) -/

/-- The position unit with its no-motion timer restarted where it runs. -/
def motionSeen (now : Time) (a : PosUnit) : PosUnit :=
  { a with noMotion := if a.noMotion = none then none else some (now + 1000000) }

theorem edgeMotion_eq : edgeMotion i s = s.setChan i { s.chan i with pos := motionSeen s.timebase (s.chan i).pos } := by
  unfold edgeMotion motionSeen
  rw [State.modChan_eq]
  refine congrArg (s.setChan i) ?_
  split
  next h => rw [if_neg (Option.isSome_iff_ne_none.mp h), startMs_1000]
  next h =>
    have hn : (s.chan i).pos.noMotion = none := Option.not_isSome_iff_eq_none.mp h
    rw [if_pos hn, ← hn]

theorem edgeMotion_chan :
    (edgeMotion i s).chan i = { s.chan i with pos := motionSeen s.timebase (s.chan i).pos } := by
  rw [edgeMotion_eq]
  simp

theorem edgeChecked_edgeMotion : EdgeChecked i s (edgeMotion i s) := by
  rw [edgeMotion_eq]
  exact edgeChecked_setPos ⟨rfl, rfl, rfl, rfl, rfl, rfl⟩

/-! ### The three checks in order (steps 3 to 5 of R48) -/

/-- Steps 3 to 5 of R48. -/
def edgeChecks (i : Channel) (d : Dir) (s : State) : State := edgeMotion i (edgeWrong i d (edgeSlip i d s))

theorem edgeChecked_edgeChecks (ho : (s.chan i).state ≠ .off) : EdgeChecked i s (edgeChecks i d s) :=
  ((edgeChecked_edgeSlip ho).trans edgeChecked_edgeWrong).trans edgeChecked_edgeMotion

theorem edgeChecks_slip : ((edgeChecks i d s).chan i).pos.slip = ((edgeSlip i d s).chan i).pos.slip ∧
    ((edgeChecks i d s).chan i).pos.slipStopped = ((edgeSlip i d s).chan i).pos.slipStopped := by
  unfold edgeChecks
  rw [edgeMotion_chan]
  exact edgeWrong_slip

/-- With no armed check and no run, an edge restarts the no-motion timer alone. -/
theorem edgeChecks_rests (h : (s.chan i).pos.slipArmed = false ∨ (s.chan i).pos.slipStopped = true)
    (hr : (s.chan i).state ≠ .running) :
    edgeChecks i d s = s.setChan i { s.chan i with pos := motionSeen s.timebase (s.chan i).pos } := by
  unfold edgeChecks
  rw [edgeSlip_rests h, edgeWrong_rests hr, edgeMotion_eq]

/-- An armed accumulator takes the edge, and reports BRAKE_SLIP at the slip count. -/
theorem edgeChecks_armed (ho : (s.chan i).state ≠ .off) (h : (s.chan i).pos.slipArmed = true)
    (hs : (s.chan i).pos.slipStopped = false) :
    let t := edgeChecks i d s
    (t.chan i).pos.slip = (s.chan i).pos.slip + signOf d ∧
    ((t.chan i).pos.slipStopped = true ↔ (s.chan i).cfg.slipCount ≤ (t.chan i).pos.slip.natAbs) ∧
    ((t.chan i).pos.slipStopped = true →
      (t.chan i).state = .faulted ∧ hasFault (t.chan i).faults .brakeSlip = true ∧ PendingBoth (.chan i .fault) t) ∧
    ((t.chan i).pos.slipStopped = false → (s.chan i).state ≠ .running →
      (t.chan i).state = (s.chan i).state ∧ (t.chan i).faults = (s.chan i).faults) := by
  intro t
  set p : Chan := { s.chan i with pos := slipCounted d (s.chan i) } with hp
  set v := s.setChan i p with hv
  have chan : v.chan i = p := by simp [hv]
  have hov : (v.chan i).state ≠ .off := by rw [chan]; exact ho
  have counts := edgeSlip_counts (d := d) h hs
  have counted : ((edgeSlip i d s).chan i).pos.slip = (slipCounted d (s.chan i)).slip ∧
      ((edgeSlip i d s).chan i).pos.slipStopped = (slipCounted d (s.chan i)).slipStopped := by
    rw [counts]
    split
    · obtain ⟨a, m, pos⟩ := faultReport_pos (k := .brakeSlip) hov
      rw [pos, chan]
      exact ⟨rfl, rfl⟩
    · rw [← hv, chan]
      exact ⟨rfl, rfl⟩
  have slip : (t.chan i).pos.slip = (slipCounted d (s.chan i)).slip := edgeChecks_slip.1.trans counted.1
  have stopped : (t.chan i).pos.slipStopped = (slipCounted d (s.chan i)).slipStopped := edgeChecks_slip.2.trans counted.2
  rw [slip, stopped]
  refine ⟨rfl, decide_eq_true_iff, fun hf => ?_, fun hf hr => ?_⟩
  · rw [if_pos hf] at counts
    obtain ⟨state, faults, -, noticed, -⟩ := faultTaken_faultReport (k := .brakeSlip) hov
    have rest : EdgeChecked i (edgeSlip i d s) t := edgeChecked_edgeWrong.trans edgeChecked_edgeMotion
    rw [counts] at rest
    exact ⟨rest.faulted state, rest.faults _ (by rw [faults]; simp), pendingBoth_of_keepsNotices noticed rest.part.1⟩
  · rw [if_neg (by rw [hf]; simp)] at counts
    have made : t.chan i = { p with pos := motionSeen v.timebase p.pos } := by
      have hr' : (v.chan i).state ≠ .running := by rw [chan]; exact hr
      show (edgeMotion i (edgeWrong i d (edgeSlip i d s))).chan i = _
      rw [counts, ← hv, edgeWrong_rests hr', edgeMotion_chan, chan]
    rw [made]
    exact ⟨rfl, rfl⟩

/-- On a RUNNING channel the wrong-direction count takes the edge, and reports WRONG_DIRECTION at 16. -/
theorem edgeChecks_running (h : (s.chan i).pos.slipArmed = false ∨ (s.chan i).pos.slipStopped = true)
    (hr : (s.chan i).state = .running) :
    let t := edgeChecks i d s
    (t.chan i).pos.wrongDir = (wrongCounted d (s.chan i)).wrongDir ∧
    (16 ≤ (t.chan i).pos.wrongDir →
      (t.chan i).state = .faulted ∧ hasFault (t.chan i).faults .wrongDirection = true ∧ PendingBoth (.chan i .fault) t) ∧
    ((t.chan i).pos.wrongDir < 16 →
      (t.chan i).state = .running ∧ (t.chan i).faults = (s.chan i).faults ∧
      ((s.chan i).pos.noMotion ≠ none → (t.chan i).pos.noMotion = some (s.timebase + 1000000)) ∧
      ((s.chan i).pos.noMotion = none → (t.chan i).pos.noMotion = none)) := by
  intro t
  set p : Chan := { s.chan i with pos := wrongCounted d (s.chan i) } with hp
  set v := s.setChan i p with hv
  have chan : v.chan i = p := by simp [hv]
  have hov : (v.chan i).state ≠ .off := by rw [chan, hp]; simp [hr]
  have counts := edgeWrong_counts (d := d) hr
  have made : t = edgeMotion i (edgeWrong i d s) := by
    show edgeChecks i d s = _
    unfold edgeChecks
    rw [edgeSlip_rests h]
  have wrong : (t.chan i).pos.wrongDir = (wrongCounted d (s.chan i)).wrongDir := by
    rw [made, edgeMotion_chan, counts]
    split
    · obtain ⟨a, m, pos⟩ := faultReport_pos (k := .wrongDirection) hov
      show ((faultReport i .wrongDirection v).chan i).pos.wrongDir = _
      rw [pos, chan]
    · rw [← hv, chan]
      rfl
  rw [wrong]
  refine ⟨rfl, fun hf => ?_, fun hf => ?_⟩
  · rw [if_pos hf] at counts
    obtain ⟨state, faults, -, noticed, -⟩ := faultTaken_faultReport (k := .wrongDirection) hov
    have rest : EdgeChecked i (edgeWrong i d s) t := made ▸ edgeChecked_edgeMotion
    rw [counts] at rest
    exact ⟨rest.faulted state, rest.faults _ (by rw [faults]; simp), pendingBoth_of_keepsNotices noticed rest.part.1⟩
  · rw [if_neg (by omega)] at counts
    have record : t.chan i = { p with pos := motionSeen s.timebase p.pos } := by
      rw [made, counts, ← hv, edgeMotion_chan, chan]
      rfl
    rw [record]
    exact ⟨hr, rfl, fun hn => if_neg hn, fun hn => if_pos hn⟩

end Sys2Proof.Machine
end

section
/-! PROOFS. The position, its bounds and the edge capture at an encoder edge (R48, R51 to R54), and the statement of
ENCODER_CHANGE on an edge. -/

namespace Sys2Proof.Machine

open Sys2Proof.Safety

variable {s t u : State} {i : Channel} {c : Chan} {d : Dir} {k : FaultKind} {seen : EncPair} {now : Time} {a b : PosUnit}

/-! ### The edge capture (R53, R54) -/

theorem captureEdge_eq : ∃ e x v, captureEdge now d a =
    { a with lastEdge := e, capture := x, speed := v, speedTimeout := some (now + 250000) } := by
  have timer : startMs now 250 = some (now + 250000) := by simp [startMs, afterMs]
  unfold captureEdge
  rw [timer]
  dsimp only
  split <;> exact ⟨_, _, _, rfl⟩

theorem captureEdge_lastEdge : (captureEdge now d a).lastEdge = some d := by
  unfold captureEdge
  dsimp only
  split
  next h => exact of_decide_eq_true h
  next h => exact of_decide_eq_true h
  next => rfl

/-- A second edge in the same direction measures the speed from the latest edge. -/
theorem captureEdge_two {x : Time} (hd : a.lastEdge = some d) (hx : latestEdge a.capture = some x) :
    (captureEdge now d a).capture = .two x now ∧ (captureEdge now d a).speed =
      if (now - x).toNat < 16 then 65535 else 1000000 / (now - x).toNat := by
  have same : decide (a.lastEdge = some d) = true := decide_eq_true hd
  unfold captureEdge
  dsimp only
  rw [same]
  cases hc : a.capture with
  | empty => rw [hc] at hx; cases hx
  | one y => rw [hc] at hx; cases hx; exact ⟨rfl, rfl⟩
  | two y z => rw [hc] at hx; cases hx; exact ⟨rfl, rfl⟩

/-- The first edge in a direction starts the capture anew. -/
theorem captureEdge_one (h : a.lastEdge ≠ some d ∨ a.capture = .empty) :
    (captureEdge now d a).capture = .one now ∧ (captureEdge now d a).speed = 0 := by
  unfold captureEdge
  dsimp only
  rcases h with h | h
  · rw [decide_eq_false h]
    cases a.capture <;> exact ⟨rfl, rfl⟩
  · rw [h]
    cases decide (a.lastEdge = some d) <;> exact ⟨rfl, rfl⟩

/-- Step 2 of R48. -/
def edgeCaptured (i : Channel) (d : Dir) (s : State) : State :=
  s.setChan i { s.chan i with pos := captureEdge s.timebase d (s.chan i).pos }

theorem edgeCaptured_chan :
    (edgeCaptured i d s).chan i = { s.chan i with pos := captureEdge s.timebase d (s.chan i).pos } := by
  simp [edgeCaptured]

theorem prepared_edgeCaptured : Prepared i s (edgeCaptured i d s) :=
  prepared_setChan ⟨rfl, rfl, rfl, rfl, rfl, rfl, rfl, rfl, rfl⟩ ⟨rfl, rfl⟩ rfl

/-! ### The whole edge (R48) -/

/-- The seen pair held. -/
def seenHeld (i : Channel) (seen : EncPair) (s : State) : State :=
  s.setChan i { s.chan i with pos := { (s.chan i).pos with held := seen } }

theorem seenHeld_chan : (seenHeld i seen s).chan i = { s.chan i with pos := { (s.chan i).pos with held := seen } } := by
  simp [seenHeld]

theorem encoderTo_of_edge (ho : (s.chan i).state ≠ .off) (h : EdgeOf d (s.chan i).pos.held seen) :
    encoderTo i seen s = edgeChecks i d (edgeCaptured i d (edgePosition i d (seenHeld i seen s))) := by
  have reads : readPair (s.chan i).pos.held seen = .edge d := by
    cases d
    · exact (readPair_up_iff _ _).mpr h
    · exact (readPair_down_iff _ _).mpr h
  simp only [encoderTo, if_neg ho, reads]
  rfl

theorem encoderTo_of_no_edge (h : (s.chan i).state = .off ∨ seen = (s.chan i).pos.held) :
    encoderTo i seen s = seenHeld i seen s := by
  by_cases ho : (s.chan i).state = .off
  · simp only [encoderTo, if_pos ho]
    rfl
  · have reads := (readPair_other_iff (s.chan i).pos.held seen).1.mpr (h.resolve_left ho)
    simp only [encoderTo, if_neg ho, reads]
    rfl

/-! ### The position (R48, R51) -/

/-- The position one count on in direction `d`. -/
def movedBy (d : Dir) (n : Nat) : Nat :=
  match d with
  | .up => n + 1
  | .down => n - 1

theorem pastBound_iff {n : Nat} : pastBound d n = true ↔ ¬HasRoom d n := by
  cases d <;> simp [pastBound]

/-- The channel with its position moved one count, its bound flag cleared, the seen pair held and the edge captured. -/
def movedChan (now : Time) (d : Dir) (seen : EncPair) (c : Chan) : Chan :=
  { c with
    position := movedBy d c.position
    pos := captureEdge now d { c.pos with held := seen, bound := .none } }

theorem movedChan_pos : ∃ e x v, (movedChan now d seen c).pos = { c.pos with
    held := seen, bound := .none, lastEdge := e, capture := x, speed := v, speedTimeout := some (now + 250000) } := by
  obtain ⟨e, x, v, h⟩ := captureEdge_eq (now := now) (d := d) (a := { c.pos with held := seen, bound := .none })
  exact ⟨e, x, v, h⟩

/-- An edge with room moves the position. -/
theorem encoderTo_moves (ho : (s.chan i).state ≠ .off) (h : EdgeOf d (s.chan i).pos.held seen)
    (hr : HasRoom d (s.chan i).position) :
    encoderTo i seen s = edgeChecks i d (s.setChan i (movedChan s.timebase d seen (s.chan i))) := by
  have room : ¬pastBound d ((seenHeld i seen s).chan i).position = true := by
    rw [seenHeld_chan, pastBound_iff]
    exact not_not.mpr hr
  have moved : edgePosition i d (seenHeld i seen s) = s.setChan i { s.chan i with
      position := movedBy d (s.chan i).position, pos := { (s.chan i).pos with held := seen, bound := .none } } := by
    unfold edgePosition
    dsimp only
    rw [if_neg room, seenHeld_chan]
    cases d <;> simp [seenHeld, movedBy]
  rw [encoderTo_of_edge ho h, moved]
  unfold edgeCaptured
  rw [State.chan_setChan, if_pos rfl, State.setChan_setChan]
  rfl

/-- What an edge that moves the position leaves. -/
theorem encoderTo_moved (ho : (s.chan i).state ≠ .off) (h : EdgeOf d (s.chan i).pos.held seen)
    (hr : HasRoom d (s.chan i).position) :
    let t := encoderTo i seen s
    (t.chan i).position = movedBy d (s.chan i).position ∧
    (t.chan i).pos.held = seen ∧ (t.chan i).pos.bound = .none ∧
    (t.chan i).referenced = (s.chan i).referenced ∧ (t.chan i).pos.lastEdge = some d ∧
    (t.chan i).pos.speedTimeout = some (s.timebase + 250000) ∧
    (∀ j : Channel, KeepsStored (s.chan j) (t.chan j) ∧ KeepsAuthority (s.chan j) (t.chan j)) ∧
    KeepsOthers i s t ∧ KeepsPart s t := by
  intro t
  set p := movedChan s.timebase d seen (s.chan i) with hp
  have chan : (s.setChan i p).chan i = p := by simp
  have checked : EdgeChecked i (s.setChan i p) t := by
    have made : t = edgeChecks i d (s.setChan i p) := encoderTo_moves ho h hr
    rw [made]
    exact edgeChecked_edgeChecks (by rw [chan]; exact ho)
  have last : p.pos.lastEdge = some d := captureEdge_lastEdge
  obtain ⟨e, x, v, pos⟩ := movedChan_pos (now := s.timebase) (d := d) (seen := seen) (c := s.chan i)
  obtain ⟨held, bound, edge, -, -, timeout⟩ := checked.edge
  rw [chan] at held bound edge timeout
  refine ⟨(checked.records i).2.2.trans (by rw [chan]; rfl), held.trans (by rw [hp, pos]), bound.trans (by rw [hp, pos]),
    checked.referenced.trans (by rw [chan]; rfl), edge.trans last, timeout.trans (by rw [hp, pos]), fun j => ?_,
    fun j hj hg => ?_, keepsPart_trans (keepsPart_of_records _ _) checked.part⟩
  · obtain ⟨stored, authority, -⟩ := checked.records j
    by_cases hj : j = i
    · subst hj
      rw [chan] at stored authority
      exact ⟨stored, authority⟩
    · rw [State.chan_setChan, if_neg hj] at stored authority
      exact ⟨stored, authority⟩
  · have same : (s.setChan i p).chan j = s.chan j := by simp [hj]
    refine (checked.others j hj ?_).trans same
    rw [same, chan]
    exact hg

/-! ### The bounds (R51, R52) -/

/-- The first saturated edge at a bound, before its report: the flag is set and the reference lost. -/
def boundMet (i : Channel) (d : Dir) (seen : EncPair) (s : State) : State :=
  loseReference i (s.setChan i { s.chan i with pos := { (s.chan i).pos with held := seen, bound := boundOf d } })

theorem boundMet_chan : (boundMet i d seen s).chan i = { s.chan i with
    referenced := false, pos := { (s.chan i).pos with held := seen, bound := boundOf d } } := by
  simp [boundMet, loseReference_chan]

theorem prepared_boundMet : Prepared i s (boundMet i d seen s) where
  groups := by simp [boundMet, loseReference_groups]
  part := keepsPart_trans (keepsPart_of_records _ _) keepsPart_loseReference
  others j hj := by simp [boundMet, loseReference_chan, hj]
  stored := by rw [boundMet_chan]; exact ⟨rfl, rfl, rfl, rfl, rfl, rfl, rfl, rfl, rfl⟩
  authority := by rw [boundMet_chan]; exact ⟨rfl, rfl⟩
  position := by rw [boundMet_chan]

theorem edgePosition_saturates (hr : ¬HasRoom d (s.chan i).position) (hb : (s.chan i).pos.bound ≠ boundOf d) :
    edgePosition i d (seenHeld i seen s) = faultReport i .encoder (boundMet i d seen s) := by
  unfold edgePosition
  simp only [seenHeld_chan, pastBound_iff.mpr hr, if_neg hb, if_true]
  simp [seenHeld, boundMet]

theorem edgePosition_again (hr : ¬HasRoom d (s.chan i).position) (hb : (s.chan i).pos.bound = boundOf d) :
    edgePosition i d (seenHeld i seen s) = seenHeld i seen s := by
  unfold edgePosition
  simp only [seenHeld_chan, pastBound_iff.mpr hr, if_pos hb, if_true]

/-- What the first saturated edge at a bound leaves. -/
theorem encoderTo_saturated (ho : (s.chan i).state ≠ .off) (h : EdgeOf d (s.chan i).pos.held seen)
    (hr : ¬HasRoom d (s.chan i).position) (hb : (s.chan i).pos.bound ≠ boundOf d) :
    let t := encoderTo i seen s
    (t.chan i).position = (s.chan i).position ∧ (t.chan i).pos.bound = boundOf d ∧
      (t.chan i).referenced = false ∧ (t.chan i).state = .faulted ∧ hasFault (t.chan i).faults .encoder = true ∧
      PendingBoth (.chan i .fault) t ∧ KeepsRecords s t ∧ KeepsOthers i s t ∧ KeepsPart s t := by
  intro t
  have hom : ((boundMet i d seen s).chan i).state ≠ .off := by rw [boundMet_chan]; exact ho
  set r := faultReport i .encoder (boundMet i d seen s) with hrep
  obtain ⟨state, faults, -, noticed, -, records, part, others⟩ := faultTaken_faultReport (k := .encoder) hom
  obtain ⟨x, m, pos⟩ := faultReport_pos (k := .encoder) hom
  have reference : (r.chan i).referenced = false := by
    rw [hrep, faultReport_chan_self hom, (chanFault_kept _ _ _).referenced, boundMet_chan]
  have captured : Prepared i r (edgeCaptured i d r) := prepared_edgeCaptured
  have made : t = edgeChecks i d (edgeCaptured i d r) := by
    show encoderTo i seen s = _
    rw [encoderTo_of_edge ho h, edgePosition_saturates hr hb]
  have checked : EdgeChecked i (edgeCaptured i d r) t := by
    rw [made]
    refine edgeChecked_edgeChecks ?_
    rw [edgeCaptured_chan]
    show (r.chan i).state ≠ .off
    rw [state]
    simp
  have recordsR : KeepsRecords s r := prepared_boundMet.keepsRecords_trans records
  have all : KeepsRecords s t := keepsRecords_trans recordsR (captured.keepsRecords_trans checked.records)
  obtain ⟨e, y, v, capture⟩ := captureEdge_eq (now := r.timebase) (d := d) (a := (r.chan i).pos)
  have bound : (r.chan i).pos.bound = boundOf d := by rw [hrep, pos, boundMet_chan]
  refine ⟨(all i).2.2, checked.edge.2.1.trans ?_, checked.referenced.trans ?_, checked.faulted ?_, checked.faults _ ?_,
    pendingBoth_of_keepsNotices noticed (keepsPart_trans captured.part checked.part).1, all,
    keepsOthers_trans recordsR (prepared_boundMet.keepsOthers_trans others) (captured.keepsOthers_trans checked.others),
    keepsPart_trans (keepsPart_trans prepared_boundMet.part part) (keepsPart_trans captured.part checked.part)⟩
  all_goals rw [edgeCaptured_chan]
  · show (captureEdge r.timebase d (r.chan i).pos).bound = _
    rw [capture, bound]
  · exact reference
  · exact state
  · show hasFault (r.chan i).faults .encoder = true
    rw [faults]
    simp

/-- A further saturated edge of a FAULTED channel with no armed check writes its position unit alone. -/
theorem encoderTo_again_eq (h : EdgeOf d (s.chan i).pos.held seen) (hr : ¬HasRoom d (s.chan i).position)
    (hb : (s.chan i).pos.bound = boundOf d) (hf : (s.chan i).state = .faulted) (hs : (s.chan i).pos.slipArmed = false) :
    ∃ u : PosUnit, u.bound = boundOf d ∧ encoderTo i seen s = s.setChan i { s.chan i with pos := u } := by
  obtain ⟨e, x, v, capture⟩ := captureEdge_eq (now := s.timebase) (d := d) (a := { (s.chan i).pos with held := seen })
  refine ⟨motionSeen s.timebase (captureEdge s.timebase d { (s.chan i).pos with held := seen }), ?_, ?_⟩
  · rw [capture]
    exact hb
  · have chan : (edgeCaptured i d (seenHeld i seen s)).chan i =
        { s.chan i with pos := captureEdge s.timebase d { (s.chan i).pos with held := seen } } := by
      rw [edgeCaptured_chan, seenHeld_chan]
      rfl
    rw [encoderTo_of_edge (by rw [hf]; simp) h, edgePosition_again hr hb, edgeChecks_rests, chan]
    · simp [edgeCaptured, seenHeld]
    · rw [chan, capture]
      exact .inl hs
    · rw [chan]
      show (s.chan i).state ≠ .running
      rw [hf]
      simp

theorem encoderTo_again (h : EdgeOf d (s.chan i).pos.held seen) (hr : ¬HasRoom d (s.chan i).position)
    (hb : (s.chan i).pos.bound = boundOf d) (hf : (s.chan i).state = .faulted) (hs : (s.chan i).pos.slipArmed = false) :
    let t := encoderTo i seen s
    (t.chan i).position = (s.chan i).position ∧ (t.chan i).pos.bound = boundOf d ∧
      (t.chan i).referenced = (s.chan i).referenced ∧ (t.chan i).faults = (s.chan i).faults ∧
      KeepsRecords s t ∧ (∀ j : Channel, j ≠ i → t.chan j = s.chan j) ∧
      t.notices = s.notices ∧ t.groups = s.groups ∧ KeepsPart s t := by
  obtain ⟨u, bound, made⟩ := encoderTo_again_eq h hr hb hf hs
  have prepared : Prepared i s (s.setChan i { s.chan i with pos := u }) :=
    prepared_setChan ⟨rfl, rfl, rfl, rfl, rfl, rfl, rfl, rfl, rfl⟩ ⟨rfl, rfl⟩ rfl
  dsimp only
  rw [made]
  refine ⟨prepared.position, by simpa using bound, by simp, by simp,
    prepared.keepsRecords_trans fun j => ⟨⟨rfl, rfl, rfl, rfl, rfl, rfl, rfl, rfl, rfl⟩, ⟨rfl, rfl⟩, rfl⟩, prepared.others,
    rfl, rfl, prepared.part⟩

/-! ### The measurement at every edge (R53, R54) -/

/-- The position step leaves the measurement. -/
theorem edgePosition_measure (ho : (s.chan i).state ≠ .off) :
    ((edgePosition i d s).chan i).state ≠ .off ∧ (edgePosition i d s).timebase = s.timebase ∧
      ((edgePosition i d s).chan i).pos.lastEdge = (s.chan i).pos.lastEdge ∧
      ((edgePosition i d s).chan i).pos.capture = (s.chan i).pos.capture := by
  unfold edgePosition
  dsimp only
  split
  · split
    · exact ⟨ho, rfl, rfl, rfl⟩
    · set v := s.setChan i { s.chan i with pos := { (s.chan i).pos with bound := boundOf d } } with hv
      have chan : (loseReference i v).chan i =
          { s.chan i with referenced := false, pos := { (s.chan i).pos with bound := boundOf d } } := by
        rw [loseReference_chan, if_pos rfl, hv, State.chan_setChan, if_pos rfl]
      have hol : ((loseReference i v).chan i).state ≠ .off := by rw [chan]; exact ho
      obtain ⟨state, -, -, -, -, -, part, -⟩ := faultTaken_faultReport (k := .encoder) hol
      obtain ⟨x, m, pos⟩ := faultReport_pos (k := .encoder) hol
      refine ⟨by rw [state]; simp, ?_, by rw [pos, chan], by rw [pos, chan]⟩
      rw [part.2.2.2.2.2.2.2.2.1, loseReference_timebase]
      rfl
  · rw [State.chan_setChan, if_pos rfl]
    exact ⟨ho, rfl, rfl, rfl⟩

/-- The capture and the measured speed that an edge leaves. -/
theorem encoderTo_measured (ho : (s.chan i).state ≠ .off) (h : EdgeOf d (s.chan i).pos.held seen) :
    let t := encoderTo i seen s
    (t.chan i).pos.lastEdge = some d ∧
      (∀ u : Time, (s.chan i).pos.lastEdge = some d → latestEdge (s.chan i).pos.capture = some u →
        (t.chan i).pos.capture = .two u s.timebase ∧
        (t.chan i).pos.speed =
          (if (s.timebase - u).toNat < 16 then 65535 else 1000000 / (s.timebase - u).toNat)) ∧
      ((s.chan i).pos.lastEdge ≠ some d ∨ (s.chan i).pos.capture = .empty →
        (t.chan i).pos.capture = .one s.timebase ∧ (t.chan i).pos.speed = 0) := by
  intro t
  obtain ⟨awake, time, last, capture⟩ := edgePosition_measure (s := seenHeld i seen s) (i := i) (d := d)
    (by rw [seenHeld_chan]; exact ho)
  set r := edgePosition i d (seenHeld i seen s)
  rw [seenHeld_chan] at last capture
  have now : r.timebase = s.timebase := time
  have chan : ((edgeCaptured i d r).chan i).pos = captureEdge s.timebase d (r.chan i).pos := by
    rw [edgeCaptured_chan, now]
  have made : t = edgeChecks i d (edgeCaptured i d r) := encoderTo_of_edge ho h
  have checked : EdgeChecked i (edgeCaptured i d r) t := by
    rw [made]
    exact edgeChecked_edgeChecks (by rw [edgeCaptured_chan]; exact awake)
  obtain ⟨-, -, edge, captured, speed, -⟩ := checked.edge
  rw [chan] at edge captured speed
  rw [edge, captured, speed]
  refine ⟨captureEdge_lastEdge, fun u hl hu => captureEdge_two (last.trans hl) (by rw [capture]; exact hu), fun hn => ?_⟩
  refine captureEdge_one (hn.imp (fun hl => ?_) fun hc => capture.trans hc)
  rw [last]
  exact hl

/-! ### The statement -/

/-- The checks of an edge that moves the position, said of the channel before it. -/
theorem encoderTo_checks (ho : (s.chan i).state ≠ .off) (h : EdgeOf d (s.chan i).pos.held seen)
    (hr : HasRoom d (s.chan i).position) :
    let t := encoderTo i seen s
    ((s.chan i).pos.slipArmed = true → (s.chan i).pos.slipStopped = false →
      (t.chan i).pos.slip = (s.chan i).pos.slip + signOf d ∧
      ((t.chan i).pos.slipStopped = true ↔ (s.chan i).cfg.slipCount ≤ (t.chan i).pos.slip.natAbs) ∧
      ((t.chan i).pos.slipStopped = true →
        (t.chan i).state = .faulted ∧ hasFault (t.chan i).faults .brakeSlip = true ∧ PendingBoth (.chan i .fault) t) ∧
      ((t.chan i).pos.slipStopped = false → (s.chan i).state ≠ .running →
        (t.chan i).state = (s.chan i).state ∧ (t.chan i).faults = (s.chan i).faults)) ∧
    ((s.chan i).pos.slipArmed = false ∨ (s.chan i).pos.slipStopped = true →
      (t.chan i).pos.slip = (s.chan i).pos.slip ∧ (t.chan i).pos.slipStopped = (s.chan i).pos.slipStopped ∧
      ((s.chan i).state ≠ .running → (t.chan i).pos.wrongDir = (s.chan i).pos.wrongDir ∧
        (t.chan i).state = (s.chan i).state ∧ (t.chan i).faults = (s.chan i).faults) ∧
      ((s.chan i).state = .running → (s.chan i).lastDir = some d.opposite →
        (t.chan i).pos.wrongDir = (s.chan i).pos.wrongDir + 1 ∧
        (16 ≤ (t.chan i).pos.wrongDir →
          (t.chan i).state = .faulted ∧ hasFault (t.chan i).faults .wrongDirection = true ∧
          PendingBoth (.chan i .fault) t)) ∧
      ((s.chan i).state = .running → (s.chan i).lastDir = some d → -65535 < (s.chan i).pos.wrongDir →
        (t.chan i).pos.wrongDir = (s.chan i).pos.wrongDir - 1) ∧
      ((s.chan i).state = .running → (t.chan i).pos.wrongDir < 16 →
        (t.chan i).state = .running ∧ (t.chan i).faults = (s.chan i).faults ∧
        ((s.chan i).pos.noMotion ≠ none → (t.chan i).pos.noMotion = some (s.timebase + 1000000)) ∧
        ((s.chan i).pos.noMotion = none → (t.chan i).pos.noMotion = none))) := by
  intro t
  set p := movedChan s.timebase d seen (s.chan i) with hp
  obtain ⟨e, x, v, pos⟩ := movedChan_pos (now := s.timebase) (d := d) (seen := seen) (c := s.chan i)
  rw [← hp] at pos
  have chan : (s.setChan i p).chan i = p := by simp
  have made : t = edgeChecks i d (s.setChan i p) := encoderTo_moves ho h hr
  have armed : p.pos.slipArmed = (s.chan i).pos.slipArmed := by rw [pos]
  have stopped : p.pos.slipStopped = (s.chan i).pos.slipStopped := by rw [pos]
  have slip : p.pos.slip = (s.chan i).pos.slip := by rw [pos]
  have wrong : p.pos.wrongDir = (s.chan i).pos.wrongDir := by rw [pos]
  have motion : p.pos.noMotion = (s.chan i).pos.noMotion := by rw [pos]
  have slips := edgeChecks_armed (s := s.setChan i p) (i := i) (d := d)
  have rests := edgeChecks_rests (s := s.setChan i p) (i := i) (d := d)
  have runs := edgeChecks_running (s := s.setChan i p) (i := i) (d := d)
  have slipKept := edgeChecks_slip (s := s.setChan i p) (i := i) (d := d)
  have counted : (wrongCounted d p).wrongDir =
      wrongNext (decide ((s.chan i).lastDir = some d.opposite)) (s.chan i).pos.wrongDir := by
    show wrongNext _ p.pos.wrongDir = _
    rw [wrong]
    rfl
  rw [chan] at slips rests runs
  rw [armed, stopped, slip] at slips
  rw [armed, stopped] at rests runs
  rw [motion, counted] at runs
  rw [← made] at slips rests runs slipKept
  refine ⟨fun ha hs => slips ho ha hs, fun hn => ?_⟩
  have kept : edgeSlip i d (s.setChan i p) = s.setChan i p := edgeSlip_rests (by rw [chan, armed, stopped]; exact hn)
  rw [kept, chan, slip, stopped] at slipKept
  refine ⟨slipKept.1, slipKept.2, fun hs => ?_, fun hs hd => ?_, fun hs hd hm => ?_, fun hs => ?_⟩
  · rw [rests hn hs]
    simp only [State.chan_setChan, if_true]
    exact ⟨wrong, rfl, rfl⟩
  · obtain ⟨count, report, -⟩ := runs hn hs
    refine ⟨count.trans ?_, report⟩
    simp [wrongNext, hd]
  · obtain ⟨count, -, -⟩ := runs hn hs
    refine count.trans ?_
    have along : ¬d = d.opposite := by cases d <;> simp [Dir.opposite]
    simp only [wrongNext, hd, Option.some.injEq, along, decide_false, Bool.false_eq_true, if_false]
    omega
  · exact (runs hn hs).2.2

/-- Settles O12, by the room for the edge and the flag at its bound. -/
theorem encoderEdgesCount : Obligations.EncoderEdgesCount := by
  unfold Obligations.EncoderEdgesCount
  intro i seen s
  refine ⟨fun ho he hr => ⟨_, exec_encoderChange seen, encoderTo_moved (d := .up) ho he hr⟩,
    fun ho he hr => ⟨_, exec_encoderChange seen, ?_⟩, fun h => ?_, fun ho he hp => ⟨fun hb => ?_, fun hb hf hs => ?_⟩,
    fun ho he hp => ⟨fun hb => ?_, fun hb hf hs => ?_⟩, fun d ho he => ⟨_, exec_encoderChange seen, encoderTo_measured ho he⟩,
    fun d ho he hr => ⟨_, exec_encoderChange seen, encoderTo_checks ho he hr⟩⟩
  · obtain ⟨position, rest⟩ := encoderTo_moved (d := .down) ho he hr
    refine ⟨?_, rest⟩
    rw [position]
    exact Nat.sub_add_cancel hr
  · rw [exec_encoderChange, encoderTo_of_no_edge h]
    rfl
  · have full : ¬HasRoom .down (s.chan i).position := by simp [hp]
    obtain ⟨position, rest⟩ := encoderTo_saturated (d := .down) ho he full hb
    exact ⟨_, exec_encoderChange seen, position.trans hp, rest⟩
  · have full : ¬HasRoom .down (s.chan i).position := by simp [hp]
    obtain ⟨position, rest⟩ := encoderTo_again he full hb hf hs
    exact ⟨_, exec_encoderChange seen, position.trans hp, rest⟩
  · have full : ¬HasRoom .up (s.chan i).position := by simp [hp]
    obtain ⟨position, rest⟩ := encoderTo_saturated (d := .up) ho he full hb
    exact ⟨_, exec_encoderChange seen, position.trans hp, rest⟩
  · have full : ¬HasRoom .up (s.chan i).position := by simp [hp]
    obtain ⟨position, rest⟩ := encoderTo_again he full hb hf hs
    exact ⟨_, exec_encoderChange seen, position.trans hp, rest⟩

end Sys2Proof.Machine
end

section
/-! PROOFS. CLEAR_FAULTS on the channels of its set in order (R12, R57), and the pendant group's exit from TRIPPED at an entry
to PARKED that it makes (R100). -/

namespace Sys2Proof.Machine

open Sys2Proof.Safety

variable {s t u v : State} {i j : Channel} {c : Chan} {now : Time} {enable : EightSet} {done : Channel → Bool}
  {h : Holder} {g : Option GroupId}

/-! ### One channel (R12, R57) -/

/-- The clear is held off by a brake-set confirmation of a FAULTED channel (R12). -/
abbrev ClearHeldOff (c : Chan) : Prop := c.out.confirmTimer ≠ none ∧ c.state = .faulted

theorem chanClearFaults_held (hc : ClearHeldOff c) : chanClearFaults now enable c = c := by
  unfold chanClearFaults
  exact if_pos ⟨hc.2, Option.isSome_iff_ne_none.mpr hc.1⟩

/-- A cleared channel that has no kind left on it enters PARKED where it was FAULTED. -/
theorem chanClearFaults_free (hc : ¬ClearHeldOff c) :
    let p := chanClearFaults now enable c
    p.faults = keptFaults enable c ∧ p.pos.slip = 0 ∧ p.pos.slipStopped = false ∧
      p.state = (if c.state = .faulted ∧ p.faults = 0 then .parked else c.state) ∧
      (c.state = .faulted → p.faults = 0 → p.out.dwellTimer = startMs now c.cfg.dwell ∧ p.lastDir = c.lastDir) := by
  have free : ¬(c.state = .faulted ∧ c.out.confirmTimer.isSome = true) := fun k =>
    hc ⟨Option.isSome_iff_ne_none.mp k.2, k.1⟩
  have made : chanClearFaults now enable c = _ := if_neg free
  intro p
  by_cases k : c.state = .faulted ∧ keptFaults enable c = 0
  · have parks : p = _ := made.trans (if_pos k)
    rw [parks]
    exact ⟨rfl, rfl, rfl, (if_pos k).symm, fun _ _ => ⟨rfl, rfl⟩⟩
  · have stays : p = _ := made.trans (if_neg k)
    rw [stays]
    exact ⟨rfl, rfl, rfl, (if_neg k).symm, fun hf hk => absurd ⟨hf, hk⟩ k⟩

theorem chanClearFaults_startPending : (chanClearFaults now enable c).startPending = c.startPending := by
  unfold chanClearFaults clearSlip
  split
  · rfl
  · dsimp only
    split <;> rfl

/-- The clear does not read the channel's authority. -/
theorem chanClearFaults_authority : chanClearFaults now enable { c with holder := h, group := g } =
    { chanClearFaults now enable c with holder := h, group := g } := by
  have same : keptFaults enable { c with holder := h, group := g } = keptFaults enable c := rfl
  unfold chanClearFaults
  by_cases k : c.state = .faulted ∧ c.out.confirmTimer.isSome = true
  · exact (if_pos k).trans (by rw [if_pos k])
  · refine (if_neg k).trans ?_
    rw [if_neg k, same]
    by_cases m : c.state = .faulted ∧ keptFaults enable c = 0
    · exact (if_pos m).trans (by dsimp only [clearSlip]; rw [if_pos m]; rfl)
    · exact (if_neg m).trans (by dsimp only [clearSlip]; rw [if_neg m])

/-- The state is FAULTED's alone to change. -/
theorem chanClearFaults_state :
    (chanClearFaults now enable c).state = c.state ∨
      (c.state = .faulted ∧ (chanClearFaults now enable c).state = .parked) := by
  by_cases hc : ClearHeldOff c
  · exact .inl (by rw [chanClearFaults_held hc])
  · obtain ⟨-, -, -, state, -⟩ := chanClearFaults_free (now := now) (enable := enable) hc
    rw [state]
    split
    next k => exact .inr ⟨k.1, rfl⟩
    next => exact .inl rfl

/-- The persistent kinds stand at bits 4, 7 and 9. -/
theorem persistent_bits (x y z : Bool) (k : Fin 11) :
    (let m := if x then (0 : FaultSet) ||| faultBit .stuckContactor else 0
     let m := if y then m ||| faultBit .overload else m
     if z then m ||| faultBit .loadcell else m).getLsbD k.val = (k.val == 4 && x || (k.val == 7 && y) || (k.val == 9 && z)) := by
  revert x y z k
  decide

theorem keptFaults_bit (k : Fin 11) : (keptFaults enable c).getLsbD k.val =
    (c.faults.getLsbD k.val &&
      ((k.val == 4 && c.out.cs && !c.out.raise && !c.out.lower) ||
       (k.val == 7 && decide (c.load.status = .valid) && decide (c.envMax < c.load.filtered)) ||
       (k.val == 9 && c.load.input.any (inSet enable) && c.load.raw.any fun r => r == 0 || r == 4095))) := by
  have made : (keptFaults enable c).getLsbD k.val = _ :=
    persistent_bits (hasFault c.faults .stuckContactor && causePresent enable c .stuckContactor)
      (hasFault c.faults .overload && causePresent enable c .overload)
      (hasFault c.faults .loadcell && causePresent enable c .loadcell) k
  rw [made]
  have reading : (fun r => r == 0 || r == 4095) = isSensorReading := by
    funext r
    simp only [isSensorReading, beq_eq_decide]
  simp only [hasFault, faultCode, causePresent, linesDown, reading]
  by_cases h4 : k.val = 4
  · simp [h4, Bool.and_assoc]
  by_cases h7 : k.val = 7
  · simp [h7]
  by_cases h9 : k.val = 9
  · simp [h9]
  simp [beq_false_of_ne h4, beq_false_of_ne h7, beq_false_of_ne h9]

/-! ### Authority after an evaluation -/

/-- An evaluation takes a channel to the pendant group or gives it back, and leaves every other group field. -/
abbrev GroupsTaken (s t : State) : Prop :=
  ∀ j, (t.chan j).group = (s.chan j).group ∨ (t.chan j).group = none ∨ (t.chan j).group = some .pendant

theorem groupsTaken_foldl {f : State → Channel → State} (hf : ∀ s i, GroupsTaken s (f s i)) (l : List Channel) :
    GroupsTaken s (l.foldl f s) := by
  induction l generalizing s with
  | nil => exact fun _ => .inl rfl
  | cons i l ih =>
    intro j
    rcases ih (s := f s i) j with k | k | k
    · rw [List.foldl_cons, k]
      exact hf s i j
    · exact .inr (.inl k)
    · exact .inr (.inr k)

theorem groupsTaken_setChan (hc : c.group = none ∨ c.group = some .pendant) : GroupsTaken s (s.setChan i c) := by
  intro j
  rw [State.chan_setChan]
  split
  · exact .inr hc
  · exact .inl rfl

theorem groupsTaken_pendantEval : GroupsTaken s (pendantEval s) := by
  unfold pendantEval
  split
  · refine groupsTaken_foldl (fun s i => ?_) _
    rcases evalChannel_cases s i with e | ⟨-, -, -, e⟩ | ⟨-, -, e⟩ <;> rw [e]
    · exact fun _ => .inl rfl
    · exact groupsTaken_setChan (.inr rfl)
    · exact groupsTaken_setChan (.inl rfl)
  · refine groupsTaken_foldl (fun s i => ?_) _
    unfold releasePendant
    dsimp only
    split
    · exact groupsTaken_setChan (.inl rfl)
    · exact fun _ => .inl rfl

theorem groupsTaken_pendantIdle : GroupsTaken s (pendantIdle s) := fun j =>
  groupsTaken_pendantEval (s := s.modGrp .pendant fun r => { r with state := .idle, updateTimer := none }) j

/-- An evaluation is read from holders and groups alone. -/
theorem pendantEvaluated_of_authority (e : PendantEvaluated s v) (k : ∀ j, KeepsAuthority (v.chan j) (t.chan j)) :
    PendantEvaluated s t := by
  have holder (j : Channel) : (t.chan j).holder = (v.chan j).holder := (k j).1
  have group (j : Channel) : (t.chan j).group = (v.chan j).group := (k j).2
  simp only [PendantEvaluated, KeepsAuthority, holder, group]
  exact e

theorem pendantEvaluated_before (e : PendantEvaluated v t) (arb : v.arb = s.arb)
    (k : ∀ j, KeepsAuthority (s.chan j) (v.chan j) ∧ (v.chan j).cfg = (s.chan j).cfg ∧
      ((v.chan j).state = .off ↔ (s.chan j).state = .off)) : PendantEvaluated s t := by
  have holder (j : Channel) : (v.chan j).holder = (s.chan j).holder := (k j).1.1
  have group (j : Channel) : (v.chan j).group = (s.chan j).group := (k j).1.2
  have cfg (j : Channel) : (v.chan j).cfg = (s.chan j).cfg := (k j).2.1
  have off (j : Channel) : (v.chan j).state = .off ↔ (s.chan j).state = .off := (k j).2.2
  simp only [PendantEvaluated, KeepsAuthority, holder, group, cfg, arb, ne_eq, off] at e ⊢
  exact e

/-! ### The channels passed -/

/-- The record of channel `j` once the channels of `done` have been cleared. -/
def passed (s : State) (done : Channel → Bool) (j : Channel) : Chan :=
  if done j then chanClearFaults s.timebase s.settings.enable (s.chan j) else s.chan j

/-- The pendant group leaves TRIPPED (R100): an entry to PARKED of a member finds PENB inactive and every member PARKED. -/
def PendantLeaves (s : State) (done : Channel → Bool) : Prop :=
  (s.grp .pendant).state = .tripped ∧ s.arb.penb = false ∧
    (∃ i, done i = true ∧ (s.chan i).group = some .pendant ∧ (s.chan i).state = .faulted ∧
      (passed s done i).state = .parked) ∧
    ∀ i, (s.chan i).group = some .pendant → (passed s done i).state = .parked

/-- `done` with channel `i` passed too. -/
def andAlso (done : Channel → Bool) (i j : Channel) : Bool := done j || decide (j = i)

theorem passed_andAlso_ne (hj : j ≠ i) : passed s (andAlso done i) j = passed s done j := by
  simp [passed, andAlso, hj]

theorem passed_andAlso_self :
    passed s (andAlso done i) i = chanClearFaults s.timebase s.settings.enable (s.chan i) := by
  simp [passed, andAlso]

theorem passed_of_not_done (hi : done i = false) : passed s done i = s.chan i := by simp [passed, hi]

theorem passed_kept (j : Channel) : ChanKept (s.chan j) (passed s done j) := by
  unfold passed
  split
  · exact chanClearFaults_kept _ _ _
  · exact .rfl' _

theorem passed_off (j : Channel) : (passed s done j).state = .off ↔ (s.chan j).state = .off := by
  unfold passed
  split
  · rcases chanClearFaults_state (now := s.timebase) (enable := s.settings.enable) (c := s.chan j) with k | ⟨k, m⟩
    · rw [k]
    · rw [k, m]
      simp
  · exact Iff.rfl

/-- Channel `i` enters PARKED at its clear. -/
abbrev ClearParks (s : State) (i : Channel) : Prop :=
  (s.chan i).state = .faulted ∧ (chanClearFaults s.timebase s.settings.enable (s.chan i)).state = .parked

/-- A channel that does not enter PARKED, or is no member, does not decide the exit. -/
theorem pendantLeaves_andAlso (hi : done i = false) (k : ¬ClearParks s i ∨ (s.chan i).group ≠ some .pendant) :
    PendantLeaves s (andAlso done i) ↔ PendantLeaves s done := by
  have some_one : (∃ j, andAlso done i j = true ∧ (s.chan j).group = some .pendant ∧ (s.chan j).state = .faulted ∧
      (passed s (andAlso done i) j).state = .parked) ↔
      ∃ j, done j = true ∧ (s.chan j).group = some .pendant ∧ (s.chan j).state = .faulted ∧
        (passed s done j).state = .parked := by
    refine exists_congr fun j => ?_
    by_cases hj : j = i
    · subst hj
      rw [passed_andAlso_self, hi]
      refine iff_of_false ?_ (by simp)
      rintro ⟨-, hg, hf, hp⟩
      exact k.elim (fun k => k ⟨hf, hp⟩) fun k => k hg
    · rw [passed_andAlso_ne hj]
      simp [andAlso, hj]
  have all : (∀ j, (s.chan j).group = some .pendant → (passed s (andAlso done i) j).state = .parked) ↔
      ∀ j, (s.chan j).group = some .pendant → (passed s done j).state = .parked := by
    refine forall_congr' fun j => imp_congr_right fun hg => ?_
    by_cases hj : j = i
    · subst hj
      rw [passed_andAlso_self, passed_of_not_done hi]
      rcases chanClearFaults_state (now := s.timebase) (enable := s.settings.enable) (c := s.chan j) with e | e
      · rw [e]
      · exact absurd e (k.resolve_right (not_not.mpr hg))
    · rw [passed_andAlso_ne hj]
  unfold PendantLeaves
  rw [some_one, all]

/-- While a member is still FAULTED the group has not left. -/
theorem not_pendantLeaves (hi : done i = false) (hg : (s.chan i).group = some .pendant) (hf : (s.chan i).state = .faulted) :
    ¬PendantLeaves s done := by
  rintro ⟨-, -, -, all⟩
  have parked := all i hg
  rw [passed_of_not_done hi, hf] at parked
  cases parked

end Sys2Proof.Machine
end

section
/-! PROOFS. CLEAR_FAULTS over its set, channel by channel, and its statement. -/

namespace Sys2Proof.Machine

open Sys2Proof.Safety

variable {s t u v : State} {i j : Channel} {c : Console} {b : Byte} {done : Channel → Bool} {l : List Channel} {n : ConsoleGroup}

/-! ### What the clear of the channels of `done` leaves -/

/-- The record of the pendant group that has left TRIPPED. -/
def exitedGroup (r : Group) : Group := { r with state := .idle, trip := none, updateTimer := none }

/-- The channels of `done` have been cleared, and the pendant group has left TRIPPED where an entry to PARKED let it. -/
structure Clearing (s : State) (done : Channel → Bool) (v : State) : Prop where
  chan : ∀ j, v.chan j = { passed s done j with holder := (v.chan j).holder, group := (v.chan j).group }
  groups : GroupsTaken s v
  console : ∀ n, v.grp (.console n) = s.grp (.console n)
  notices : v.notices = s.notices
  stops : v.stops = s.stops
  part : KeepsPart s v
  pendant :
    (¬PendantLeaves s done ∧ v.grp .pendant = s.grp .pendant ∧ ∀ j, KeepsAuthority (s.chan j) (v.chan j)) ∨
      (PendantLeaves s done ∧ v.grp .pendant = exitedGroup (s.grp .pendant) ∧ PendantEvaluated s v)

theorem clearing_none : Clearing s (fun _ => false) s := by
  have none_passed (j : Channel) : passed s (fun _ => false) j = s.chan j := passed_of_not_done rfl
  refine ⟨fun j => by rw [none_passed], fun _ => .inl rfl, fun _ => rfl, rfl, rfl, keepsPart_of_records _ _,
    .inl ⟨?_, rfl, fun _ => ⟨rfl, rfl⟩⟩⟩
  rintro ⟨-, -, ⟨i, hi, -⟩, -⟩
  cases hi

/-- `v` with the record of channel `i` cleared, before its group is told. -/
def clearedAt (i : Channel) (v : State) : State :=
  v.setChan i (chanClearFaults v.timebase v.settings.enable (v.chan i))

theorem clearOne_eq : clearOne v i = afterPark (v.chan i).state i (clearedAt i v) := rfl

theorem pendantIdle_stops : (pendantIdle s).stops = s.stops := by
  unfold pendantIdle
  rw [(pendantEval_eq _).1]
  rfl

/-- A group at rest takes nothing from an entry to PARKED, unless it is the pendant group in TRIPPED. -/
theorem tellParked_of_still {g : GroupId} (hg : (s.chan i).group = some g) (hs : (s.grp g).state.inMove = false)
    (ht : g = .pendant → (s.grp g).state ≠ .tripped) : tellParked i s = s := by
  cases k : (s.grp g).state with
  | idle => exact tellParked_of_rests hg (.inl k)
  | paused => exact tellParked_of_rests hg (.inr (.inr k))
  | tripped => exact (tellParked_of_tripped hg k).trans (if_neg fun e => ht e k)
  | starting => rw [k] at hs; cases hs
  | moving => rw [k] at hs; cases hs
  | holding => rw [k] at hs; cases hs
  | stopping => rw [k] at hs; cases hs

section Step

variable (h : Clearing s done v) (hi : done i = false)
include h hi

theorem Clearing.self : v.chan i = { s.chan i with holder := (v.chan i).holder, group := (v.chan i).group } := by
  have same := h.chan i
  rwa [passed_of_not_done hi] at same

theorem Clearing.cleared : chanClearFaults v.timebase v.settings.enable (v.chan i) =
    { chanClearFaults s.timebase s.settings.enable (s.chan i) with
      holder := (v.chan i).holder, group := (v.chan i).group } := by
  obtain ⟨-, -, -, -, -, settings, -, -, time, -⟩ := h.part
  rw [time, settings, h.self hi]
  exact chanClearFaults_authority

omit h hi in
theorem clearedAt_authority (j : Channel) : KeepsAuthority (v.chan j) ((clearedAt i v).chan j) := by
  rw [clearedAt, State.chan_setChan]
  split
  next e =>
    rw [e]
    have kept := chanClearFaults_kept v.timebase (v.chan i) v.settings.enable
    exact ⟨kept.holder, kept.group⟩
  next => exact ⟨rfl, rfl⟩

theorem Clearing.clearedAt_chan (j : Channel) : (clearedAt i v).chan j =
    { passed s (andAlso done i) j with holder := (v.chan j).holder, group := (v.chan j).group } := by
  rw [clearedAt, State.chan_setChan]
  split
  next e => rw [e, passed_andAlso_self, h.cleared hi]
  next e => rw [passed_andAlso_ne e, h.chan j]

theorem Clearing.clearedAt_chan' (j : Channel) : (clearedAt i v).chan j = { passed s (andAlso done i) j with
    holder := ((clearedAt i v).chan j).holder, group := ((clearedAt i v).chan j).group } := by
  rw [(clearedAt_authority j).1, (clearedAt_authority j).2]
  exact h.clearedAt_chan hi j

/-- A clear of which no group takes anything. -/
theorem Clearing.untold (same : PendantLeaves s (andAlso done i) ↔ PendantLeaves s done) :
    Clearing s (andAlso done i) (clearedAt i v) where
  chan := h.clearedAt_chan' hi
  groups j := by rw [(clearedAt_authority j).2]; exact h.groups j
  console := h.console
  notices := h.notices
  stops := h.stops
  part := keepsPart_trans h.part (keepsPart_of_records _ _)
  pendant := by
    rw [same]
    refine h.pendant.imp (fun ⟨stays, record, authority⟩ => ⟨stays, record, fun j => ?_⟩)
      (fun ⟨leaves, record, evaluated⟩ => ⟨leaves, record, pendantEvaluated_of_authority evaluated clearedAt_authority⟩)
    exact ⟨(clearedAt_authority j).1.trans (authority j).1, (clearedAt_authority j).2.trans (authority j).2⟩

/-- The clear at which the pendant group leaves TRIPPED. -/
theorem Clearing.exits (hm : (s.chan i).group = some .pendant) (hp : ClearParks s i)
    (leaves : PendantLeaves s (andAlso done i)) : Clearing s (andAlso done i)
      (pendantIdle ((clearedAt i v).setGrp .pendant { (clearedAt i v).grp .pendant with trip := none })) := by
  obtain ⟨-, record, authority⟩ := h.pendant.resolve_right fun k => not_pendantLeaves hi hm hp.1 k.1
  obtain ⟨ended, consoles, notices, chans, evaluated, part⟩ :=
    pendantEnds_pendantIdle (s := clearedAt i v) (r := { (clearedAt i v).grp .pendant with trip := none })
  have authorityU (j : Channel) : KeepsAuthority (s.chan j) ((clearedAt i v).chan j) :=
    ⟨(clearedAt_authority j).1.trans (authority j).1, (clearedAt_authority j).2.trans (authority j).2⟩
  refine ⟨fun j => ?_, fun j => ?_, fun n => (consoles n).trans (h.console n), notices.trans h.notices,
    pendantIdle_stops.trans h.stops, keepsPart_trans h.part (keepsPart_trans (keepsPart_of_records _ _) part),
    .inr ⟨leaves, ended.trans ?_, ?_⟩⟩
  · have made := chans j
    rwa [h.clearedAt_chan hi j] at made
  · rcases groupsTaken_pendantIdle
      (s := (clearedAt i v).setGrp .pendant { (clearedAt i v).grp .pendant with trip := none }) j with k | k | k
    · exact .inl (k.trans (authorityU j).2)
    · exact .inr (.inl k)
    · exact .inr (.inr k)
  · have same : (clearedAt i v).grp .pendant = s.grp .pendant := record
    rw [same]
    rfl
  · refine pendantEvaluated_before evaluated h.part.2.2.2.1 fun j => ⟨authorityU j, ?_, ?_⟩
    all_goals rw [h.clearedAt_chan hi j]
    · exact (passed_kept j).cfg
    · exact passed_off j

/-- The test of R100 at an entry to PARKED of a member decides whether the group leaves. -/
theorem Clearing.exit_iff (hm : (s.chan i).group = some .pendant) (hp : ClearParks s i) :
    (((clearedAt i v).grp .pendant).state = .tripped ∧ (clearedAt i v).arb.penb = false ∧
      (clearedAt i v).allParked .pendant = true) ↔ PendantLeaves s (andAlso done i) := by
  obtain ⟨-, record, authority⟩ := h.pendant.resolve_right fun k => not_pendantLeaves hi hm hp.1 k.1
  have all : (clearedAt i v).allParked .pendant = true ↔
      ∀ j, (s.chan j).group = some .pendant → (passed s (andAlso done i) j).state = .parked := by
    rw [State.allParked_iff]
    refine forall_congr' fun j => ?_
    rw [(clearedAt_authority j).2, (authority j).2, h.clearedAt_chan hi j]
  have state : ((clearedAt i v).grp .pendant).state = (s.grp .pendant).state := congrArg Group.state record
  have penb : (clearedAt i v).arb.penb = s.arb.penb := congrArg Arbiter.penb h.part.2.2.2.1
  rw [all, state, penb]
  have entered : ∃ j, andAlso done i j = true ∧ (s.chan j).group = some .pendant ∧ (s.chan j).state = .faulted ∧
      (passed s (andAlso done i) j).state = .parked :=
    ⟨i, by simp [andAlso], hm, hp.1, by rw [passed_andAlso_self]; exact hp.2⟩
  exact ⟨fun ⟨t, p, a⟩ => ⟨t, p, entered, a⟩, fun ⟨t, p, _, a⟩ => ⟨t, p, a⟩⟩

/-- One channel of CLEAR_FAULTS. -/
theorem Clearing.step (ht : TimerLaw (s.chan i))
    (hg : ∀ g, (s.chan i).group = some g → (s.grp g).state.inMove = false) :
    Clearing s (andAlso done i) (clearOne v i) := by
  have before : (v.chan i).state = (s.chan i).state := by rw [h.self hi]
  have after : ((clearedAt i v).chan i).state = (chanClearFaults s.timebase s.settings.enable (s.chan i)).state := by
    rw [h.clearedAt_chan hi i, passed_andAlso_self]
  have group : ((clearedAt i v).chan i).group = (v.chan i).group := (clearedAt_authority i).2
  rw [clearOne_eq, before]
  by_cases hp : ClearParks s i
  · have none_pending : ((clearedAt i v).chan i).startPending = none := by
      rw [h.clearedAt_chan hi i, passed_andAlso_self]
      refine chanClearFaults_startPending.trans ?_
      by_contra some_pending
      obtain ⟨-, -, -, -, -, pending⟩ := ht
      simpa [hp.1] using pending some_pending
    have entered : afterPark (s.chan i).state i (clearedAt i v) = retestPending i (tellParked i (clearedAt i v)) := by
      unfold afterPark
      exact if_pos ⟨by rw [hp.1]; simp, after.trans hp.2⟩
    have quiet (same : PendantLeaves s (andAlso done i) ↔ PendantLeaves s done)
        (told : tellParked i (clearedAt i v) = clearedAt i v) :
        Clearing s (andAlso done i) (retestPending i (tellParked i (clearedAt i v))) := by
      rw [told, retestPending_of_none none_pending]
      exact h.untold hi same
    rw [entered]
    by_cases hm : (s.chan i).group = some .pendant
    · obtain ⟨stays, record, authority⟩ := h.pendant.resolve_right fun k => not_pendantLeaves hi hm hp.1 k.1
      have member : ((clearedAt i v).chan i).group = some .pendant := group.trans ((authority i).2.trans hm)
      by_cases leaves : PendantLeaves s (andAlso done i)
      · have test := (h.exit_iff hi hm hp).mpr leaves
        have told : tellParked i (clearedAt i v) =
            pendantIdle ((clearedAt i v).setGrp .pendant { (clearedAt i v).grp .pendant with trip := none }) := by
          rw [tellParked_of_tripped member test.1, if_pos rfl]
          unfold pendantExit
          exact if_pos test
        have ends := pendantEnds_pendantIdle (s := clearedAt i v) (r := { (clearedAt i v).grp .pendant with trip := none })
        rw [told, retestPending_of_none (by rw [ends.2.2.2.1 i]; exact none_pending)]
        exact h.exits hi hm hp leaves
      · refine quiet (iff_of_false leaves stays) ?_
        by_cases tripped : ((clearedAt i v).grp .pendant).state = .tripped
        · rw [tellParked_of_tripped member tripped, if_pos rfl]
          unfold pendantExit
          exact if_neg (mt (h.exit_iff hi hm hp).mp leaves)
        · have still : ((clearedAt i v).grp .pendant).state.inMove = false := by
            show (v.grp .pendant).state.inMove = false
            rw [record]
            exact hg .pendant hm
          exact tellParked_of_still member still fun _ => tripped
    · refine quiet (pendantLeaves_andAlso hi (.inr hm)) ?_
      have resting (e : (v.chan i).group = (s.chan i).group) : tellParked i (clearedAt i v) = clearedAt i v := by
        cases k : (s.chan i).group with
        | none => unfold tellParked; rw [group, e, k]
        | some g =>
          cases g with
          | pendant => exact absurd k hm
          | console n =>
            refine tellParked_of_still (group.trans (e.trans k)) ?_ fun e => nomatch e
            show (v.grp (.console n)).state.inMove = false
            rw [h.console]
            exact hg _ k
      rcases h.groups i with e | e | e
      · exact resting e
      · unfold tellParked; rw [group, e]
      · rcases h.pendant with ⟨-, -, authority⟩ | ⟨-, record, -⟩
        · exact resting (authority i).2
        · refine tellParked_of_rests (group.trans e) (.inl ?_)
          exact congrArg Group.state record
  · have stays : afterPark (s.chan i).state i (clearedAt i v) = clearedAt i v := by
      unfold afterPark
      refine if_neg fun ⟨hn, hk⟩ => hp ?_
      rcases chanClearFaults_state (now := s.timebase) (enable := s.settings.enable) (c := s.chan i) with k | k
      · exact absurd (k.symm.trans (after.symm.trans hk)) hn
      · exact k
    rw [stays]
    exact h.untold hi (pendantLeaves_andAlso hi (.inl hp))

end Step

/-- CLEAR_FAULTS on a list of channels, each of them once. -/
theorem clearing_foldl (hn : l.Nodup) (h : Clearing s done v) (hd : ∀ i ∈ l, done i = false)
    (ht : ∀ i ∈ l, TimerLaw (s.chan i)) (hg : ∀ i ∈ l, ∀ g, (s.chan i).group = some g → (s.grp g).state.inMove = false) :
    Clearing s (fun j => done j || decide (j ∈ l)) (l.foldl clearOne v) := by
  induction l generalizing done v with
  | nil => simpa using h
  | cons i l ih =>
    obtain ⟨fresh, rest⟩ := List.nodup_cons.mp hn
    have first := h.step (hd i (by simp)) (ht i (by simp)) (hg i (by simp))
    have all := ih rest first (fun j hj => ?_) (fun j hj => ht j (by simp [hj])) (fun j hj => hg j (by simp [hj]))
    · have same : (fun j => andAlso done i j || decide (j ∈ l)) = fun j => done j || decide (j ∈ i :: l) := by
        funext j
        simp [andAlso, Bool.or_assoc]
      rw [same] at all
      exact all
    · have other : j ≠ i := fun e => fresh (e ▸ hj)
      simp [andAlso, hd j (by simp [hj]), other]

/-- CLEAR_FAULTS on the channels of a set. -/
theorem clearing_set (set : EightSet) (ht : EveryChan TimerLaw s)
    (hg : ∀ i, inSet set i = true → ∀ g, (s.chan i).group = some g → (s.grp g).state.inMove = false) :
    Clearing s (inSet set) ((listOf set).foldl clearOne s) := by
  have distinct : (listOf set).Nodup := (by decide : channels.Nodup).filter _
  have all := clearing_foldl distinct clearing_none (fun _ _ => rfl) (fun i _ => ht i)
    fun i hi => hg i ((mem_listOf set i).mp hi)
  have same : (fun j => false || decide (j ∈ listOf set)) = inSet set := by
    funext j
    simp
  rwa [same] at all

/-! ### The statement -/

theorem exec_clearFaults (h : Ready c [b] s) :
    exec (.clearFaults c [b]) s = .next (replied c 0x27 (clearFaults c b (refreshLink c s))) := by
  have framed : exec (.clearFaults c [b]) s =
      .next (replied c 0x27 (clearFaults c (setAt [b] 0) (refreshLink c s))) := congrArg Host.Outcome.next (byteFrame_eq h _)
  have same : setAt [b] 0 = b := by simp [setAt, byteAt]
  rw [framed, same]

theorem clearFaults_of_held (h : ¬∀ i, inSet b i = true → (s.chan i).holder ≠ .console c.other) :
    clearFaults c b s = refuseWith .notHolder (fun _ => []) s := by
  unfold clearFaults
  refine if_neg fun k => h fun i hi => ?_
  exact of_decide_eq_true ((allIn_iff _).mp k i hi)

theorem clearFaults_of_free (h : ∀ i, inSet b i = true → (s.chan i).holder ≠ .console c.other) :
    let t := (listOf b).foldl clearOne s
    clearFaults c b s = takenWith
      (if ∃ i : Channel, inSet b i = true ∧ (t.chan i).state = .faulted then .causePresent else .ok) (fun _ => []) t := by
  intro t
  have free : allIn b (mayClear c s) = true := (allIn_iff _).mpr fun i hi => decide_eq_true (h i hi)
  have test : ((listOf b).any fun i => decide ((t.chan i).state = .faulted)) = true ↔
      ∃ i : Channel, inSet b i = true ∧ (t.chan i).state = .faulted := by simp
  unfold clearFaults
  rw [if_pos free]
  by_cases k : ∃ i : Channel, inSet b i = true ∧ (t.chan i).state = .faulted
  · exact (if_pos (test.mpr k)).trans (by rw [if_pos k])
  · exact (if_neg (mt test.mp k)).trans (by rw [if_neg k])

/-- What the clear of a set says of one channel, in the words of R12. -/
theorem Clearing.channel (h : Clearing s (inSet b) t) (i : Channel) :
    (inSet b i = true → (s.chan i).out.confirmTimer ≠ none → (s.chan i).state = .faulted →
      (t.chan i).state = (s.chan i).state ∧ (t.chan i).faults = (s.chan i).faults ∧
      (t.chan i).pos.slip = (s.chan i).pos.slip) ∧
    (inSet b i = true → (s.chan i).out.confirmTimer = none ∨ (s.chan i).state ≠ .faulted →
      (t.chan i).faults = keptFaults s.settings.enable (s.chan i) ∧
      (t.chan i).pos.slip = 0 ∧ (t.chan i).pos.slipStopped = false ∧
      (t.chan i).state = (if (s.chan i).state = .faulted ∧ (t.chan i).faults = 0 then .parked else (s.chan i).state) ∧
      ((s.chan i).state = .faulted → (t.chan i).faults = 0 →
        (t.chan i).out.dwellTimer = startMs s.timebase (s.chan i).cfg.dwell ∧ (t.chan i).lastDir = (s.chan i).lastDir)) ∧
    (inSet b i = false → (t.chan i).state = (s.chan i).state ∧ (t.chan i).faults = (s.chan i).faults) ∧
    (inSet b i = false ∨ ((s.chan i).out.confirmTimer ≠ none ∧ (s.chan i).state = .faulted) →
      t.chan i = { s.chan i with holder := (t.chan i).holder, group := (t.chan i).group }) ∧
    KeepsStored (s.chan i) (t.chan i) ∧ (t.chan i).position = (s.chan i).position := by
  have record := h.chan i
  have unchanged (k : inSet b i = false ∨ ClearHeldOff (s.chan i)) : passed s (inSet b) i = s.chan i := by
    rcases k with k | k
    · exact passed_of_not_done k
    · unfold passed
      split
      · exact chanClearFaults_held k
      · rfl
  refine ⟨fun _ hc hf => ?_, fun hi hn => ?_, fun hi => ?_, fun k => ?_, ?_⟩
  · rw [record, unchanged (.inr ⟨hc, hf⟩)]
    exact ⟨rfl, rfl, rfl⟩
  · have cleared : passed s (inSet b) i = chanClearFaults s.timebase s.settings.enable (s.chan i) := by
      unfold passed
      exact if_pos hi
    have free : ¬ClearHeldOff (s.chan i) := fun k => hn.elim k.1 fun m => m k.2
    rw [record, cleared]
    exact chanClearFaults_free free
  · rw [record, unchanged (.inl hi)]
    exact ⟨rfl, rfl⟩
  · rwa [unchanged k] at record
  · obtain ⟨stored, -, position⟩ := (passed_kept (s := s) (done := inSet b) i).stored
    rw [record]
    exact ⟨stored, position⟩

/-- The exit of the pendant group, read from the channels that the clear leaves. -/
theorem Clearing.leaves_iff (h : Clearing s (inSet b) t) :
    PendantLeaves s (inSet b) ↔ (s.grp .pendant).state = .tripped ∧ s.arb.penb = false ∧
      (∃ i : Channel, inSet b i = true ∧ (s.chan i).group = some .pendant ∧ (s.chan i).state = .faulted ∧
        (t.chan i).state = .parked) ∧
      ∀ i : Channel, (s.chan i).group = some .pendant → (t.chan i).state = .parked := by
  have state (i : Channel) : (t.chan i).state = (passed s (inSet b) i).state := by rw [h.chan i]
  simp only [state]
  rfl

/-- Settles O40, by what the clears of the set leave channel by channel. -/
theorem clearFaultsParks : Obligations.ClearFaultsParks := by
  unfold Obligations.ClearFaultsParks
  intro c b s hready ht
  have chan (i : Channel) : (refreshLink c s).chan i = s.chan i := refreshLink_chan s c i
  rw [exec_clearFaults hready]
  refine ⟨fun hn => ?_, fun hf hg => ?_⟩
  · rw [clearFaults_of_held (by simpa only [chan] using hn), replied_refuseWith]
  have cleared : Clearing (refreshLink c s) (inSet b) ((listOf b).foldl clearOne (refreshLink c s)) :=
    clearing_set b (fun i => by rw [chan]; exact ht i)
      fun i hi g hig => by rw [refreshLink_grp]; exact hg i hi g (by rwa [chan] at hig)
  set t := (listOf b).foldl clearOne (refreshLink c s) with htake
  have channels := cleared.channel
  have left := cleared.leaves_iff
  have penb : (refreshLink c s).arb.penb = s.arb.penb := by rw [refreshLink_arb]
  simp only [chan, refreshLink_timebase, refreshLink_settings, refreshLink_grp, penb] at channels left
  refine ⟨t, ?_, fun i => ?_, ⟨fun leaves => ?_, fun stays => ?_⟩, fun n => ?_, cleared.notices, ?_, cleared.part⟩
  · rw [clearFaults_of_free (by simpa only [chan] using hf), replied_takenWith]
  · obtain ⟨held, free, outside, same, kept⟩ := channels i
    refine ⟨held, fun hi hn => ?_, outside, same, kept⟩
    obtain ⟨faults, rest⟩ := free hi hn
    exact ⟨fun k => by rw [faults, keptFaults_bit], rest⟩
  · obtain ⟨-, record, evaluated⟩ := cleared.pendant.resolve_left fun k => k.1 (left.mpr leaves)
    refine ⟨record.trans ?_, ?_⟩
    · rw [refreshLink_grp]
      rfl
    · exact pendantEvaluated_congr refreshLink_chans (by rw [refreshLink_arb]) (by rw [refreshLink_arb]) evaluated
  · obtain ⟨-, record, authority⟩ := cleared.pendant.resolve_right fun k => stays (left.mp k.1)
    refine ⟨record.trans (refreshLink_grp s c _), fun i => ?_⟩
    have kept := authority i
    rwa [chan] at kept
  · exact (cleared.console n).trans (refreshLink_grp s c _)
  · exact cleared.stops.trans (refreshLink_stops s c)

end Sys2Proof.Machine
end

section
/-! PROOFS. What an operation on one group leaves of the others while starts are forbidden (R44, R151, R158): no channel leaves
PARKED and no fault set changes, the pendant's evaluation included. -/

namespace Sys2Proof.Machine

open Sys2Proof.Safety

variable {s t u v w : State} {g h k : GroupId} {i j : Channel} {n : ConsoleGroup} {c : Chan} {d : Dir} {cause : TripCause}

/-! ### What chains of moves keep of every channel -/

/-- No run touches what is stored of a channel, its position and its hard limit switches. -/
abbrev StoredKept (s t : State) : Prop :=
  ∀ j, (KeepsStored (s.chan j) (t.chan j) ∧ (t.chan j).position = (s.chan j).position) ∧
    (t.chan j).upperOpen = (s.chan j).upperOpen ∧ (t.chan j).lowerOpen = (s.chan j).lowerOpen

theorem storedKept_refl : StoredKept s s :=
  fun _ => ⟨⟨⟨rfl, rfl, rfl, rfl, rfl, rfl, rfl, rfl, rfl⟩, rfl⟩, rfl, rfl⟩

theorem StoredKept.trans (a : StoredKept s t) (b : StoredKept t u) : StoredKept s u := fun j =>
  ⟨⟨keepsStored_trans (a j).1.1 (b j).1.1, (b j).1.2.trans (a j).1.2⟩, (b j).2.1.trans (a j).2.1, (b j).2.2.trans (a j).2.2⟩

theorem storedKept_setChan (hc : KeepsStored (s.chan i) c ∧ c.position = (s.chan i).position)
    (ho : c.upperOpen = (s.chan i).upperOpen ∧ c.lowerOpen = (s.chan i).lowerOpen) : StoredKept s (s.setChan i c) := by
  intro j
  rw [State.chan_setChan]
  split
  next e => subst e; exact ⟨hc, ho⟩
  next => exact storedKept_refl (s := s) j

theorem Move.stored (m : Move s t) : StoredKept s t := by
  cases m with
  | run i c m =>
    obtain ⟨stored, -, position⟩ := m.kept.stored
    exact storedKept_setChan ⟨stored, position⟩ ⟨m.kept.upperOpen, m.kept.lowerOpen⟩
  | group g r m => exact storedKept_refl
  | trip g cause ch m => exact storedKept_refl
  | raised n => exact storedKept_refl
  | retripped => exact storedKept_refl
  | taken i hh ho hk => exact storedKept_setChan ⟨⟨rfl, rfl, rfl, rfl, rfl, rfl, rfl, rfl, rfl⟩, rfl⟩ ⟨rfl, rfl⟩
  | given i hh => exact storedKept_setChan ⟨⟨rfl, rfl, rfl, rfl, rfl, rfl, rfl, rfl, rfl⟩, rfl⟩ ⟨rfl, rfl⟩

theorem Moves.stored (m : Moves s t) : StoredKept s t :=
  m.induct (P := StoredKept s) storedKept_refl fun _ _ m h => h.trans m.stored

/-! ### Starts forbidden -/

/-- No start is taken: the E-stop is not CLEAR, control low holds, or the supply is OFF or FAILED. -/
abbrev Forbidden (s : State) : Prop := (s.stops.estop ≠ .clear ∨ s.stops.monitor = .low) ∨ s.supply.state = .off ∨
  s.supply.state = .failed

theorem Forbidden.of_part (h : Forbidden s) (k : KeepsPart s t) : Forbidden t := by
  obtain ⟨-, supply, -, -, stops, -⟩ := k
  unfold Forbidden
  rw [supply, stops]
  exact h

theorem Forbidden.not_mayStart (h : Forbidden s) : ¬MayStart s := by
  rintro ⟨estop, monitor, supply⟩
  rcases h with (h | h) | h | h
  · exact h estop
  · exact monitor h
  · rw [h] at supply; cases supply
  · rw [h] at supply; cases supply

theorem goCheck_of_forbidden (h : Forbidden s) (cue : Cue) : goCheck g cue s ≠ none := by
  intro free
  rw [goCheck_eq] at free
  unfold goRefusal at free
  cases hp : partRefusal s with
  | some r => rw [hp] at free; cases free
  | none =>
    obtain ⟨stop, -, off, failed⟩ := partRefusal_none hp
    exact h.elim stop fun h => h.elim off failed

/-- A start tried under the prohibition is dropped, refused by an open switch, or pending. -/
theorem startTry_of_forbidden (h : Forbidden s) : startTry i d s = limitRefused i s ∧ limitOpen (s.chan i) d = true ∨
    ∃ p, startTry i d s = s.setChan i { s.chan i with startPending := p } := by
  by_cases hs : s.stops.estop ≠ .clear ∨ s.stops.monitor = .low
  · exact .inr ⟨none, startTry_of_stopped hs⟩
  cases hl : limitOpen (s.chan i) d with
  | true => exact .inl ⟨startTry_of_limited hs hl, rfl⟩
  | false =>
    have off : s.supply.state ≠ .on := by
      rcases h.resolve_left hs with h | h <;> rw [h] <;> simp
    exact .inr ⟨some d, startTry_of_waits hs hl (.inl off)⟩

/-! ### Operations on one group -/

/-- A console holds the channel: no evaluation of the pendant touches it. -/
abbrev Claimed (c : Chan) : Prop := c.holder ≠ .none ∧ c.holder ≠ .pendant

/-- An operation on group `h` under the prohibition: the other groups and their claimed members are as they were, no channel
joins a console group, none leaves PARKED, and no fault set changes. -/
structure Hushed (h : GroupId) (s t : State) : Prop where
  groups : ∀ k, k ≠ h → t.grp k = s.grp k
  outside : ∀ j, (s.chan j).group ≠ some h → (h = .pendant → Claimed (s.chan j)) → t.chan j = s.chan j
  authority : h ≠ .pendant → ∀ j, KeepsAuthority (s.chan j) (t.chan j)
  taken : GroupsTaken s t
  parked : ∀ j, (s.chan j).state = .parked → (t.chan j).state = .parked
  faults : ∀ j, (t.chan j).faults = (s.chan j).faults
  part : KeepsPart s t

theorem Hushed.trans (a : Hushed h s t) (b : Hushed h t u) : Hushed h s u where
  groups k hk := (b.groups k hk).trans (a.groups k hk)
  outside j hj hc := by
    have same := a.outside j hj hc
    exact (b.outside j (by rwa [same]) (by rwa [same])).trans same
  authority hh j := ⟨(b.authority hh j).1.trans (a.authority hh j).1, (b.authority hh j).2.trans (a.authority hh j).2⟩
  taken j := by
    rcases b.taken j with k | k
    · rw [k]
      exact a.taken j
    · exact .inr k
  parked j hj := b.parked j (a.parked j hj)
  faults j := (b.faults j).trans (a.faults j)
  part := keepsPart_trans a.part b.part

theorem hushed_of_chans (hc : t.chans = s.chans) (hg : ∀ k, k ≠ h → t.grp k = s.grp k) (hp : KeepsPart s t) :
    Hushed h s t := by
  have chan (j : Channel) : t.chan j = s.chan j := congrArg (fun v : Chans Chan => v.get j) hc
  exact ⟨hg, fun j _ _ => chan j, fun _ j => by rw [chan]; exact ⟨rfl, rfl⟩,
    fun j => .inl (by rw [chan]), fun j hj => by rw [chan]; exact hj,
    fun j => by rw [chan], hp⟩

theorem hushed_refl : Hushed h s s := hushed_of_chans rfl (fun _ _ => rfl) (keepsPart_of_records _ _)

theorem hushed_setGrp (r : Group) : Hushed h s (s.setGrp h r) :=
  hushed_of_chans rfl (fun k hk => by simp [hk]) (keepsPart_of_records _ _)

theorem hushed_raise (x : Notice) : Hushed h s (s.raise x) := hushed_of_chans rfl (fun _ _ => rfl) (keepsPart_raise _)

theorem hushed_retrip : Hushed h s s.retrip := hushed_of_chans rfl (fun _ _ => rfl) keepsPart_retrip

theorem hushed_setChan (hi : (s.chan i).group = some h) (ha : KeepsAuthority (s.chan i) c)
    (hp : (s.chan i).state = .parked → c.state = .parked) (hf : c.faults = (s.chan i).faults) :
    Hushed h s (s.setChan i c) := by
  have each (P : Chan → Chan → Prop) (rest : ∀ j, j ≠ i → P (s.chan j) (s.chan j)) (self : P (s.chan i) c) (j : Channel) :
      P (s.chan j) ((s.setChan i c).chan j) := by
    rw [State.chan_setChan]
    split
    next e => rw [e]; exact self
    next e => exact rest j e
  refine ⟨fun _ _ => rfl, fun j hj _ => ?_, fun _ => each KeepsAuthority (fun _ _ => ⟨rfl, rfl⟩) ha,
    fun j => .inl (each (fun a b => b.group = a.group) (fun _ _ => rfl) ha.2 j),
    each (fun a b => a.state = .parked → b.state = .parked) (fun _ _ => id) hp,
    each (fun a b => b.faults = a.faults) (fun _ _ => rfl) hf, keepsPart_of_records _ _⟩
  rw [State.chan_setChan, if_neg fun e : j = i => hj (e ▸ hi)]

theorem hushed_startPending (hi : (s.chan i).group = some h) (p : Option Dir) :
    Hushed h s (s.setChan i { s.chan i with startPending := p }) := hushed_setChan hi ⟨rfl, rfl⟩ id rfl

theorem Hushed.foldl {α : Type} {f : State → α → State} {l : List α} (hf : ∀ s a, Hushed h s (f s a)) :
    Hushed h s (l.foldl f s) := by
  induction l generalizing s with
  | nil => exact hushed_refl
  | cons a l ih => exact (hf s a).trans ih

/-! ### The pendant's evaluation -/

theorem hushed_pendantEval : Hushed .pendant s (pendantEval s) := by
  obtain ⟨rest, chans⟩ := pendantEval_eq s
  have claimed (f : State → Channel → State)
      (hf : ∀ s i, Claimed (s.chan i) → f s i = s)
      (ho : ∀ s i j, j ≠ i → (f s i).chan j = s.chan j) (l : List Channel) (v : State) (j : Channel) (hc : Claimed (v.chan j)) :
      (l.foldl f v).chan j = v.chan j := by
    induction l generalizing v with
    | nil => rfl
    | cons i l ih =>
      have first : (f v i).chan j = v.chan j := by
        by_cases e : j = i
        · subst e; rw [hf v j hc]
        · exact ho v i j e
      rw [List.foldl_cons, ih _ (by rwa [first]), first]
  have same (j : Channel) (hc : Claimed (s.chan j)) : (pendantEval s).chan j = s.chan j := by
    unfold pendantEval
    split
    · refine claimed evalChannel (fun v i hc => ?_) evalChannel_oneChannel _ _ _ hc
      rcases evalChannel_cases v i with e | ⟨-, e, -⟩ | ⟨-, e, -⟩
      · exact e
      · exact absurd e hc.1
      · exact absurd e hc.2
    · refine claimed releasePendant (fun v i hc => ?_) releasePendant_oneChannel _ _ _ hc
      unfold releasePendant
      exact if_neg hc.2
  refine ⟨fun k _ => pendantEval_grp s k, fun j _ hc => same j (hc rfl), fun e => absurd rfl e,
    groupsTaken_pendantEval, fun j hj => ?_, fun j => ?_, ?_⟩
  · rw [chans j]; exact hj
  · rw [chans j]
  · rw [rest]; exact keepsPart_of_records _ _

theorem hushed_pendantIdle : Hushed .pendant s (pendantIdle s) :=
  (hushed_setGrp (s := s) { s.grp .pendant with state := .idle, updateTimer := none }).trans hushed_pendantEval

theorem hushed_pendantExit : Hushed .pendant s (pendantExit s) := by
  rcases pendantExit_cases s with e | ⟨-, -, -, e⟩ <;> rw [e]
  · exact hushed_refl
  · exact (hushed_setGrp _).trans hushed_pendantIdle

/-! ### Trips and starts -/

theorem chanStop_faults (now : Time) (form : StopForm) (c : Chan) : (chanStop now form c).faults = c.faults := by
  have finish (p : Chan) : (chanFinishStop now p).faults = p.faults := by
    rcases chanFinishStop_cases now p with e | ⟨-, e⟩ <;> rw [e]
    · exact watchStuck_faults now p
    · simp [chanPark]
  have released : (stopReleased now form c).faults = c.faults := by
    unfold stopReleased
    exact (finish _).trans (leaveRunning_faults now c)
  have unproven : (stopUnproven now form c).faults = c.faults := by
    unfold stopUnproven
    exact finish _
  have quick : (stopMadeQuick now c).faults = c.faults := by
    unfold stopMadeQuick
    exact finish _
  cases hs : c.state with
  | off => rw [(chanStop_at_rest now c form).1 (.inl hs)]
  | faulted => rw [(chanStop_at_rest now c form).1 (.inr hs)]
  | parked => rw [(chanStop_at_rest now c form).2 hs]
  | running => simpa [chanStop, hs] using released
  | starting => cases hb : c.out.brk <;> simpa [chanStop, hs, hb]
  | stopping f => cases f <;> cases form <;> simp [chanStop, hs, quick]

theorem chanStop_of_parked {now : Time} {form : StopForm} (hc : c.state = .parked) : (chanStop now form c).state = .parked := by
  rw [(chanStop_at_rest now c form).2 hc]
  exact hc

theorem hushed_tripRecords (ch : Option Channel) : Hushed h s (tripRecords h cause ch s) := by
  have chan := tripRecords_chan (s := s) (g := h) (cause := cause) ch
  have kept (j : Channel) : ChanKept (s.chan j) ((tripRecords h cause ch s).chan j) := by
    rw [chan]
    split
    · exact chanStop_kept _ _ _
    · exact .rfl' _
  refine ⟨fun k hk => by rw [tripRecords_grp, if_neg hk], fun j hj _ => by rw [chan, if_neg hj],
    fun _ j => ⟨(kept j).holder, (kept j).group⟩, fun j => .inl (kept j).group, fun j hj => ?_, fun j => ?_, ?_⟩
  · rw [chan]
    split
    · exact chanStop_of_parked hj
    · exact hj
  · rw [chan]
    split
    · exact chanStop_faults _ _ _
    · rfl
  · rw [tripRecords_eq]
    exact keepsPart_of_records _ _

theorem hushed_enterTripped (ch : Option Channel) : Hushed h s (enterTripped h cause ch s) := by
  have records := hushed_tripRecords (s := s) (h := h) (cause := cause) ch
  cases h with
  | console n => exact records.trans ((hushed_raise _).trans hushed_retrip)
  | pendant => exact records.trans (hushed_retrip.trans hushed_pendantExit)

theorem hushed_tripGroup (ch : Option Channel) : Hushed h s (tripGroup cause ch h s) := by
  have entered := hushed_enterTripped (s := s) (h := h) (cause := cause) ch
  unfold tripGroup
  split
  case h_3 => exact hushed_setGrp _
  case h_1 | h_2 => exact hushed_refl
  all_goals exact entered

theorem hushed_limitRefused (hi : (s.chan i).group = some h) : Hushed h s (limitRefused i s) := by
  set r := (s.setChan i { s.chan i with startPending := none }).raise (.chan i .limit) with hr
  have dropped : Hushed h s r := (hushed_startPending hi none).trans (hushed_raise _)
  have member : (r.chan i).group = some h := by simpa [hr] using hi
  have refused : limitRefused i s = tripGroup .limitSwitch (some i) h r := by
    show tripGroupOf .limitSwitch i r = _
    unfold tripGroupOf
    rw [member]
  rw [refused]
  exact dropped.trans (hushed_tripGroup _)

theorem hushed_startTry (hf : Forbidden s) (hi : (s.chan i).group = some h) : Hushed h s (startTry i d s) := by
  rcases startTry_of_forbidden (i := i) (d := d) hf with ⟨e, -⟩ | ⟨p, e⟩ <;> rw [e]
  · exact hushed_limitRefused hi
  · exact hushed_startPending hi p

theorem hushed_retestPending (hf : Forbidden s) (hi : (s.chan i).group = some h) : Hushed h s (retestPending i s) := by
  unfold retestPending
  dsimp only
  split
  · exact hushed_refl
  · split
    · exact hushed_startTry hf hi
    · exact hushed_refl

/-! ### The group told of an entry to PARKED -/

/-- A trim restart under the prohibition (R142). -/
theorem hushed_trimAtPark (hf : Forbidden s) (hi : (s.chan i).group = some h) : Hushed h s (trimAtPark h i s) := by
  unfold trimAtPark
  split
  · exact hushed_refl
  next m _ =>
    rcases trimRestart_cases s h i (memberError (s.grp h).moveKind (s.grp h).prof m (s.chan i).position) with
      e | ⟨m, -, -, -, parked, -, e⟩ <;> rw [e]
    · exact hushed_refl
    · have resumed : Hushed h s (s.modMember h i fun x => { x with trimPaused := false }) := hushed_setGrp _
      rw [(startRequest_cases (s.modMember h i fun x => { x with trimPaused := false }) i m.dir).1 parked]
      exact resumed.trans (hushed_startTry (hf.of_part resumed.part) hi)

theorem hushed_completionTold : Hushed h s (completionTold h s) := by
  have raised (k : GroupNotice) (v : State) : Hushed h v (raiseGroup h k v) := by
    unfold raiseGroup
    split
    · exact hushed_raise _
    · exact hushed_refl
  have missed : Hushed h s (missCheck h s) := by
    unfold missCheck
    split
    · exact raised _ _
    · exact hushed_refl
  exact missed.trans (raised _ _)

/-- A completion under the prohibition starts no further cue (R116, R117). -/
theorem hushed_completeFrom (hf : Forbidden s) (q : List Cue) : Hushed h s (completeFrom h q s) := by
  cases q with
  | nil => exact hushed_refl
  | cons head rest =>
    have told : Hushed h s ((completionTold h s).setGrp h (completedRecord rest (s.grp h))) :=
      hushed_completionTold.trans (hushed_setGrp _)
    have dropped := told.trans (hushed_setGrp { (((completionTold h s).setGrp h (completedRecord rest (s.grp h))).grp h) with
      deadline := none })
    rw [completeFrom_cons]
    dsimp only
    split
    · cases rest with
      | nil => exact dropped
      | cons next more =>
        dsimp only
        split
        · exact dropped
        next free => exact absurd free (goCheck_of_forbidden (hf.of_part told.part) next)
    · exact dropped

theorem hushed_completionTest (hf : Forbidden s) : Hushed h s (completionTest h s) := by
  rcases completionTest_cases s h with e | ⟨-, -, -, e⟩ <;> rw [e]
  · exact hushed_refl
  · exact hushed_completeFrom hf _

theorem hushed_stopTest : Hushed h s (stopTest h s) := by
  rcases stopTest_cases s h with e | ⟨-, -, ⟨rfl, e⟩ | ⟨n, rfl, -, e⟩ | ⟨n, rfl, -, e⟩⟩ <;> rw [e]
  · exact hushed_refl
  · exact hushed_pendantIdle
  · exact (hushed_setGrp _).trans (hushed_raise _)
  · exact hushed_setGrp _

theorem hushed_tellParked (hf : Forbidden s) (hi : (s.chan i).group = some h) : Hushed h s (tellParked i s) := by
  unfold tellParked
  rw [hi]
  dsimp only
  split
  · exact hushed_stopTest
  · have trimmed := hushed_trimAtPark hf hi
    exact trimmed.trans (hushed_completionTest (hf.of_part trimmed.part))
  · exact hushed_trimAtPark hf hi
  · split
    next e => rw [e]; exact hushed_pendantExit
    next => exact hushed_refl
  all_goals exact hushed_refl

/-! ### A quick stop of one channel, its group told -/

/-- A write of the channel's own record, whatever the evaluation has made of its group. -/
theorem Hushed.setChan (a : Hushed h s t) (hi : (s.chan i).group = some h) (ha : KeepsAuthority (t.chan i) c)
    (hp : (t.chan i).state = .parked → c.state = .parked) (hf : c.faults = (t.chan i).faults) :
    Hushed h s (t.setChan i c) := by
  refine ⟨a.groups, fun j hj hc => ?_, fun hh j => ?_, fun j => ?_, fun j hj => ?_, fun j => ?_,
    keepsPart_trans a.part (keepsPart_of_records _ _)⟩
  all_goals rw [State.chan_setChan]
  · rw [if_neg fun e : j = i => hj (e ▸ hi)]
    exact a.outside j hj hc
  all_goals split
  · next e => rw [e]; exact ⟨ha.1.trans (a.authority hh i).1, ha.2.trans (a.authority hh i).2⟩
  · exact a.authority hh j
  · next e => rw [e, ha.2]; exact a.taken i
  · exact a.taken j
  · next e => exact hp (a.parked i (e ▸ hj))
  · exact a.parked j hj
  · next e => rw [e, hf]; exact a.faults i
  · exact a.faults j

theorem Hushed.retest (a : Hushed h s t) (hf : Forbidden t) (hi : (s.chan i).group = some h) :
    Hushed h s (retestPending i t) := by
  cases hg : (t.chan i).group with
  | some k =>
    have same : k = h := by
      rcases a.taken i with e | e | e
      · exact Option.some_inj.mp (hg.symm.trans (e.trans hi))
      · rw [e] at hg; cases hg
      · rw [e] at hg
        by_cases hh : h = .pendant
        · exact (Option.some_inj.mp hg).symm.trans hh.symm
        · have kept := (a.authority hh i).2
          rw [e, hi] at kept
          exact absurd (Option.some_inj.mp kept).symm hh
    exact a.trans (hushed_retestPending hf (hg.trans (congrArg some same)))
  | none =>
    have pending (p : Option Dir) : Hushed h s (t.setChan i { t.chan i with startPending := p }) :=
      a.setChan hi ⟨rfl, rfl⟩ id rfl
    unfold retestPending
    dsimp only
    split
    · exact a
    next d _ =>
      split
      · rcases startTry_of_forbidden (i := i) (d := d) hf with ⟨e, -⟩ | ⟨p, e⟩ <;> rw [e]
        · have refused : limitRefused i t = (t.setChan i { t.chan i with startPending := none }).raise (.chan i .limit) := by
            show tripGroupOf .limitSwitch i ((t.setChan i { t.chan i with startPending := none }).raise (.chan i .limit)) = _
            unfold tripGroupOf
            simp [hg]
          rw [refused]
          exact (pending none).trans (hushed_raise _)
        · exact pending p
      · exact a

theorem stopTold_eq (form : StopForm) : stopTold form s i =
    afterPark (s.chan i).state i (s.setChan i (chanStop s.timebase form (s.chan i))) := rfl

/-- A quick stop of a member of group `h`. -/
theorem hushed_stopTold (form : StopForm) (hf : Forbidden s) (hi : (s.chan i).group = some h) :
    Hushed h s (stopTold form s i) := by
  have kept := chanStop_kept s.timebase (s.chan i) form
  have stopped : Hushed h s (s.setChan i (chanStop s.timebase form (s.chan i))) :=
    hushed_setChan hi ⟨kept.holder, kept.group⟩ chanStop_of_parked (chanStop_faults _ _ _)
  have free := hf.of_part stopped.part
  rw [stopTold_eq]
  unfold afterPark
  split
  · have told := hushed_tellParked (i := i) free (by simpa [kept.group] using hi)
    exact (stopped.trans told).retest (free.of_part told.part) hi
  · exact stopped

/-- A quick stop that enters PARKED has left no start pending. -/
theorem chanStop_startPending {now : Time} {form : StopForm} (hb : c.state ≠ .parked)
    (hp : (chanStop now form c).state = .parked) : (chanStop now form c).startPending = none := by
  have finish (p : Chan) (k : p.startPending = none) : (chanFinishStop now p).startPending = none := by
    rcases chanFinishStop_cases now p with e | ⟨-, e⟩ <;> rw [e]
    · rwa [watchStuck_startPending]
    · simpa [chanPark] using k
  cases hs : c.state with
  | off => rw [(chanStop_at_rest now c form).1 (.inl hs), hs] at hp; cases hp
  | faulted => rw [(chanStop_at_rest now c form).1 (.inr hs), hs] at hp; cases hp
  | parked => exact absurd hs hb
  | running =>
    have made : chanStop now form c = stopReleased now form c := by simp [chanStop, hs]
    rw [made]
    exact finish _ rfl
  | starting =>
    cases hb : c.out.brk with
    | true =>
      have made : chanStop now form c = stopReleased now form c := by simp [chanStop, hs, hb]
      rw [made]
      exact finish _ rfl
    | false =>
      have made : chanStop now form c = stopUnproven now form c := by simp [chanStop, hs, hb]
      rw [made]
      exact finish _ rfl
  | stopping f =>
    rcases chanStop_of_down (now := now) (form := form) (c := c) (.inr ⟨f, hs⟩) with e | ⟨-, -, e⟩
    · rw [e]
    · rw [e]
      exact finish _ rfl

/-- A quick stop of a channel in no group tells none. -/
theorem stopTold_ungrouped (form : StopForm) (hi : (s.chan i).group = none) :
    stopTold form s i = s.setChan i (chanStop s.timebase form (s.chan i)) := by
  have kept := chanStop_kept s.timebase (s.chan i) form
  rw [stopTold_eq]
  by_cases hp : (s.chan i).state ≠ .parked ∧ (chanStop s.timebase form (s.chan i)).state = .parked
  · exact afterPark_ungrouped (s := s.setChan i (chanStop s.timebase form (s.chan i))) _ i
      (by rw [State.chan_setChan, if_pos rfl, kept.group]; exact hi)
      (by rw [State.chan_setChan, if_pos rfl]; exact chanStop_startPending hp.1 hp.2)
  · unfold afterPark
    rw [State.chan_setChan, if_pos rfl, if_neg hp]

end Sys2Proof.Machine
end

section
/-! PROOFS. A halt of the part (R44, R151, R158): every channel is stopped quick and every group takes a trip that names no
channel. What a group in a move is when its trip reaches it, and what the trips leave. -/

namespace Sys2Proof.Machine

open Sys2Proof.Safety

variable {s t u v w : State} {g h k : GroupId} {i j : Channel} {n : ConsoleGroup} {c : Chan} {d : Dir} {cause : TripCause}
  {a b : Chan} {now : Time}

/-! ### The quick stops keep what is PARKED and every fault set -/

/-- No channel has left PARKED, and no fault set has changed. -/
structure Subdued (s t : State) : Prop where
  parked : ∀ j, (s.chan j).state = .parked → (t.chan j).state = .parked
  faults : ∀ j, (t.chan j).faults = (s.chan j).faults
  part : KeepsPart s t

theorem subdued_refl : Subdued s s := ⟨fun _ => id, fun _ => rfl, keepsPart_of_records _ _⟩

theorem Subdued.trans (a : Subdued s t) (b : Subdued t u) : Subdued s u :=
  ⟨fun j hj => b.parked j (a.parked j hj), fun j => (b.faults j).trans (a.faults j), keepsPart_trans a.part b.part⟩

theorem Hushed.subdued (a : Hushed h s t) : Subdued s t := ⟨a.parked, a.faults, a.part⟩

theorem subdued_stopTold (hf : Forbidden s) (i : Channel) : Subdued s (stopTold .quick s i) := by
  cases hg : (s.chan i).group with
  | some g => exact (hushed_stopTold .quick hf hg).subdued
  | none =>
    rw [stopTold_ungrouped .quick hg]
    refine ⟨fun j hj => ?_, fun j => ?_, keepsPart_of_records _ _⟩
    all_goals rw [State.chan_setChan]; split
    · next e => exact chanStop_of_parked (e ▸ hj)
    · exact hj
    · next e => rw [e, chanStop_faults]
    · rfl

theorem subdued_foldl_stopTold (hf : Forbidden s) (l : List Channel) : Subdued s (l.foldl (stopTold .quick) s) := by
  induction l generalizing s with
  | nil => exact subdued_refl
  | cons i l ih =>
    have first := subdued_stopTold hf i
    exact first.trans (ih (hf.of_part first.part))

theorem subdued_quickStopAll (hf : Forbidden s) : Subdued s (quickStopAll s) := subdued_foldl_stopTold hf _

theorem subdued_foldl_tripGroup (l : List GroupId) : Subdued s (l.foldl (fun s g => tripGroup cause none g s) s) := by
  induction l generalizing s with
  | nil => exact subdued_refl
  | cons g l ih => exact (hushed_tripGroup (s := s) (h := g) (cause := cause) none).subdued.trans ih

theorem subdued_tripAll : Subdued s (tripAll cause s) := subdued_foldl_tripGroup _

/-! ### A group whose move goes on -/

/-- The members of a console group are held by a console. -/
abbrev MembersClaimed (g : GroupId) (s : State) : Prop :=
  g ≠ .pendant → ∀ j, (s.chan j).group = some g → Claimed (s.chan j)

/-- Group `g` is in `v` in the move it was in in `s`, with the same members, each as it was or stopped. -/
structure Spared (g : GroupId) (s v : State) : Prop where
  state : (v.grp g).state = (s.grp g).state
  kind : (v.grp g).moveKind = (s.grp g).moveKind
  arrived : ∀ j, ((v.grp g).prof.members.get j).arrived = ((s.grp g).prof.members.get j).arrived
  member : ∀ j, (v.chan j).group = some g ↔ (s.chan j).group = some g
  holder : ∀ j, (s.chan j).group = some g → (v.chan j).holder = (s.chan j).holder
  stopped : ∀ j, (s.chan j).group = some g → v.chan j = s.chan j ∨ Halted (s.chan j) (v.chan j)
  stored : StoredKept s v
  part : KeepsPart s v

theorem spared_refl : Spared g s s :=
  ⟨rfl, rfl, fun _ => rfl, fun _ => Iff.rfl, fun _ _ => rfl, fun _ _ => .inl rfl, storedKept_refl, keepsPart_of_records _ _⟩

theorem Spared.claimed (a : Spared g s v) (hc : MembersClaimed g s) (hg : g ≠ .pendant) (hj : (v.chan j).group = some g) :
    Claimed (v.chan j) := by
  have member := (a.member j).mp hj
  unfold Claimed
  rw [a.holder j member]
  exact hc hg j member

/-- An operation on another group leaves the move as it is. -/
theorem Spared.beside (a : Spared g s v) (hc : MembersClaimed g s) (hk : k ≠ g) (b : Hushed k v w) (stored : StoredKept v w) :
    Spared g s w := by
  have same (j : Channel) (hj : (v.chan j).group = some g) : w.chan j = v.chan j := by
    refine b.outside j (fun e => hk (Option.some_inj.mp (e.symm.trans hj))) fun e => a.claimed hc ?_ hj
    rw [← e]
    exact hk.symm
  have record : w.grp g = v.grp g := b.groups g hk.symm
  have member (j : Channel) : (w.chan j).group = some g ↔ (v.chan j).group = some g := by
    refine ⟨fun hj => ?_, fun hj => by rw [same j hj]; exact hj⟩
    rcases b.taken j with e | e | e
    · rwa [e] at hj
    · rw [e] at hj; cases hj
    · have pendant : g = .pendant := Option.some_inj.mp (hj.symm.trans e)
      rw [← (b.authority (by rw [← pendant]; exact hk) j).2]
      exact hj
  refine ⟨by rw [record]; exact a.state, by rw [record]; exact a.kind, fun j => by rw [record]; exact a.arrived j,
    fun j => (member j).trans (a.member j), fun j hj => ?_, fun j hj => ?_, a.stored.trans stored, keepsPart_trans a.part b.part⟩
  all_goals rw [same j ((a.member j).mpr hj)]
  · exact a.holder j hj
  · exact a.stopped j hj

/-- A write of one channel's record that keeps a member stopped. -/
theorem Spared.setChan (a : Spared g s v) (ha : KeepsAuthority (v.chan i) c)
    (hc : (s.chan i).group = some g → c = s.chan i ∨ Halted (s.chan i) c) (stored : StoredKept v (v.setChan i c)) : Spared g s (v.setChan i c) := by
  refine ⟨a.state, a.kind, a.arrived, fun j => ?_, fun j hj => ?_, fun j hj => ?_, a.stored.trans stored,
    keepsPart_trans a.part (keepsPart_of_records _ _)⟩
  all_goals rw [State.chan_setChan]; split
  · next e => rw [e, ha.2]; exact a.member i
  · exact a.member j
  · next e => rw [e, ha.1]; exact a.holder i (e ▸ hj)
  · exact a.holder j hj
  · next e => rw [e]; exact hc (e ▸ hj)
  · exact a.stopped j hj

theorem Spared.quickStop (a : Spared g s v) (i : Channel) :
    Spared g s (v.setChan i (chanStop v.timebase .quick (v.chan i))) := by
  have kept := chanStop_kept v.timebase (v.chan i) .quick
  obtain ⟨stored, -, position⟩ := kept.stored
  refine a.setChan ⟨kept.holder, kept.group⟩ (fun hi => .inr ?_) (storedKept_setChan ⟨stored, position⟩ ⟨kept.upperOpen, kept.lowerOpen⟩)
  rcases a.stopped i hi with e | e
  · rw [e]; exact halted_chanStop
  · exact e.stop

/-- A start pending on a channel that was in motion does not set it in motion again. -/
theorem Halted.pend (e : Halted a b) (hm : a.state.inMotion = true) (p : Option Dir) :
    Halted a { b with startPending := p } := by
  refine ⟨fun h => ?_, fun h => ?_, e.motion, e.brk, e.lines, e.confirming⟩
  · rcases h with h | h <;> rw [h] at hm <;> cases hm
  · rw [h] at hm; cases hm

/-- A channel at rest has taken its stops at rest. -/
theorem Halted.state_of_rest (e : Halted a b) (hm : ¬a.state.inMotion = true) : b.state = a.state := by
  cases hs : a.state with
  | off => rw [e.rest (.inr hs)]; exact hs
  | faulted => rw [e.rest (.inl hs)]; exact hs
  | parked => rw [e.parked hs]; exact hs
  | starting => rw [hs] at hm; exact absurd rfl hm
  | running => rw [hs] at hm; exact absurd rfl hm
  | stopping f => rw [hs] at hm; exact absurd rfl hm

/-- A channel that a stop brings to PARKED was in motion. -/
theorem inMotion_of_parks {form : StopForm} (hb : c.state ≠ .parked) (hp : (chanStop now form c).state = .parked) :
    c.state.inMotion = true := by
  by_contra hm
  rw [halted_chanStop.state_of_rest hm] at hp
  exact hb hp

section Own

variable (x : Spared g s v) (hi : (s.chan i).group = some g) (hm : (s.chan i).state.inMotion = true)
  (closed : SwitchesClosed g s) (free : Forbidden v) (parked : (v.chan i).state = .parked)
include x hi hm closed free parked

/-- A start tried on a member at rest stays pending or is dropped, for no switch is open. -/
theorem Spared.startTry : Spared g s (startTry i d v) := by
  rcases startTry_of_forbidden (i := i) (d := d) free with ⟨-, isOpen⟩ | ⟨p, e⟩
  · obtain ⟨upper, lower⟩ := closed i hi
    have same := (x.stored i).2
    cases d
    · rw [limitOpen, same.1, upper] at isOpen; cases isOpen
    · rw [limitOpen, same.2, lower] at isOpen; cases isOpen
  · rw [e]
    refine x.setChan ⟨rfl, rfl⟩ (fun _ => .inr ?_) (storedKept_setChan ⟨⟨rfl, rfl, rfl, rfl, rfl, rfl, rfl, rfl, rfl⟩, rfl⟩ ⟨rfl, rfl⟩)
    refine Halted.pend ?_ hm p
    rcases x.stopped i hi with same | halted
    · rw [← same, parked] at hm; cases hm
    · exact halted

theorem Spared.retest : Spared g s (retestPending i v) := by
  unfold retestPending
  dsimp only
  split
  · exact x
  · rw [if_pos parked]
    exact x.startTry hi hm closed free parked

theorem Spared.trimAtPark : Spared g s (trimAtPark g i v) := by
  unfold Machine.trimAtPark
  split
  · exact x
  next p _ =>
    rcases trimRestart_cases v g i (memberError (v.grp g).moveKind (v.grp g).prof p (v.chan i).position) with
      e | ⟨m, -, -, -, -, -, e⟩ <;> rw [e]
    · exact x
    · set r := v.modMember g i fun m => { m with trimPaused := false } with hr
      have resumed : Spared g s r := by
        have member (j : Channel) : (r.member g j).arrived = (v.member g j).arrived := by
          rw [hr, modMember_member]
          split
          next e => rw [e]
          next => rfl
        refine ⟨?_, ?_, fun j => (member j).trans (x.arrived j), x.member, x.holder, x.stopped, x.stored,
          keepsPart_trans x.part (keepsPart_of_records _ _)⟩
        · rw [← x.state]; simp [hr, State.modMember]
        · rw [← x.kind]; simp [hr, State.modMember]
      rw [(startRequest_cases r i m.dir).1 parked]
      exact resumed.startTry hi hm closed free parked

end Own

/-! ### The quick stops, channel by channel -/

/-- What is PARKED stays so: a group that the trip reaches in the end it would reach now. -/
theorem tripReaches_of_subdued (hr : TripReaches g s t) (h : Subdued w t) : TripReaches g s w := by
  have stays (k : ∃ j : Channel, (s.chan j).group = some g ∧ (t.chan j).state ≠ .parked) :
      ∃ j : Channel, (s.chan j).group = some g ∧ (w.chan j).state ≠ .parked := by
    obtain ⟨j, hj, hp⟩ := k
    exact ⟨j, hj, fun e => hp (h.parked j e)⟩
  obtain ⟨stopping, moving, closed, pendant⟩ := hr
  exact ⟨fun e => stays (stopping e), fun e => (moving e).imp_right (Or.imp_left stays), closed,
    fun e => (pendant e).imp_right stays⟩

/-- A member enters PARKED, and the move of its group goes on. -/
theorem Spared.told (x : Spared g s u) (hi : (s.chan i).group = some g) (hm : (s.chan i).state.inMotion = true)
    (free : Forbidden u) (parked : (u.chan i).state = .parked) (moving : (s.grp g).state.inMove = true)
    (hr : TripReaches g s (retestPending i (tellParked i u))) : Spared g s (retestPending i (tellParked i u)) := by
  have member : (u.chan i).group = some g := (x.member i).mpr hi
  have told := hushed_tellParked free member
  have after := (told.retest (free.of_part told.part) member).subdued
  obtain ⟨stops, moves, closed, -⟩ := hr
  have unparked (k : ∃ j : Channel, (s.chan j).group = some g ∧ ((retestPending i (tellParked i u)).chan j).state ≠ .parked) :
      u.allParked g ≠ true := by
    obtain ⟨j, hj, hp⟩ := k
    exact fun all => hp (after.parked j ((u.allParked_iff g).mp all j ((x.member j).mpr hj)))
  have retested (y : Spared g s (tellParked i u)) : Spared g s (retestPending i (tellParked i u)) :=
    y.retest hi hm closed (free.of_part told.part) (told.parked i parked)
  refine retested ?_
  cases hs : (s.grp g).state with
  | idle => rw [hs] at moving; cases moving
  | paused => rw [hs] at moving; cases moving
  | tripped => rw [hs] at moving; cases moving
  | starting => rwa [tellParked_of_rests member (.inr (.inl (x.state.trans hs)))]
  | stopping =>
    have waits : stopTest g u = u := by
      rcases stopTest_cases u g with e | ⟨-, all, -⟩
      · exact e
      · exact absurd all (unparked (stops hs))
    rwa [tellParked_of_stopping member (x.state.trans hs), waits]
  | holding =>
    rw [tellParked_of_holding member (x.state.trans hs)]
    exact x.trimAtPark hi hm closed free parked
  | moving =>
    have trimmed := x.trimAtPark hi hm closed free parked
    have trim := hushed_trimAtPark free member
    have made : tellParked i u = completionTest g (Machine.trimAtPark g i u) := tellParked_of_moving member (x.state.trans hs)
    have tested : Hushed g (Machine.trimAtPark g i u) (tellParked i u) := by
      rw [made]
      exact hushed_completionTest (free.of_part trim.part)
    have later := (tested.retest (i := i) (free.of_part told.part) ((trimmed.member i).mpr hi)).subdued
    have still : completionTest g (Machine.trimAtPark g i u) = Machine.trimAtPark g i u := by
      refine if_neg fun ⟨_, cue, arrived, all⟩ => ?_
      rcases moves hs with jog | stays | ⟨j, hj, late⟩
      · rw [trimmed.kind, jog] at cue; cases cue
      · obtain ⟨j, hj, hp⟩ := stays
        exact hp (later.parked j ((State.allParked_iff _ g).mp all j ((trimmed.member j).mpr hj)))
      · have here := List.all_eq_true.mp arrived j ((State.mem_members _ _ _).mpr ((trimmed.member j).mpr hj))
        rw [State.member, trimmed.arrived j, late] at here
        cases here
    rw [made]
    rw [still]
    exact trimmed

/-- A quick stop of one channel lets the move of a group go on that the trip will reach. -/
theorem Spared.stopTold (x : Spared g s v) (hc : MembersClaimed g s) (free : Forbidden v)
    (moving : (s.grp g).state.inMove = true) (hr : TripReaches g s (Machine.stopTold .quick v i)) :
    Spared g s (Machine.stopTold .quick v i) := by
  have stored : StoredKept v (Machine.stopTold .quick v i) := (stopTold_moves .quick v i).stored
  by_cases hi : (s.chan i).group = some g
  · have stopped := x.quickStop i
    set u := v.setChan i (chanStop v.timebase .quick (v.chan i)) with hu
    have chan : u.chan i = chanStop v.timebase .quick (v.chan i) := by simp [hu]
    by_cases hp : (v.chan i).state ≠ .parked ∧ (u.chan i).state = .parked
    · have made : Machine.stopTold .quick v i = retestPending i (tellParked i u) := by
        rw [stopTold_eq]
        unfold afterPark
        exact if_pos hp
      rw [made] at hr ⊢
      have motion : (s.chan i).state.inMotion = true := by
        have before := inMotion_of_parks hp.1 (by rw [← chan]; exact hp.2)
        rcases x.stopped i hi with e | e
        · rwa [← e]
        · by_contra rest
          rw [e.state_of_rest rest] at before
          exact rest before
      exact stopped.told hi motion (free.of_part (keepsPart_of_records _ _)) hp.2 moving hr
    · have made : Machine.stopTold .quick v i = u := by
        rw [stopTold_eq]
        unfold afterPark
        exact if_neg hp
      rwa [made]
  · cases hg : (v.chan i).group with
    | some k =>
      have other : k ≠ g := fun e => hi ((x.member i).mp (hg.trans (congrArg some e)))
      exact x.beside hc other (hushed_stopTold .quick free hg) stored
    | none =>
      rw [stopTold_ungrouped .quick hg]
      exact x.quickStop i

end Sys2Proof.Machine
end

section
/-! PROOFS. The trips of a halt, group by group (R44, R119, R151, R158): what each finds and leaves. -/

namespace Sys2Proof.Machine

open Sys2Proof.Safety

variable {s t u v w : State} {g h k : GroupId} {i j : Channel} {n : ConsoleGroup} {cause : TripCause} {l : List GroupId}

/-! ### The quick stops -/

theorem Spared.foldl_stopTold {l : List Channel} (x : Spared g s v) (hc : MembersClaimed g s) (free : Forbidden v)
    (moving : (s.grp g).state.inMove = true) (hr : TripReaches g s (l.foldl (Machine.stopTold .quick) v)) :
    Spared g s (l.foldl (Machine.stopTold .quick) v) := by
  induction l generalizing v with
  | nil => exact x
  | cons i l ih =>
    have first := subdued_stopTold free i
    have rest := subdued_foldl_stopTold (free.of_part first.part) l
    exact ih (x.stopTold hc free moving (tripReaches_of_subdued hr rest)) (free.of_part first.part) hr

/-- A quick stop tells nothing to a console group at rest or TRIPPED. -/
theorem stopTold_of_still (hi : (s.chan i).group = some (.console n)) (hs : (s.grp (.console n)).state.inMove = false) :
    stopTold .quick s i = s.setChan i (chanStop s.timebase .quick (s.chan i)) := by
  have kept := chanStop_kept s.timebase (s.chan i) .quick
  set u := s.setChan i (chanStop s.timebase .quick (s.chan i)) with hu
  have chan : u.chan i = chanStop s.timebase .quick (s.chan i) := by simp [hu]
  have told : tellParked i u = u :=
    tellParked_of_still (by rw [chan, kept.group]; exact hi) hs fun e => nomatch e
  rw [stopTold_eq]
  unfold afterPark
  split
  next hp => rw [told, retestPending_of_none (by rw [chan]; exact chanStop_startPending hp.1 (by rw [← chan]; exact hp.2))]
  next => rfl

theorem stopTold_grp_of_still (free : Forbidden s) (hs : (s.grp (.console n)).state.inMove = false) :
    (stopTold .quick s i).grp (.console n) = s.grp (.console n) := by
  cases hg : (s.chan i).group with
  | none => rw [stopTold_ungrouped .quick hg]; rfl
  | some k =>
    by_cases hk : k = .console n
    · rw [stopTold_of_still (hg.trans (congrArg some hk)) hs]; rfl
    · exact (hushed_stopTold .quick free hg).groups _ (Ne.symm hk)

theorem foldl_stopTold_grp_of_still {l : List Channel} (free : Forbidden s) (hs : (s.grp (.console n)).state.inMove = false) :
    (l.foldl (stopTold .quick) s).grp (.console n) = s.grp (.console n) := by
  induction l generalizing s with
  | nil => rfl
  | cons i l ih =>
    have first := stopTold_grp_of_still (i := i) free hs
    exact (ih (free.of_part (subdued_stopTold free i).part) (by rw [first]; exact hs)).trans first

/-! ### The turn of a group among the trips -/

/-- The turn of one group finds its record as it was, and leaves it as it will be. -/
theorem foldl_tripGroup_grp (hl : l.Nodup) (hg : g ∈ l) :
    ∃ u, u.grp g = s.grp g ∧
      (l.foldl (fun s g => tripGroup cause none g s) s).grp g = (tripGroup cause none g u).grp g := by
  have rest (l : List GroupId) (v : State) (hn : g ∉ l) :
      (l.foldl (fun s g => tripGroup cause none g s) v).grp g = v.grp g := by
    induction l generalizing v with
    | nil => rfl
    | cons k l ih =>
      obtain ⟨first, later⟩ : g ≠ k ∧ g ∉ l := by simpa using hn
      exact (ih _ later).trans ((hushed_tripGroup none).groups g first)
  induction l generalizing s with
  | nil => cases hg
  | cons k l ih =>
    obtain ⟨new, nodup⟩ := List.nodup_cons.mp hl
    rcases List.mem_cons.mp hg with rfl | later
    · exact ⟨s, rfl, rest l _ new⟩
    · obtain ⟨u, before, after⟩ := ih nodup later (s := tripGroup cause none k s)
      have first := (hushed_tripGroup (s := s) (h := k) (cause := cause) none).groups g fun e => new (e ▸ later)
      exact ⟨u, before.trans first, after⟩

theorem tripGroup_not_inMove (ch : Option Channel) : ((tripGroup cause ch g s).grp g).state.inMove = false := by
  obtain ⟨rests, counts, trips⟩ := tripGroup_cases s cause ch g
  have entered : ((enterTripped g cause ch s).grp g).state.inMove = false := by
    have records := (tripRecords_grp (s := s) (g := g) (cause := cause) ch g).trans (if_pos rfl)
    cases g with
    | console n =>
      rw [enterTripped_console_eq, State.retrip_grp, State.raise_grp, records]
      rfl
    | pendant =>
      rw [enterTripped_pendant_eq]
      rcases pendantExit_cases (tripRecords .pendant cause ch s).retrip with e | ⟨-, -, -, e⟩ <;> rw [e]
      · rw [State.retrip_grp, records]
        rfl
      · rw [pendantIdle, pendantEval_grp]
        simp [GroupState.inMove]
  cases hs : (s.grp g).state with
  | idle => rw [rests (.inl hs), hs]; rfl
  | paused => rw [rests (.inr hs), hs]; rfl
  | tripped => rw [counts hs, State.grp_setGrp, if_pos rfl]; show (s.grp g).state.inMove = false; rw [hs]; rfl
  | starting => rw [trips (by rw [hs]; rfl)]; exact entered
  | moving => rw [trips (by rw [hs]; rfl)]; exact entered
  | holding => rw [trips (by rw [hs]; rfl)]; exact entered
  | stopping => rw [trips (by rw [hs]; rfl)]; exact entered

theorem noGroupMoves_tripAll : NoGroupMoves (tripAll cause s) := by
  intro g
  obtain ⟨u, -, after⟩ := foldl_tripGroup_grp (s := s) (cause := cause) (by decide) (mem_allGroups g)
  show ((allGroups.foldl (fun s g => tripGroup cause none g s) s).grp g).state.inMove = false
  rw [after]
  exact tripGroup_not_inMove none

/-! ### The trip of a group in a move -/

/-- No trip of another group touches the channel: it is a claimed member of console group `g`, or was in the pendant group. -/
def Aloof (g : GroupId) (c : Chan) : Prop :=
  (c.group = some g ∧ (g ≠ .pendant → Claimed c)) ∨ (g = .pendant ∧ c.group = none)

theorem Aloof.same {j : Channel} (x : Aloof g (v.chan j)) (hk : k ≠ g) (b : Hushed k v w) : w.chan j = v.chan j := by
  rcases x with ⟨hj, hc⟩ | ⟨hg, hj⟩
  · exact b.outside j (fun e => hk (Option.some_inj.mp (e.symm.trans hj))) fun e => hc (by rw [← e]; exact hk.symm)
  · exact b.outside j (by rw [hj]; simp) fun e => absurd (e.trans hg.symm) hk

/-- The trips of other groups leave a group that has TRIPPED. -/
theorem trippedWith_beside (x : TrippedWith g cause none s v) (hm : ∀ j, (s.chan j).group = some g → Aloof g (v.chan j))
    (hk : k ≠ g) (b : Hushed k v w) :
    TrippedWith g cause none s w ∧ ∀ j, (s.chan j).group = some g → Aloof g (w.chan j) := by
  obtain ⟨state, trip, update, start, deadline, hold, finish, noticed, stopped⟩ := x
  have record : w.grp g = v.grp g := b.groups g hk.symm
  have same (j : Channel) (hj : (s.chan j).group = some g) : w.chan j = v.chan j := (hm j hj).same hk b
  refine ⟨?_, fun j hj => by rw [same j hj]; exact hm j hj⟩
  rw [TrippedWith, record]
  exact ⟨state, trip, update, start, deadline, hold, finish, fun n e => pendingBoth_of_keepsNotices (noticed n e) b.part.1,
    fun j hj => by rw [same j hj]; exact stopped j hj⟩

theorem trippedWith_foldl (x : TrippedWith g cause none s v) (hm : ∀ j, (s.chan j).group = some g → Aloof g (v.chan j))
    (hn : g ∉ l) : TrippedWith g cause none s (l.foldl (fun s g => tripGroup cause none g s) v) := by
  induction l generalizing v with
  | nil => exact x
  | cons k l ih =>
    obtain ⟨first, later⟩ : g ≠ k ∧ g ∉ l := by simpa using hn
    obtain ⟨y, aloof⟩ := trippedWith_beside x hm (Ne.symm first) (hushed_tripGroup (cause := cause) none)
    exact ih y aloof later

/-- The pendant group stays TRIPPED: PENB is active, or a member is not PARKED behind its quick stop. -/
theorem staysTripped_of_reaches (x : Spared g s u) (hr : TripReaches g s t) (moving : (s.grp g).state.inMove = true)
    (h : Subdued (tripGroup cause none g u) t) : StaysTripped g u := by
  intro hg
  have arb : u.arb = s.arb := x.part.2.2.2.1
  refine (hr.2.2.2 hg).imp (fun e => by rw [arb]; exact e) fun ⟨j, hj, hp⟩ => ?_
  have member : (u.chan j).group = some g := (x.member j).mpr hj
  refine ⟨j, member, fun parked => hp (h.parked j ?_)⟩
  subst hg
  have records : ((tripRecords .pendant cause none u).chan j).state = .parked := by
    rw [tripRecords_chan, if_pos member]
    exact parked
  rw [(tripGroup_cases u cause none .pendant).2.2 (by rw [x.state]; exact moving), enterTripped_pendant_eq]
  exact (hushed_pendantExit (s := (tripRecords .pendant cause none u).retrip)).parked j records

/-- A group in a move whose members have been stopped trips at its turn. -/
theorem Spared.trips (x : Spared g s v) (hc : MembersClaimed g s) (moving : (s.grp g).state.inMove = true) (hl : l.Nodup)
    (hg : g ∈ l) (hr : TripReaches g s (l.foldl (fun s g => tripGroup cause none g s) v)) :
    TrippedWith g cause none s (l.foldl (fun s g => tripGroup cause none g s) v) := by
  induction l generalizing v with
  | nil => cases hg
  | cons k l ih =>
    obtain ⟨new, nodup⟩ := List.nodup_cons.mp hl
    rcases List.mem_cons.mp hg with rfl | later
    · have stays := staysTripped_of_reaches x hr moving (subdued_foldl_tripGroup l)
      have tripped : TrippedWith g cause none s (tripGroup cause none g v) :=
        trippedWith_tripGroup (by rw [x.state]; exact moving) stays fun j hj => ⟨(x.member j).mpr hj, x.stopped j hj⟩
      have trip := hushed_tripGroup (s := v) (h := g) (cause := cause) none
      show TrippedWith g cause none s (l.foldl (fun s g => tripGroup cause none g s) (tripGroup cause none g v))
      refine trippedWith_foldl tripped (fun j hj => ?_) new
      have member := (x.member j).mpr hj
      by_cases hp : g = .pendant
      · rcases trip.taken j with e | e | e
        · exact .inl ⟨e.trans member, fun k => absurd hp k⟩
        · exact .inr ⟨hp, e⟩
        · exact .inl ⟨by rw [e, hp], fun k => absurd hp k⟩
      · obtain ⟨holder, group⟩ := trip.authority hp j
        refine .inl ⟨group.trans member, fun _ => ?_⟩
        unfold Claimed
        rw [holder]
        exact x.claimed hc hp member
    · have first := hushed_tripGroup (s := v) (h := k) (cause := cause) none
      exact ih (x.beside hc (fun e : k = g => new (e ▸ later)) first (tripGroup_moves cause none k v).stored) nodup later hr

/-! ### The whole halt -/

/-- The quick stops of every channel and the trips of every group. -/
def halted (cause : TripCause) (s : State) : State := tripAll cause (quickStopAll s)

theorem halted_moves : Moves s (halted cause s) := (quickStopAll_moves s).trans (tripAll_moves cause _)

theorem subdued_halted (free : Forbidden s) : Subdued s (halted cause s) :=
  (subdued_quickStopAll free).trans subdued_tripAll

/-- The trip of a console group that is not in a move finds it as it was. -/
theorem tripAll_grp_of_still (free : Forbidden s) (still : (s.grp (.console n)).state.inMove = false) :
    ∃ u, u.grp (.console n) = s.grp (.console n) ∧
      (halted cause s).grp (.console n) = (tripGroup cause none (.console n) u).grp (.console n) := by
  obtain ⟨u, before, after⟩ := foldl_tripGroup_grp (s := quickStopAll s) (cause := cause) (l := allGroups) (by decide)
    (mem_allGroups (.console n))
  exact ⟨u, before.trans (foldl_stopTold_grp_of_still free still), after⟩

theorem membersClaimed_of_law (law : AuthorityLaw s) (g : GroupId) : MembersClaimed g s := by
  obtain ⟨held, owners, -⟩ := law
  intro hg j hj
  cases g with
  | pendant => exact absurd rfl hg
  | console n =>
    obtain ⟨holder, owned⟩ := held n j hj
    exact ⟨by rw [holder]; exact owned, by rw [holder]; exact owners n⟩

theorem allTripped_halted (free : Forbidden s) (claimed : ∀ g, MembersClaimed g s) :
    AllTripped cause s (halted cause s) := by
  refine ⟨fun g moving hr => ?_, fun n => ⟨fun hs => ?_, fun hs => ?_⟩⟩
  · have stops : Spared g s (quickStopAll s) :=
      spared_refl.foldl_stopTold (claimed g) free moving (tripReaches_of_subdued hr subdued_tripAll)
    exact stops.trips (claimed g) moving (by decide) (mem_allGroups g) hr
  · obtain ⟨u, before, after⟩ := tripAll_grp_of_still (cause := cause) free (by rw [hs]; rfl)
    have counted := (tripGroup_cases u cause none (.console n)).2.1 (by rw [before]; exact hs)
    rw [after, counted, State.grp_setGrp, if_pos rfl, before]
    rfl
  · obtain ⟨u, before, after⟩ := tripAll_grp_of_still (cause := cause) free (by rcases hs with hs | hs <;> rw [hs] <;> rfl)
    rw [after, (tripGroup_cases u cause none (.console n)).1 (by rw [before]; exact hs), before]

/-- A halt is made: nothing runs, no group is in a move, and every group has taken the trip. -/
structure HaltMade (cause : TripCause) (s t : State) : Prop where
  nothingRuns : NothingRuns t
  noGroupMoves : NoGroupMoves t
  allTripped : (∀ g, MembersClaimed g s) → AllTripped cause s t
  stored : ∀ i, KeepsStored (s.chan i) (t.chan i) ∧ (t.chan i).position = (s.chan i).position
  faults : ∀ i, (t.chan i).faults = (s.chan i).faults
  notices : KeepsNotices s t

theorem haltMade_halted (free : Forbidden s) : HaltMade cause s (halted cause s) where
  nothingRuns := by
    have stopped := subdued_quickStopAll free
    exact (tripAll_moves cause _).nothingRuns (free.of_part stopped.part).not_mayStart
      (nothingRuns_quickStopAll free.not_mayStart)
  noGroupMoves := noGroupMoves_tripAll
  allTripped := allTripped_halted free
  stored i := (halted_moves.stored i).1
  faults := (subdued_halted free).faults
  notices := (subdued_halted (cause := cause) free).part.1

/-- What is told after a halt leaves it made. -/
theorem HaltMade.told (x : HaltMade cause s v) (hc : t.chans = v.chans) (hg : t.groups = v.groups) (hn : KeepsNotices v t) :
    HaltMade cause s t := by
  have chan (j : Channel) : t.chan j = v.chan j := congrArg (fun c : Chans Chan => c.get j) hc
  have grp (g : GroupId) : t.grp g = v.grp g := congrArg (fun r : Groups => r.get g) hg
  refine ⟨fun i => by rw [chan]; exact x.nothingRuns i, fun g => by rw [grp]; exact x.noGroupMoves g, fun claimed => ?_,
    fun i => by rw [chan]; exact x.stored i, fun i => by rw [chan]; exact x.faults i, keepsNotices_trans x.notices hn⟩
  obtain ⟨trips, rests⟩ := x.allTripped claimed
  refine ⟨fun g moving reaches => ?_, fun n => by rw [grp]; exact rests n⟩
  have before : TripReaches g s v := by simpa only [TripReaches, chan] using reaches
  obtain ⟨state, trip, update, start, deadline, hold, finish, noticed, stopped⟩ := trips g moving before
  rw [TrippedWith, grp]
  exact ⟨state, trip, update, start, deadline, hold, finish, fun n e => pendingBoth_of_keepsNotices (noticed n e) hn,
    fun j hj => by rw [chan]; exact stopped j hj⟩

end Sys2Proof.Machine
end

section
/-! PROOFS. The drive supply and the control-supply monitor (R41 to R45, R157, R158): their tables, the halts that they make, and
the statements. -/

namespace Sys2Proof.Machine

open Sys2Proof.Safety

variable {s t : State} {i : Channel}

theorem startMs_1500 (now : Time) : startMs now 1500 = some (now + 1500000) := by simp [startMs, afterMs]

/-- TRIPOUT is asserted while the E-stop is not CLEAR or control low holds (R161). -/
theorem tripoutHolds_of_stop (h : s.stops.estop ≠ .clear ∨ s.stops.monitor = .low) : s.tripoutHolds = true :=
  s.tripoutHolds_iff.mpr (h.imp_right .inl)

/-! ### The supply's table (R43) -/

theorem exec_mainsfbChange (closed : Bool) : exec (.mainsfbChange closed) s = .next (mainsfbTo closed s) := rfl

theorem exec_closingTimerExpiry : exec .closingTimerExpiry s = .next (closingExpired s) := rfl

theorem exec_settlingTimerExpiry : exec .settlingTimerExpiry s = .next (settlingExpired s) := rfl

theorem mainsfbTo_closing (hs : s.supply.state = .closing) (hm : s.supply.mainsfb = false) :
    mainsfbTo true s = { s with supply := { s.supply with
      state := .settling, mainsfb := true, closingTimer := none
      settlingTimer := some (s.timebase + 1500000) } }.raise .supply := by
  unfold mainsfbTo
  rw [hm, if_neg (by simp)]
  simp only [hs, if_true]
  unfold supplySettling supplyTo
  simp only [startMs_1500]

theorem mainsfbTo_settling (hs : s.supply.state = .settling) (hm : s.supply.mainsfb = true) :
    mainsfbTo false s = { s with supply := { s.supply with
      state := .failed, mainsfb := false, mains := false, closingTimer := none
      settlingTimer := none } }.raise .supply := by
  unfold mainsfbTo
  rw [hm, if_neg (by simp)]
  simp only [hs, Bool.false_eq_true, if_false]
  rfl

theorem mainsfbTo_on (hs : s.supply.state = .on) (hm : s.supply.mainsfb = true) :
    mainsfbTo false s = halted .supplyLost (supplyFailed { s with supply := { s.supply with mainsfb := false } }) := by
  unfold mainsfbTo
  rw [hm, if_neg (by simp)]
  simp only [hs, Bool.false_eq_true, if_false]
  rfl

theorem mainsfbTo_down (hs : s.supply.state = .off ∨ s.supply.state = .failed) (b : Bool) :
    mainsfbTo b s = { s with supply := { s.supply with mainsfb := b } } := by
  unfold mainsfbTo
  split
  next e => rw [← e]
  next => rcases hs with hs | hs <;> simp only [hs]

theorem closingExpired_closing (hs : s.supply.state = .closing) (ht : s.supply.closingTimer ≠ none) :
    closingExpired s = { s with supply := { s.supply with
      state := .failed, mains := false, closingTimer := none, settlingTimer := none } }.raise .supply :=
  if_pos ⟨hs, Option.isSome_iff_ne_none.mpr ht⟩

/-- The supply ON, before the starts pending are retested. -/
def supplyOn (s : State) : State := { s with supply := { s.supply with state := .on, settlingTimer := none } }.raise .supply

theorem settlingExpired_settling (hs : s.supply.state = .settling) (ht : s.supply.settlingTimer ≠ none) :
    settlingExpired s = channels.foldl (fun s i => retestPending i s) (supplyOn s) :=
  if_pos ⟨hs, Option.isSome_iff_ne_none.mpr ht⟩

theorem foldl_retestPending_moves (l : List Channel) : Moves s (l.foldl (fun s i => retestPending i s) s) :=
  .foldl (fun s i => retestPending_moves i s) l s

theorem foldl_retestPending_of_none (hn : ∀ i, (s.chan i).startPending = none) (l : List Channel) :
    l.foldl (fun s i => retestPending i s) s = s := by
  induction l with
  | nil => rfl
  | cons i l ih => rw [List.foldl_cons, retestPending_of_none (hn i), ih]

/-- What chains of moves keep behind a command that has written the supply and raised SUPPLY. -/
theorem keepsPart_of_supply {f : Supply} (h : KeepsPart ({ s with supply := f }.raise .supply) t) :
    KeepsPart s { t with supply := s.supply } := by
  obtain ⟨notices, -, scanner, arb, stops, settings, ports, station, time, flash, free, pending⟩ := h
  exact ⟨keepsNotices_trans (State.keepsNotices_raise { s with supply := f } .supply) notices, rfl, scanner, arb, stops, settings,
    ports, station, time, flash, free, pending⟩

/-- Settles O14, by the rows of the supply's table. -/
theorem supplyFollowsItsTable : Obligations.SupplyFollowsItsTable := by
  unfold Obligations.SupplyFollowsItsTable
  intro s
  refine ⟨fun hs hm => by rw [exec_mainsfbChange, mainsfbTo_closing hs hm],
    fun hs hm => by rw [exec_mainsfbChange, mainsfbTo_settling hs hm],
    fun hs b => by rw [exec_mainsfbChange, mainsfbTo_down hs],
    fun hs ht => by rw [exec_closingTimerExpiry, closingExpired_closing hs ht],
    fun hs ht => ⟨_, exec_settlingTimerExpiry, ?_⟩, fun hs hm => ⟨_, exec_mainsfbChange false, ?_⟩⟩
  · rw [settlingExpired_settling hs ht]
    have moves := foldl_retestPending_moves (s := supplyOn s) channels
    have part := moves.keepsPart
    have supply : (channels.foldl (fun s i => retestPending i s) (supplyOn s)).supply = (supplyOn s).supply := part.2.1
    refine ⟨by rw [supply]; rfl, by rw [supply]; rfl,
      pendingBoth_of_keepsNotices (State.pendingBoth_raise { s with supply := { s.supply with state := .on, settlingTimer := none } } _)
        part.1, by rw [supply]; rfl, fun i => (moves.stored i).1, keepsPart_of_supply part, fun hn => ?_⟩
    exact foldl_retestPending_of_none (s := supplyOn s) hn channels
  · rw [mainsfbTo_on hs hm]
    set u := supplyFailed { s with supply := { s.supply with mainsfb := false } } with hu
    have free : Forbidden u := .inr (.inr rfl)
    have made : HaltMade .supplyLost u (halted .supplyLost u) := haltMade_halted free
    have part := (subdued_halted (cause := .supplyLost) free).part
    have supply : (halted .supplyLost u).supply = u.supply := part.2.1
    refine ⟨by rw [supply]; rfl, by rw [supply]; rfl, by rw [supply]; rfl, made.nothingRuns, made.noGroupMoves,
      fun law => made.allTripped (membersClaimed_of_law (s := s) law),
      pendingBoth_of_keepsNotices (State.pendingBoth_raise { s with supply := { s.supply with
        mainsfb := false, state := .failed, mains := false, closingTimer := none, settlingTimer := none } } _) made.notices,
      fun i => ?_, keepsPart_of_supply part⟩
    obtain ⟨stored, position⟩ := made.stored i
    exact ⟨stored, position, made.faults i⟩

/-! ### The monitor (R157, R158) -/

theorem exec_vctlBelowThreshold (mv : Nat) : exec (.vctlBelowThreshold mv) s = .next (vctlTo mv s) := rfl

theorem exec_vctlAtThreshold (mv : Nat) : exec (.vctlAtThreshold mv) s = .next (vctlTo mv s) := rfl

theorem exec_lowTimerExpiry : exec .lowTimerExpiry s = .next (lowExpired s) := rfl

theorem vctlTo_normal {mv : Nat} (hs : s.stops.monitor = .normal) (hv : mv < 18000 + 500 * s.settings.level) :
    vctlTo mv s = { s with stops := { s.stops with vctl := mv, monitor := .dip, lowTimer := some (s.timebase + 10000) } } := by
  unfold vctlTo monitorCompare
  simp only [hs]
  rw [← startMs_10]
  exact if_pos hv

theorem vctlTo_dip {mv : Nat} (hs : s.stops.monitor = .dip) (hv : 18000 + 500 * s.settings.level ≤ mv) :
    vctlTo mv s = { s with stops := { s.stops with vctl := mv, monitor := .normal, lowTimer := none } } := by
  unfold vctlTo monitorCompare
  simp only [hs]
  exact if_pos hv

theorem vctlTo_low {mv : Nat} (hs : s.stops.monitor = .low) (hv : mv ≤ 18000 + 500 * s.settings.level + 500) :
    vctlTo mv s = { s with stops := { s.stops with vctl := mv } } := by
  unfold vctlTo monitorCompare
  simp only [hs]
  exact if_neg (Nat.not_lt.mpr hv)

/-- Control low begun, before the stops. -/
def lowBegun (s : State) : State := { s with stops := { s.stops with monitor := .low, lowTimer := none } }

/-- The supply OFF at the beginning of control low (R45). -/
def unpowered (s : State) : State := if s.supply.state = .off then s else supplyOff s

theorem lowExpired_eq (hs : s.stops.monitor = .dip) (ht : s.stops.lowTimer ≠ none) :
    lowExpired s = ((unpowered (halted .supplyLow (lowBegun s))).raise .supply).retrip :=
  if_pos ⟨hs, Option.isSome_iff_ne_none.mpr ht⟩

/-- What is kept behind a halt that has written the stops and the supply and raised notices. -/
theorem unpowered_eq : ∃ n, unpowered s = { s with
      notices := n
      supply := if s.supply.state = .off then s.supply else
        { s.supply with state := .off, mains := false, closingTimer := none, settlingTimer := none } } ∧
    KeepsNotices s (unpowered s) := by
  unfold unpowered
  split
  · exact ⟨_, rfl, keepsNotices_rfl⟩
  · exact ⟨_, rfl, State.keepsNotices_raise { s with supply := _ } _⟩

/-- A halt of a state that differs in the stops, the supply and the pendant's lines alone, PENB aside. -/
theorem HaltMade.before {cause : TripCause} {x : StopUnit} {a : Arbiter} {f : Supply}
    (made : HaltMade cause { s with stops := x, arb := a, supply := f } t)
    (penb : a.penb = s.arb.penb) : HaltMade cause s t where
  nothingRuns := made.nothingRuns
  noGroupMoves := made.noGroupMoves
  allTripped claimed := by
    obtain ⟨moving, still⟩ := made.allTripped claimed
    refine ⟨fun g hg reach => moving g hg ?_, still⟩
    obtain ⟨stopping, cue, switches, exits⟩ := reach
    exact ⟨stopping, cue, switches, fun hp => (exits hp).imp_left penb.trans⟩
  stored := made.stored
  faults := made.faults
  notices := made.notices

/-- The rest of the rack, where a halt by control low has written the supply, raised notices and evaluated TRIPOUT. -/
theorem keepsPart_of_low {v w : State} {n : ByConsole NoticeBox} {q : Supply} (part : KeepsPart (lowBegun s) v)
    (power : w = { v with notices := n, supply := q }) (told : KeepsNotices v w) (m : Notice) :
    KeepsPart s { (w.raise m).retrip with supply := s.supply, stops := s.stops } := by
  obtain ⟨notices, supply, scanner, arb, stops, settings, ports, station, time, flash, count, pending⟩ := part
  have kept : KeepsNotices (lowBegun s) (w.raise m) :=
    keepsNotices_trans notices (keepsNotices_trans told (State.keepsNotices_raise w m))
  subst power
  exact ⟨kept, rfl, scanner, arb, rfl, settings, ports, station, time, flash, count, pending⟩

/-- The stops behind a halt by control low. -/
theorem stops_of_low {v w : State} {n : ByConsole NoticeBox} {q : Supply} (part : KeepsPart (lowBegun s) v)
    (power : w = { v with notices := n, supply := q }) :
    w.stops.monitor = .low ∧ w.stops.lowTimer = none ∧ w.stops.estop = s.stops.estop := by
  obtain ⟨-, -, -, -, stops, -⟩ := part
  subst power
  have same : v.stops = { (lowBegun s).stops with tripout := v.stops.tripout } := stops
  exact ⟨congrArg StopUnit.monitor same, congrArg StopUnit.lowTimer same, (congrArg StopUnit.estop same :)⟩

/-- The supply behind a halt by control low is OFF (R45). -/
theorem supply_of_low {v w : State} {n : ByConsole NoticeBox} (part : KeepsPart (lowBegun s) v)
    (power : w = { v with notices := n, supply := if v.supply.state = .off then v.supply else
        { v.supply with state := .off, mains := false, closingTimer := none, settlingTimer := none } }) :
    w.supply.state = .off ∧ (s.supply.state ≠ .off →
      w.supply.mains = false ∧ w.supply.closingTimer = none ∧ w.supply.settlingTimer = none) := by
  obtain ⟨-, same, -⟩ := part
  have kept : v.supply = s.supply := same
  subst power
  rw [kept]
  by_cases off : s.supply.state = .off
  · rw [if_pos off]
    exact ⟨off, fun h => absurd off h⟩
  · rw [if_neg off]
    exact ⟨rfl, fun _ => ⟨rfl, rfl, rfl⟩⟩

/-- Settles O18, by the monitor's state. -/
theorem monitorFollowsTheSupply : Obligations.MonitorFollowsTheSupply := by
  unfold Obligations.MonitorFollowsTheSupply
  intro mv s
  refine ⟨fun hs hv => by rw [exec_vctlBelowThreshold, vctlTo_normal hs hv],
    fun hs hv => by rw [exec_vctlAtThreshold, vctlTo_dip hs hv],
    fun hs hv => ⟨by rw [exec_vctlAtThreshold, vctlTo_low hs hv], by rw [exec_vctlBelowThreshold, vctlTo_low hs hv]⟩,
    fun hs ht => ⟨_, exec_lowTimerExpiry, ?_⟩⟩
  rw [lowExpired_eq hs ht]
  have free : Forbidden (lowBegun s) := .inl (.inr rfl)
  have part := (subdued_halted (cause := .supplyLow) free).part
  have halt : HaltMade .supplyLow s (halted .supplyLow (lowBegun s)) := (haltMade_halted free).before rfl
  generalize halted .supplyLow (lowBegun s) = v at part halt ⊢
  obtain ⟨n, power, told⟩ := unpowered_eq (s := v)
  generalize unpowered v = w at power told ⊢
  obtain ⟨low, timer, estop⟩ := stops_of_low part power
  obtain ⟨off, down⟩ := supply_of_low part power
  have made : HaltMade .supplyLow s (w.raise .supply).retrip :=
    halt.told (by rw [power]; rfl) (by rw [power]; rfl) (keepsNotices_trans told (State.keepsNotices_raise w .supply))
  exact ⟨low, timer, estop, made.nothingRuns, made.noGroupMoves, fun law => made.allTripped (membersClaimed_of_law law),
    off, down, State.pendingBoth_raise w .supply, tripoutHolds_of_stop (.inr low), made.stored,
    keepsPart_of_low part power told .supply⟩

end Sys2Proof.Machine
end

section
/-! PROOFS. The emergency stop (R149 to R152): its opening halts the rack, its closing latches, and the pendant's presence acts on
the pendant group before it acts on the E-stop; the statement. -/

namespace Sys2Proof.Machine

open Sys2Proof.Safety

variable {s t u v : State} {i : Channel}

theorem exec_estinChange (closed : Bool) : exec (.estinChange closed) s = .next (estinTo closed s) := rfl

theorem exec_pstopChange (closed : Bool) : exec (.pstopChange closed) s = .next (pstopTo closed s) := rfl

theorem exec_ppresChange (present : Bool) : exec (.ppresChange present) s = .next (ppresTo present s) := rfl

theorem arb_of_keepsPart (k : KeepsPart s t) : t.arb = s.arb := by
  obtain ⟨-, -, -, arb, -⟩ := k
  exact arb

/-! ### The opening (R151) -/

/-- The E-stop ACTIVE with its cause, before the stops. -/
def estopBegun (cause : EstopCause) (s : State) : State := { s with stops := { s.stops with estop := .active, cause := cause } }

/-- What an opening leaves: the E-stop ACTIVE with its cause, a halt made, ESTOP raised and TRIPOUT asserted. -/
structure EstopOpened (cause : EstopCause) (s t : State) : Prop where
  stops : t.stops = { s.stops with estop := .active, cause := cause, tripout := true }
  halt : HaltMade .estop s t
  told : PendingBoth .estop t
  part : KeepsPart s { t with stops := s.stops }

theorem estopOpens_eq {cause : EstopCause} (ho : s.stops.estop ≠ .active) :
    estopOpens cause s = ((halted .estop (estopBegun cause s)).raise .estop).retrip := if_neg ho

theorem estopOpens_of_active {cause : EstopCause} (ho : s.stops.estop = .active) : estopOpens cause s = s := if_pos ho

/-- The stops after a halt and its notice, where the E-stop is not CLEAR. -/
theorem retrip_raise_stops {x : StopUnit} {n : Notice} (same : v.stops = { x with tripout := v.stops.tripout })
    (hx : x.estop ≠ .clear) : ((v.raise n).retrip).stops = { x with tripout := true } := by
  have estop : v.stops.estop = x.estop := (congrArg StopUnit.estop same :)
  have holds : (v.raise n).tripoutHolds = true := tripoutHolds_of_stop (.inl (estop ▸ hx))
  show { v.stops with tripout := (v.raise n).tripoutHolds } = _
  rw [holds, same]

theorem estopOpened_of_halt {cause : EstopCause} (part : KeepsPart (estopBegun cause s) v) (halt : HaltMade .estop s v) :
    EstopOpened cause s (v.raise .estop).retrip := by
  obtain ⟨notices, supply, scanner, arb, stops, settings, ports, station, time, flash, count, pending⟩ := part
  exact ⟨retrip_raise_stops stops (nomatch ·), halt.told rfl rfl (State.keepsNotices_raise v .estop),
    State.pendingBoth_raise v .estop, keepsNotices_trans notices (State.keepsNotices_raise v .estop), supply, scanner, arb, rfl,
    settings, ports, station, time, flash, count, pending⟩

theorem estopOpened_estopOpens {cause : EstopCause} (ho : s.stops.estop ≠ .active) :
    EstopOpened cause s (estopOpens cause s) := by
  have free : Forbidden (estopBegun cause s) := .inl (.inl (nomatch ·))
  rw [estopOpens_eq ho]
  exact estopOpened_of_halt (subdued_halted free).part ((haltMade_halted free).before rfl)

/-- The rest of the rack, where the E-stop and the pendant's lines have been written before and after. -/
theorem keepsPart_of_lines {x y : StopUnit} {a : Arbiter} (part : KeepsPart { s with stops := x, arb := a } { t with stops := y }) :
    KeepsPart s { t with stops := s.stops, arb := s.arb } := by
  obtain ⟨notices, supply, scanner, -, -, settings, ports, station, time, flash, count, pending⟩ := part
  exact ⟨notices, supply, scanner, rfl, rfl, settings, ports, station, time, flash, count, pending⟩

/-! ### The closing (R152) -/

theorem estopCloses_of_closed (ha : s.stops.estop = .active) (hc : s.stops.estinClosed = true) (hp : pendantStop s = false) :
    estopCloses s = { s with stops := { s.stops with estop := .latched, tripout := true } }.raise .estop := by
  set u : State := { s with stops := { s.stops with estop := .latched } } with hu
  have closes : estopCloses s = (u.raise .estop).retrip := if_pos ⟨ha, hc, hp⟩
  have holds : (u.raise .estop).tripoutHolds = true := tripoutHolds_of_stop (.inl (nomatch ·))
  rw [closes, State.retrip, holds]
  rfl

theorem estopCloses_of_open (h : s.stops.estop ≠ .active ∨ s.stops.estinClosed = false ∨ pendantStop s = true) :
    estopCloses s = s := by
  refine if_neg fun ⟨ha, hc, hp⟩ => ?_
  rcases h with h | h | h
  · exact h ha
  · rw [h] at hc; cases hc
  · rw [h] at hp; cases hp

/-! ### The pendant's presence (R96) -/

theorem presenceActs_of_idle (h : (s.grp .pendant).state = .idle) (b : Bool) : presenceActs b s = pendantEval s := by
  simp only [presenceActs, h]

theorem presenceActs_present_of_not_idle (h : (s.grp .pendant).state ≠ .idle) : presenceActs true s = s := by
  unfold presenceActs
  split
  next e => exact absurd e h
  all_goals rfl

theorem presenceActs_absent_of_stoppable
    (h : (s.grp .pendant).state = .starting ∨ (s.grp .pendant).state = .moving ∨ (s.grp .pendant).state = .holding) :
    presenceActs false s = controlledStop .pendant s := by
  rcases h with h | h | h <;> simp [presenceActs, h]

theorem presenceActs_absent_of_rest
    (h : (s.grp .pendant).state = .stopping ∨ (s.grp .pendant).state = .paused ∨ (s.grp .pendant).state = .tripped) :
    presenceActs false s = s := by
  rcases h with h | h | h <;> simp only [presenceActs, h]

/-- What a change of presence keeps: what is stored of every channel, the stops, and the rest of the part. -/
structure PresenceKept (s t : State) : Prop where
  stored : ∀ i, KeepsStored (s.chan i) (t.chan i) ∧ (t.chan i).position = (s.chan i).position
  stops : t.stops = s.stops
  part : KeepsPart s t

theorem presenceKept_refl : PresenceKept s s :=
  ⟨fun _ => ⟨⟨rfl, rfl, rfl, rfl, rfl, rfl, rfl, rfl, rfl⟩, rfl⟩, rfl, keepsPart_of_records _ _⟩

theorem presenceKept_pendantEval : PresenceKept s (pendantEval s) :=
  ⟨fun i => ((pendantEval_moves s).stored i).1, by rw [(pendantEval_eq s).1], hushed_pendantEval.part⟩

theorem presenceKept_controlledStop {g : GroupId} : PresenceKept s (controlledStop g s) :=
  ⟨(controlledStop_kept g s).1, controlledStop_stops g s, (controlledStop_kept g s).2.1⟩

theorem presenceKept_presenceActs (b : Bool) : PresenceKept s (presenceActs b s) := by
  by_cases idle : (s.grp .pendant).state = .idle
  · rw [presenceActs_of_idle idle]
    exact presenceKept_pendantEval
  · cases b with
    | true =>
      rw [presenceActs_present_of_not_idle idle]
      exact presenceKept_refl
    | false =>
      by_cases rest : (s.grp .pendant).state = .stopping ∨ (s.grp .pendant).state = .paused ∨ (s.grp .pendant).state = .tripped
      · rw [presenceActs_absent_of_rest rest]
        exact presenceKept_refl
      · have jogs : (s.grp .pendant).state = .starting ∨ (s.grp .pendant).state = .moving ∨ (s.grp .pendant).state = .holding := by
          cases hp : (s.grp .pendant).state <;> simp [hp] at idle rest ⊢
        rw [presenceActs_absent_of_stoppable jogs]
        exact presenceKept_controlledStop

/-! ### A halt behind an evaluation -/

/-- The channels of the groups in a move are the same before and after an evaluation of an IDLE pendant group. -/
structure MovesKept (s v : State) : Prop where
  groups : ∀ g, v.grp g = s.grp g
  members : ∀ g, (s.grp g).state.inMove = true → MembersClaimed g s →
    ∀ j, (s.chan j).group = some g ∨ (v.chan j).group = some g → v.chan j = s.chan j
  claimed : (∀ g, MembersClaimed g s) → ∀ g, MembersClaimed g v
  part : KeepsPart s v
  stored : ∀ i, KeepsStored (s.chan i) (v.chan i) ∧ (v.chan i).position = (s.chan i).position
  faults : ∀ i, (v.chan i).faults = (s.chan i).faults

theorem movesKept_of_chans (hc : v.chans = s.chans) (hg : v.groups = s.groups) (hp : KeepsPart s v) : MovesKept s v := by
  have chan (j : Channel) : v.chan j = s.chan j := congrArg (fun c : Chans Chan => c.get j) hc
  exact ⟨fun g => congrArg (fun r : Groups => r.get g) hg, fun _ _ _ j _ => chan j,
    fun claimed g hn j hj => by rw [chan] at hj ⊢; exact claimed g hn j hj, hp,
    fun i => by rw [chan]; exact ⟨⟨rfl, rfl, rfl, rfl, rfl, rfl, rfl, rfl, rfl⟩, rfl⟩, fun i => by rw [chan]⟩

/-- A member of a console group after an evaluation was a member of it before. -/
theorem member_of_pendantEval {n : ConsoleGroup} {j : Channel} (hj : ((pendantEval s).chan j).group = some (.console n)) :
    (s.chan j).group = some (.console n) := by
  rcases groupsTaken_pendantEval (s := s) j with k | k | k <;> rw [hj] at k
  · exact k.symm
  · cases k
  · cases k

theorem pendantEval_chan_of_claimed {n : ConsoleGroup} {j : Channel} (hj : (s.chan j).group = some (.console n))
    (hc : Claimed (s.chan j)) : (pendantEval s).chan j = s.chan j :=
  hushed_pendantEval.outside j (by rw [hj]; simp) fun _ => hc

theorem movesKept_pendantEval (idle : (s.grp .pendant).state = .idle) : MovesKept s (pendantEval s) where
  groups g := pendantEval_grp s g
  members g moving claimed j hj := by
    cases g with
    | pendant => rw [idle] at moving; cases moving
    | console n =>
      have member : (s.chan j).group = some (.console n) := hj.elim id member_of_pendantEval
      exact pendantEval_chan_of_claimed member (claimed (by simp) j member)
  claimed claimed g hn j hj := by
    cases g with
    | pendant => exact absurd rfl hn
    | console n =>
      have member := member_of_pendantEval hj
      have before := claimed _ hn j member
      rw [pendantEval_chan_of_claimed member before]
      exact before
  part := hushed_pendantEval.part
  stored i := ((pendantEval_moves s).stored i).1
  faults := hushed_pendantEval.faults

/-- A halt behind such an evaluation is a halt of the state before it. -/
theorem HaltMade.behind {cause : TripCause} (halt : HaltMade cause v t) (kept : MovesKept s v) : HaltMade cause s t where
  nothingRuns := halt.nothingRuns
  noGroupMoves := halt.noGroupMoves
  allTripped claimed := by
    obtain ⟨trips, rests⟩ := halt.allTripped (kept.claimed claimed)
    refine ⟨fun g moving reach => ?_, fun n => by rw [← kept.groups]; exact rests n⟩
    have same := kept.members g moving (claimed g)
    have before {j : Channel} (hj : (v.chan j).group = some g) : (s.chan j).group = some g := same j (.inr hj) ▸ hj
    have after {j : Channel} (hj : (s.chan j).group = some g) : (v.chan j).group = some g := by rw [same j (.inl hj)]; exact hj
    have arb : v.arb = s.arb := arb_of_keepsPart kept.part
    have reached : TripReaches g v t := by
      obtain ⟨stopping, cue, switches, exits⟩ := reach
      rw [TripReaches, kept.groups, arb]
      refine ⟨fun h => ?_, fun h => ?_, fun j hj => by rw [same j (.inr hj)]; exact switches j (before hj), fun h => ?_⟩
      · obtain ⟨j, hj, hp⟩ := stopping h
        exact ⟨j, after hj, hp⟩
      · exact (cue h).imp_right (Or.imp (fun ⟨j, hj, hp⟩ => ⟨j, after hj, hp⟩) fun ⟨j, hj, hp⟩ => ⟨j, after hj, hp⟩)
      · exact (exits h).imp_right fun ⟨j, hj, hp⟩ => ⟨j, after hj, hp⟩
    obtain ⟨state, trip, update, start, deadline, hold, finish, noticed, stopped⟩ :=
      trips g (by rw [kept.groups]; exact moving) reached
    exact ⟨state, trip, update, start, deadline, hold, finish, noticed, fun j hj => same j (.inl hj) ▸ stopped j (after hj)⟩
  stored i := by
    obtain ⟨stored, position⟩ := kept.stored i
    obtain ⟨stored', position'⟩ := halt.stored i
    exact ⟨keepsStored_trans stored stored', position'.trans position⟩
  faults i := (halt.faults i).trans (kept.faults i)
  notices := keepsNotices_trans kept.part.1 halt.notices

end Sys2Proof.Machine
end

section
/-! PROOFS. The statement of the emergency stop: the contacts' openings and closings (R150, R151, R152), and the pendant that
arrives and leaves. -/

namespace Sys2Proof.Machine

open Sys2Proof.Safety

variable {s t u v : State} {i : Channel}

/-- The rest of the rack, where the E-stop has been written before and after. -/
theorem keepsPart_of_stops {x y : StopUnit} (part : KeepsPart { s with stops := x } { t with stops := y }) :
    KeepsPart s { t with stops := s.stops } := by
  obtain ⟨notices, supply, scanner, arb, -, settings, ports, station, time, flash, count, pending⟩ := part
  exact ⟨notices, supply, scanner, arb, rfl, settings, ports, station, time, flash, count, pending⟩

/-! ### The contacts -/

theorem estinTo_opens (h : s.stops.estinClosed = true) :
    estinTo false s = estopOpens .loop { s with stops := { s.stops with estinClosed := false } } := by
  simp [estinTo, h]

theorem estinTo_closes (h : s.stops.estinClosed = false) :
    estinTo true s = estopCloses { s with stops := { s.stops with estinClosed := true } } := by
  simp [estinTo, h]

theorem pstopTo_opens (h : s.arb.pstopClosed = true) (hp : s.arb.ppres = true) :
    pstopTo false s = estopOpens .pendant { s with arb := { s.arb with pstopClosed := false } } := by
  simp [pstopTo, h, hp]

theorem pstopTo_closes (h : s.arb.pstopClosed = false) (hp : s.arb.ppres = true) :
    pstopTo true s = estopCloses { s with arb := { s.arb with pstopClosed := true } } := by
  simp [pstopTo, h, hp]

/-- An absent pendant's PSTOP is not read (R150). -/
theorem pstopTo_of_absent (hp : s.arb.ppres = false) (b : Bool) :
    pstopTo b s = { s with arb := { s.arb with pstopClosed := b } } := by
  unfold pstopTo
  split
  next h => rw [← h]
  next => simp [hp]

/-- An opening while the E-stop is ACTIVE changes the level of its contact alone. -/
theorem estinTo_of_active (ha : s.stops.estop = .active) :
    estinTo false s = { s with stops := { s.stops with estinClosed := false } } := by
  cases h : s.stops.estinClosed with
  | true =>
    rw [estinTo_opens h]
    exact estopOpens_of_active ha
  | false => rw [estinTo, if_pos h, ← h]

theorem pstopTo_of_active (ha : s.stops.estop = .active) :
    pstopTo false s = { s with arb := { s.arb with pstopClosed := false } } := by
  cases h : s.arb.pstopClosed with
  | true =>
    cases hp : s.arb.ppres with
    | true =>
      rw [pstopTo_opens h hp]
      exact estopOpens_of_active ha
    | false => exact pstopTo_of_absent hp false
  | false => rw [pstopTo, if_pos h, ← h]

/-! ### The pendant arrives and leaves (R93, R96, R150) -/

/-- PPRES written, and PENDANT raised where the first settling has ended. -/
def presenceTold (present : Bool) (s : State) : State :=
  let u : State := { s with arb := { s.arb with ppres := present } }
  if s.arb.settled then u.raise .pendant else u

theorem presenceTold_eq (b : Bool) :
    ∃ n, presenceTold b s = { s with arb := { s.arb with ppres := b }, notices := n } ∧
      KeepsNotices s (presenceTold b s) := by
  simp only [presenceTold]
  split
  · exact ⟨_, rfl, State.keepsNotices_raise { s with arb := _ } _⟩
  · exact ⟨_, rfl, keepsNotices_rfl⟩

theorem presenceTold_pendant (b : Bool) (h : s.arb.settled = true) : PendingBoth .pendant (presenceTold b s) := by
  rw [presenceTold, if_pos h]
  exact State.pendingBoth_raise { s with arb := _ } _

/-- What is told of a presence leaves a halt behind it as it is. -/
theorem movesKept_presenceTold (b : Bool) : MovesKept { s with arb := { s.arb with ppres := b } } (presenceTold b s) := by
  simp only [presenceTold]
  split
  · exact movesKept_of_chans rfl rfl (keepsPart_raise _)
  · exact movesKept_of_chans rfl rfl (keepsPart_of_records _ _)

theorem movesKept_presenceActs : MovesKept s (presenceActs true s) := by
  by_cases idle : (s.grp .pendant).state = .idle
  · rw [presenceActs_of_idle idle]
    exact movesKept_pendantEval idle
  · rw [presenceActs_present_of_not_idle idle]
    exact movesKept_of_chans rfl rfl (keepsPart_of_records _ _)

theorem keepsPart_presenceTold (b : Bool) : KeepsPart { s with arb := { s.arb with ppres := b } } (presenceTold b s) :=
  (movesKept_presenceTold b).part

theorem presenceActs_arb (a b : Bool) : (presenceActs a (presenceTold b s)).arb = { s.arb with ppres := b } :=
  (arb_of_keepsPart (presenceKept_presenceActs (s := presenceTold b s) a).part).trans
    (arb_of_keepsPart (keepsPart_presenceTold (s := s) b))

theorem presenceActs_stops (a b : Bool) : (presenceActs a (presenceTold b s)).stops = s.stops := by
  obtain ⟨n, told, -⟩ := presenceTold_eq (s := s) b
  rw [(presenceKept_presenceActs a).stops, told]

theorem ppresTo_arrives (h : s.arb.ppres = false) (hc : s.arb.pstopClosed = false) :
    ppresTo true s = estopOpens .pendant (presenceActs true (presenceTold true s)) := by
  unfold ppresTo
  rw [if_neg (by simp [h])]
  exact if_neg (c := (presenceActs true (presenceTold true s)).arb.pstopClosed = true) (by simp [presenceActs_arb, hc])

theorem ppresTo_leaves (h : s.arb.ppres = true) :
    ppresTo false s = estopCloses (presenceActs false (presenceTold false s)) := by
  unfold ppresTo
  rw [if_neg (by simp [h])]
  rfl

/-- The opening that an arriving pendant's stop makes (R150, R151). -/
theorem estopOpened_arrives (ho : s.stops.estop ≠ .active) :
    let t := estopOpens .pendant (presenceActs true (presenceTold true s))
    t.stops = { s.stops with estop := .active, cause := .pendant, tripout := true } ∧ t.arb = { s.arb with ppres := true } ∧
      HaltMade .estop s t ∧ PendingBoth .estop t ∧ (s.arb.settled = true → PendingBoth .pendant t) ∧
      KeepsPart s { t with stops := s.stops, arb := s.arb } := by
  have before := presenceActs_stops (s := s) true true
  have lines := presenceActs_arb (s := s) true true
  have acts := movesKept_presenceActs (s := presenceTold true s)
  generalize presenceActs true (presenceTold true s) = v at before lines acts ⊢
  obtain ⟨stops, halt, told, part⟩ := estopOpened_estopOpens (cause := .pendant) (s := v) (by rw [before]; exact ho)
  generalize estopOpens .pendant v = t at stops halt told part ⊢
  have arb : t.arb = v.arb := arb_of_keepsPart (t := { t with stops := v.stops }) part
  have whole : HaltMade .estop (presenceTold true s) t := halt.behind acts
  refine ⟨by rw [stops, before], arb.trans lines, (whole.behind (movesKept_presenceTold true)).before rfl, told,
    fun hs => pendingBoth_of_keepsNotices (presenceTold_pendant true hs) whole.notices, ?_⟩
  exact keepsPart_of_lines (keepsPart_trans (keepsPart_trans (keepsPart_presenceTold true) acts.part) part)

/-- What a leaving pendant makes of the E-stop and keeps (R96, R150, R152). -/
theorem estopCloses_leaves :
    let t := estopCloses (presenceActs false (presenceTold false s))
    t.arb = { s.arb with ppres := false } ∧
      (s.stops.estop = .active → s.stops.estinClosed = true →
        t.stops = { s.stops with estop := .latched, tripout := true } ∧ PendingBoth .estop t) ∧
      (s.stops.estop ≠ .active ∨ s.stops.estinClosed = false → t.stops = s.stops) ∧
      (s.arb.settled = true → PendingBoth .pendant t) ∧
      (∀ i : Channel, KeepsStored (s.chan i) (t.chan i) ∧ (t.chan i).position = (s.chan i).position) ∧
      KeepsPart s { t with stops := s.stops, arb := s.arb } := by
  have before := presenceActs_stops (s := s) false false
  have lines := presenceActs_arb (s := s) false false
  obtain ⟨stored, -, acts⟩ := presenceKept_presenceActs (s := presenceTold false s) false
  obtain ⟨n, same, -⟩ := presenceTold_eq (s := s) false
  have chan (j : Channel) : (presenceTold false s).chan j = s.chan j := by rw [same]; rfl
  generalize presenceActs false (presenceTold false s) = v at before lines acts stored ⊢
  have kept (j : Channel) : KeepsStored (s.chan j) (v.chan j) ∧ (v.chan j).position = (s.chan j).position := by
    rw [← chan j]
    exact stored j
  have pendant (hs : s.arb.settled = true) : PendingBoth .pendant v :=
    pendingBoth_of_keepsNotices (presenceTold_pendant false hs) acts.1
  have part := keepsPart_trans (keepsPart_presenceTold (s := s) false) acts
  have away : pendantStop v = false := by simp [pendantStop, lines]
  by_cases closes : s.stops.estop = .active ∧ s.stops.estinClosed = true
  · obtain ⟨ha, he⟩ := closes
    rw [estopCloses_of_closed (by rw [before]; exact ha) (by rw [before]; exact he) away]
    set w : State := { v with stops := { v.stops with estop := .latched, tripout := true } } with hw
    have raised : KeepsNotices v (w.raise .estop) := State.keepsNotices_raise w .estop
    refine ⟨lines, fun _ _ => ⟨?_, State.pendingBoth_raise w .estop⟩, fun h => ?_,
      fun hs => pendingBoth_of_keepsNotices (pendant hs) raised, kept, ?_⟩
    · show { v.stops with estop := .latched, tripout := true } = _
      rw [before]
    · exact absurd he (h.elim (absurd ha) fun h => by simp [h])
    · exact keepsPart_of_lines (y := v.stops) (keepsPart_trans part
        ⟨raised, rfl, rfl, rfl, rfl, rfl, rfl, rfl, rfl, rfl, rfl, rfl⟩)
  · have stays : v.stops.estop ≠ .active ∨ v.stops.estinClosed = false ∨ pendantStop v = true := by
      rw [before]
      exact (not_and_or.mp closes).imp_right fun h => .inl (by simpa using h)
    rw [estopCloses_of_open stays]
    exact ⟨lines, fun ha he => absurd ⟨ha, he⟩ closes, fun _ => before, pendant, kept, keepsPart_of_lines part⟩

/-- Settles O16, contact by contact. -/
theorem estopOpensAndCloses : Obligations.EstopOpensAndCloses := by
  unfold Obligations.EstopOpensAndCloses
  intro s
  refine ⟨fun hc ho => ⟨_, exec_estinChange _, ?_⟩, fun hc hp ho => ⟨_, exec_pstopChange _, ?_⟩, fun hc ha hp => ?_, fun hc h => ?_,
    fun ha => ⟨by rw [exec_estinChange, estinTo_of_active ha], by rw [exec_pstopChange, pstopTo_of_active ha]⟩,
    fun hc hp => ⟨fun ha he => ?_, fun h => ?_⟩, fun hp b => by rw [exec_pstopChange, pstopTo_of_absent hp],
    fun hp hc ho => ⟨_, exec_ppresChange _, ?_⟩, fun hp => ⟨_, exec_ppresChange _, ?_⟩⟩
  · rw [estinTo_opens hc]
    obtain ⟨stops, halt, told, part⟩ := estopOpened_estopOpens (cause := .loop)
      (s := { s with stops := { s.stops with estinClosed := false } }) ho
    have made : HaltMade .estop s _ := halt.before rfl
    exact ⟨by rw [stops], by rw [stops], by rw [stops], made.nothingRuns, made.noGroupMoves,
      fun law => made.allTripped (membersClaimed_of_law law), told, by rw [stops], made.stored, keepsPart_of_stops part⟩
  · rw [pstopTo_opens hc hp]
    obtain ⟨stops, halt, told, part⟩ := estopOpened_estopOpens (cause := .pendant)
      (s := { s with arb := { s.arb with pstopClosed := false } }) ho
    have made : HaltMade .estop s _ := halt.before rfl
    have arb := arb_of_keepsPart part
    exact ⟨by rw [stops], by rw [stops], arb, made.nothingRuns, made.noGroupMoves,
      fun law => made.allTripped (membersClaimed_of_law law), told, by rw [stops], made.stored, keepsPart_of_lines part⟩
  · rw [exec_estinChange, estinTo_closes hc]
    refine congrArg Host.Outcome.next (estopCloses_of_closed (s := { s with stops := { s.stops with estinClosed := true } }) ha rfl ?_)
    rcases hp with hp | hp <;> simp [pendantStop, hp]
  · rw [exec_estinChange, estinTo_closes hc]
    refine congrArg Host.Outcome.next (estopCloses_of_open (s := { s with stops := { s.stops with estinClosed := true } }) ?_)
    exact h.imp_right fun ⟨hp, ho⟩ => .inr (by simp [pendantStop, hp, ho])
  · rw [exec_pstopChange, pstopTo_closes hc hp]
    exact congrArg Host.Outcome.next (estopCloses_of_closed (s := { s with arb := { s.arb with pstopClosed := true } }) ha he
      (by simp [pendantStop]))
  · rw [exec_pstopChange, pstopTo_closes hc hp]
    exact congrArg Host.Outcome.next (estopCloses_of_open (s := { s with arb := { s.arb with pstopClosed := true } })
      (h.imp_right .inl))
  · rw [ppresTo_arrives hp hc]
    obtain ⟨stops, arb, halt, told, pendant, part⟩ := estopOpened_arrives ho
    exact ⟨by rw [stops], by rw [stops], arb, halt.nothingRuns, halt.noGroupMoves,
      fun law => halt.allTripped (membersClaimed_of_law law), told, pendant, by rw [stops], halt.stored, part⟩
  · rw [ppresTo_leaves hp]
    exact estopCloses_leaves

end Sys2Proof.Machine
end

section
/-! PROOFS. The pendant's buttons (R97 to R100): the jog condition, the start and the stop of a pendant jog, the exit from TRIPPED;
the statement. -/

namespace Sys2Proof.Machine

open Sys2Proof.Safety

variable {s t : State} {i : Channel} {d : Dir} {line : PendantLine} {active : Bool} {a : Arbiter} {f ramp : Nat}

theorem exec_pendantControlChange : exec (.pendantControlChange line active) s = .next (pendantLineTo line active s) := rfl

/-! ### The jog condition (R98) -/

/-- The truth table of PENB, PUP and PDN. -/
theorem jogCondition_eq_some : jogCondition a = some d ↔ JogHeld d a := by
  unfold jogCondition JogHeld
  cases d <;> cases a.penb <;> cases a.pup <;> cases a.pdn <;> simp

theorem jogCondition_eq_none : jogCondition a = none ↔ ¬JogHeld .up a ∧ ¬JogHeld .down a := by
  rw [← jogCondition_eq_some, ← jogCondition_eq_some]
  cases h : jogCondition a with
  | none => simp
  | some d => cases d <;> simp

theorem writeLine_eq : writeLine line active a = pendantLevels line active a := by cases line <;> rfl

theorem pendantLevels_of_same (h : readLine line a = active) : pendantLevels line active a = a := by
  subst h
  cases line <;> rfl

theorem pendantLevels_ppres : (pendantLevels line active a).ppres = a.ppres := by cases line <;> rfl

/-- A pendant line written. -/
def lined (line : PendantLine) (active : Bool) (s : State) : State := { s with arb := pendantLevels line active s.arb }

theorem lined_of_same (h : readLine line s.arb = active) : lined line active s = s := by rw [lined, pendantLevels_of_same h]

theorem supplyDown_eq_false :
    supplyDown s = false ↔ s.supply.state = .closing ∨ s.supply.state = .settling ∨ s.supply.state = .on := by
  unfold supplyDown
  cases s.supply.state <;> simp

/-- The start conditions of R98. -/
theorem jogMayStart_iff : jogMayStart d s = true ↔
    (s.grp .pendant).state = .idle ∧ (∃ i, (s.chan i).group = some .pendant) ∧
      s.stops.estop = .clear ∧ s.stops.monitor ≠ .low ∧ s.stops.rstin = false ∧ supplyDown s = false ∧
      ∀ i, (s.chan i).group = some .pendant →
        (s.chan i).state ≠ .faulted ∧ (s.chan i).thermal = false ∧ limitOpen (s.chan i) d = false := by
  have some_member : (((s.members .pendant).map s.chan).isEmpty = false) ↔ ∃ i, (s.chan i).group = some .pendant := by
    rw [List.isEmpty_eq_false_iff, ne_eq, List.map_eq_nil_iff, List.eq_nil_iff_forall_not_mem, not_forall]
    exact exists_congr fun i => not_not.trans (State.mem_members s .pendant i)
  unfold jogMayStart stopHolds
  simp only [Bool.and_eq_true, Bool.not_eq_true', Bool.or_eq_false_iff, decide_eq_true_eq, decide_eq_false_iff_not, some_member,
    List.all_eq_true, List.forall_mem_map, State.mem_members, not_not, and_assoc]

/-! ### A line written, by the group's state (R98, R99, R100) -/

theorem pendantLineTo_same (h : readLine line s.arb = active) : pendantLineTo line active s = lined line active s := by
  rw [lined_of_same h, pendantLineTo, if_pos h]

theorem pendantLineTo_starts (hi : (s.grp .pendant).state = .idle) (hp : s.arb.ppres = true) (hb : jogCondition s.arb = none)
    (hj : jogCondition (pendantLevels line active s.arb) = some d) (hm : jogMayStart d (lined line active s) = true) :
    pendantLineTo line active s = startJog .pendant d s.settings.pendantSpeed 10 (lined line active s) := by
  have moved : readLine line s.arb ≠ active := fun h => by
    rw [pendantLevels_of_same h, hb] at hj
    cases hj
  have idle : (State.grp { s with arb := pendantLevels line active s.arb } .pendant).state = .idle := hi
  have present : (pendantLevels line active s.arb).ppres = true := pendantLevels_ppres.trans hp
  unfold pendantLineTo
  rw [if_neg moved]
  simp only [idle, writeLine_eq, hj]
  exact if_pos ⟨present, hb, hm⟩

theorem pendantLineTo_rests (hi : (s.grp .pendant).state = .idle)
    (h : ∀ d, jogCondition (pendantLevels line active s.arb) = some d →
      ¬(s.arb.ppres = true ∧ jogCondition s.arb = none ∧ jogMayStart d (lined line active s) = true)) :
    pendantLineTo line active s = lined line active s := by
  by_cases same : readLine line s.arb = active
  · exact pendantLineTo_same same
  have idle : (State.grp { s with arb := pendantLevels line active s.arb } .pendant).state = .idle := hi
  unfold pendantLineTo
  rw [if_neg same]
  simp only [idle, writeLine_eq]
  cases hj : jogCondition (pendantLevels line active s.arb) with
  | none => rfl
  | some d => exact if_neg fun ⟨present, hb, hm⟩ => h d hj ⟨pendantLevels_ppres.symm.trans present, hb, hm⟩

theorem pendantLineTo_releases (hs : (s.grp .pendant).state.stoppable = true)
    (hb : jogCondition s.arb = some (s.grp .pendant).prof.dir)
    (hj : jogCondition (pendantLevels line active s.arb) ≠ some (s.grp .pendant).prof.dir) :
    pendantLineTo line active s = controlledStop .pendant (lined line active s) := by
  have moved : readLine line s.arb ≠ active := fun h => hj (by rw [pendantLevels_of_same h, hb])
  have released : jogReleased (s.grp .pendant).prof.dir (pendantLevels line active s.arb) = true := decide_eq_true hj
  unfold pendantLineTo
  rw [if_neg moved]
  cases hp : (s.grp .pendant).state <;> rw [hp] at hs
  case starting | moving | holding =>
    have state : (State.grp { s with arb := pendantLevels line active s.arb } .pendant).state = _ := hp
    simp only [state, writeLine_eq]
    exact if_pos released
  all_goals cases hs

theorem pendantLineTo_exits (hs : (s.grp .pendant).state = .tripped) (hb : s.arb.penb = true) :
    pendantLineTo .penb false s = pendantExit (lined .penb false s) := by
  have state : (State.grp { s with arb := writeLine .penb false s.arb } .pendant).state = .tripped := hs
  unfold pendantLineTo
  rw [if_neg (by simp [readLine, hb])]
  simp only [state]
  exact if_pos trivial

theorem pendantLineTo_stopping (hs : (s.grp .pendant).state = .stopping) :
    pendantLineTo line active s = lined line active s := by
  by_cases same : readLine line s.arb = active
  · exact pendantLineTo_same same
  have state : (State.grp { s with arb := pendantLevels line active s.arb } .pendant).state = .stopping := hs
  unfold pendantLineTo
  rw [if_neg same]
  simp only [state, writeLine_eq]
  rfl

theorem pendantExit_of_parked (hs : (s.grp .pendant).state = .tripped) (hb : s.arb.penb = false)
    (hall : ∀ i, (s.chan i).group = some .pendant → (s.chan i).state = .parked) :
    pendantExit s = pendantIdle (s.setGrp .pendant { s.grp .pendant with trip := none }) :=
  if_pos ⟨hs, hb, (s.allParked_iff .pendant).mpr hall⟩

/-! ### The statement -/

/-- The rest of the rack, where the pendant's lines have been written before. -/
theorem keepsPart_lined (h : KeepsPart (lined line active s) t) : KeepsPart s { t with arb := s.arb } := by
  obtain ⟨notices, supply, scanner, -, stops, settings, ports, station, time, flash, count, pending⟩ := h
  exact ⟨notices, supply, scanner, rfl, stops, settings, ports, station, time, flash, count, pending⟩

/-- What the start of a pendant jog leaves (R97, R98, R113, R143). -/
theorem pendantJog_spec (hj : JogHeld d s.arb) (hm : jogMayStart d s = true) :
    let t := startJog .pendant d f ramp s
    t.grp .pendant = (jogStarted .pendant d f ramp s).grp .pendant ∧ t.notices = s.notices ∧ Within .pendant s t ∧
      ∀ i, (s.chan i).group = some .pendant → Sent d (s.chan i) (t.chan i) := by
  obtain ⟨idle, -, clear, power, -, -, members⟩ := jogMayStart_iff.mp hm
  obtain ⟨only, record, sent⟩ := startJog_spec (g := .pendant) (f := f) (ramp := ramp)
    (by simp [clear, power]) fun i hi => (members i hi).2.2
  refine ⟨record, ?_, within_startJog (fun _ => hj.1) _ _, sent⟩
  rw [only.rest]
  rfl

/-- Settles O21, by the state of the pendant group. -/
theorem pendantJogStarts : Obligations.PendantJogStarts := by
  unfold Obligations.PendantJogStarts
  intro d line active s levels startable
  have starts : startable ↔ s.arb.ppres = true ∧ jogMayStart d (lined line active s) = true := by
    rw [jogMayStart_iff, supplyDown_eq_false]
    cases d
    · exact ⟨fun ⟨a, b, c, e⟩ => ⟨b, a, c, e⟩, fun ⟨b, a, c, e⟩ => ⟨a, b, c, e⟩⟩
    · exact ⟨fun ⟨a, b, c, e⟩ => ⟨b, a, c, e⟩, fun ⟨b, a, c, e⟩ => ⟨a, b, c, e⟩⟩
  refine ⟨fun hu hd hj hs => ⟨_, exec_pendantControlChange, ?_⟩, fun hi h => ?_,
    fun hs hdir hb hj => ⟨_, exec_pendantControlChange, ?_⟩, fun hs hb => ⟨fun hall => ⟨_, exec_pendantControlChange, ?_⟩, fun hk => ?_⟩, fun hs => ?_⟩
  · obtain ⟨present, may⟩ := starts.mp hs
    have idle : (s.grp .pendant).state = .idle := hs.1
    rw [pendantLineTo_starts idle present (jogCondition_eq_none.mpr ⟨hu, hd⟩) (jogCondition_eq_some.mpr hj) may]
    obtain ⟨record, notices, within, sent⟩ := pendantJog_spec (s := lined line active s) (f := s.settings.pendantSpeed) (ramp := 10)
      hj may
    rw [jogStarted_grp] at record
    refine ⟨arb_of_keepsPart within.part, by rw [record]; rfl, by rw [record]; rfl, by rw [record]; rfl,
      by rw [record]; exact startMs_3000 _, by rw [record]; rfl, fun fixed hk => ?_, fun i hi => (sent i hi).parked, within.outside,
      fun g => within.groups _ (by simp), notices, fun i => (within.kept i).stored, keepsPart_lined within.part⟩
    rw [record]
    exact jogPlanned_planJog (s := lined line active s) hk
  · refine congrArg Host.Outcome.next (pendantLineTo_rests hi fun e he ⟨present, before, may⟩ => ?_)
    obtain ⟨up, down⟩ := jogCondition_eq_none.mp before
    rcases h with h | h | h | ⟨held, h⟩
    · exact up h
    · exact down h
    · rw [jogCondition_eq_none.mpr h] at he
      cases he
    · obtain rfl : d = e := Option.some_inj.mp ((jogCondition_eq_some.mpr held).symm.trans he)
      exact h (starts.mpr ⟨present, may⟩)
  · rw [pendantLineTo_releases hs (by rw [hdir]; exact jogCondition_eq_some.mpr hb)
      (by rw [hdir]; exact mt jogCondition_eq_some.mp hj)]
    obtain ⟨stored, part, others⟩ := controlledStop_kept .pendant (lined line active s)
    exact ⟨arb_of_keepsPart part, stopMade_controlledStop (s := lined line active s) hs, fun g => others _ (by simp), stored,
      keepsPart_lined part⟩
  · rw [pendantLineTo_exits hs hb, pendantExit_of_parked (s := lined .penb false s) hs rfl hall]
    exact pendantEnds_pendantIdle (s := lined .penb false s)
  · obtain ⟨k, hk, hp⟩ := hk
    rw [exec_pendantControlChange, pendantLineTo_exits hs hb]
    exact congrArg Host.Outcome.next (pendantExit_of_not_parked (s := lined .penb false s) hk hp)
  · exact congrArg Host.Outcome.next (pendantLineTo_stopping hs)

end Sys2Proof.Machine
end

section
/-! PROOFS. A halt while the pendant group is IDLE changes no holder and no group, so that an evaluation before it stands (R95). -/

namespace Sys2Proof.Machine

open Sys2Proof.Safety

variable {s t u v : State} {i j : Channel} {cause : TripCause}

/-- No holder and no group field has changed, and the pendant group is IDLE. -/
structure AuthorityRests (s t : State) : Prop where
  authority : ∀ j, KeepsAuthority (s.chan j) (t.chan j)
  idle : (t.grp .pendant).state = .idle

theorem AuthorityRests.trans (a : AuthorityRests s t) (b : AuthorityRests t u) : AuthorityRests s u :=
  ⟨fun j => ⟨(b.authority j).1.trans (a.authority j).1, (b.authority j).2.trans (a.authority j).2⟩, b.idle⟩

/-- An operation on a console group under the prohibition. -/
theorem Hushed.authorityRests {n : ConsoleGroup} (a : Hushed (.console n) s t) (idle : (s.grp .pendant).state = .idle) :
    AuthorityRests s t :=
  ⟨a.authority (by simp), by rw [a.groups .pendant (by simp)]; exact idle⟩

theorem authorityRests_setChan_chanStop (idle : (s.grp .pendant).state = .idle) :
    AuthorityRests s (s.setChan i (chanStop s.timebase .quick (s.chan i))) := by
  refine ⟨fun j => ?_, idle⟩
  rw [State.chan_setChan]
  split
  next e =>
    have kept := chanStop_kept s.timebase (s.chan i) .quick
    rw [e]
    exact ⟨kept.holder, kept.group⟩
  next => exact ⟨rfl, rfl⟩

/-- A quick stop of a member of the IDLE pendant group tells it nothing. -/
theorem stopTold_of_idle (hi : (s.chan i).group = some .pendant) (idle : (s.grp .pendant).state = .idle) :
    stopTold .quick s i = s.setChan i (chanStop s.timebase .quick (s.chan i)) := by
  have kept := chanStop_kept s.timebase (s.chan i) .quick
  set u := s.setChan i (chanStop s.timebase .quick (s.chan i)) with hu
  have chan : u.chan i = chanStop s.timebase .quick (s.chan i) := by simp [hu]
  have told : tellParked i u = u := tellParked_of_rests (by rw [chan, kept.group]; exact hi) (.inl idle)
  rw [stopTold_eq]
  unfold afterPark
  split
  next hp => rw [told, retestPending_of_none (by rw [chan]; exact chanStop_startPending hp.1 (by rw [← chan]; exact hp.2))]
  next => rfl

theorem authorityRests_stopTold (free : Forbidden s) (idle : (s.grp .pendant).state = .idle) :
    AuthorityRests s (stopTold .quick s i) := by
  cases hg : (s.chan i).group with
  | none =>
    rw [stopTold_ungrouped .quick hg]
    exact authorityRests_setChan_chanStop idle
  | some g =>
    cases g with
    | pendant =>
      rw [stopTold_of_idle hg idle]
      exact authorityRests_setChan_chanStop idle
    | console n => exact (hushed_stopTold .quick free hg).authorityRests idle

theorem authorityRests_refl (idle : (s.grp .pendant).state = .idle) : AuthorityRests s s := ⟨fun _ => ⟨rfl, rfl⟩, idle⟩

theorem authorityRests_foldl_stopTold {l : List Channel} (free : Forbidden s) (idle : (s.grp .pendant).state = .idle) :
    AuthorityRests s (l.foldl (stopTold .quick) s) := by
  induction l generalizing s with
  | nil => exact authorityRests_refl idle
  | cons i l ih =>
    have first := authorityRests_stopTold (i := i) free idle
    exact first.trans (ih (free.of_part (subdued_stopTold free i).part) first.idle)

theorem authorityRests_tripGroup {g : GroupId} (idle : (s.grp .pendant).state = .idle) :
    AuthorityRests s (tripGroup cause none g s) := by
  cases g with
  | pendant =>
    rw [(tripGroup_cases s cause none .pendant).1 (.inl idle)]
    exact authorityRests_refl idle
  | console n => exact (hushed_tripGroup none).authorityRests idle

theorem authorityRests_foldl_tripGroup {l : List GroupId} (idle : (s.grp .pendant).state = .idle) :
    AuthorityRests s (l.foldl (fun s g => tripGroup cause none g s) s) := by
  induction l generalizing s with
  | nil => exact authorityRests_refl idle
  | cons g l ih =>
    have first := authorityRests_tripGroup (g := g) (cause := cause) idle
    exact first.trans (ih first.idle)

theorem authorityRests_halted (free : Forbidden s) (idle : (s.grp .pendant).state = .idle) :
    AuthorityRests s (halted cause s) := by
  have stopped : AuthorityRests s (quickStopAll s) := authorityRests_foldl_stopTold free idle
  exact stopped.trans (authorityRests_foldl_tripGroup stopped.idle)

/-- An opening of the E-stop while the pendant group is IDLE changes no holder and no group. -/
theorem keepsAuthority_estopOpens {c : EstopCause} (idle : (s.grp .pendant).state = .idle) (j : Channel) :
    KeepsAuthority (s.chan j) ((estopOpens c s).chan j) := by
  by_cases ho : s.stops.estop = .active
  · rw [estopOpens_of_active ho]
    exact ⟨rfl, rfl⟩
  · have free : Forbidden (estopBegun c s) := .inl (.inl (nomatch ·))
    have rested : AuthorityRests (estopBegun c s) (halted .estop (estopBegun c s)) := authorityRests_halted free idle
    have same : (estopBegun c s).chan j = s.chan j := rfl
    rw [estopOpens_eq ho, State.retrip_chan, State.raise_chan, ← same]
    exact rested.authority j

end Sys2Proof.Machine
end

section
/-! PROOFS. The pendant's switches and its presence (R93 to R96, R99): an evaluation that finds one channel to act on, a switch
written, and the statement. -/

namespace Sys2Proof.Machine

open Sys2Proof.Safety

variable {s t u v : State} {i j : Channel} {closed : Bool}

theorem exec_pselChange : exec (.pselChange i closed) s = .next (pselTo i closed s) := rfl

/-! ### An evaluation of one channel (R95) -/

/-- The evaluation finds nothing to do on channel `j`. -/
def EvalRests (j : Channel) (s : State) : Prop :=
  (inSet s.arb.psel j = true → (s.chan j).holder ≠ .none ∨ (s.chan j).state = .off) ∧
    (inSet s.arb.psel j = false → (s.chan j).holder ≠ .pendant)

theorem evalChannel_of_rests (h : EvalRests j s) : evalChannel s j = s := by
  obtain ⟨closedRests, openRests⟩ := h
  rcases evalChannel_cases s j with e | ⟨on, unheld, live, -⟩ | ⟨off, held, -⟩
  · exact e
  · rcases closedRests on with k | k
    · exact absurd unheld k
    · exact absurd k live
  · exact absurd held (openRests (by simpa using off))

theorem foldl_evalChannel_of_rests {l : List Channel} (h : ∀ j ∈ l, EvalRests j s) : l.foldl evalChannel s = s := by
  induction l with
  | nil => rfl
  | cons j l ih =>
    rw [List.foldl_cons, evalChannel_of_rests (h j (by simp))]
    exact ih fun k hk => h k (by simp [hk])

/-- The others are at rest at their turn too, before channel `i` and behind it. -/
theorem pendantEval_one (hp : s.arb.ppres = true) (others : ∀ j, j ≠ i → EvalRests j s) : pendantEval s = evalChannel s i := by
  obtain ⟨before, after, split⟩ := List.append_of_mem (mem_channels i)
  obtain ⟨-, later, apart⟩ := List.nodup_append.mp (split ▸ (by decide : channels.Nodup))
  have behind : i ∉ after := (List.nodup_cons.mp later).1
  have arb : (evalChannel s i).arb = s.arb := by rw [(evalChannel_eq s i).1]
  rw [pendantEval_of_present hp, split, List.foldl_append,
    foldl_evalChannel_of_rests fun j hj => others j (apart j hj i (by simp)), List.foldl_cons]
  refine foldl_evalChannel_of_rests fun j hj => ?_
  have differs : j ≠ i := fun e => behind (e ▸ hj)
  rw [EvalRests, arb, evalChannel_oneChannel s i j differs]
  exact others j differs

/-- The switch of a free channel of the group's kind takes it. -/
theorem evalChannel_takes (hp : inSet s.arb.psel i = true) (unheld : (s.chan i).holder = .none) (live : (s.chan i).state ≠ .off)
    (fits : PendantFits s i) : evalChannel s i = s.setChan i { s.chan i with holder := .pendant, group := some .pendant } := by
  have kind : PendantOneKind s := fun a b ha hb => (fits a ha).trans (fits b hb).symm
  have kindFits := (groupKind_fits kind).mpr fits
  unfold evalChannel
  dsimp only
  rw [if_pos hp, if_pos ⟨unheld, live, kindFits⟩]

theorem evalChannel_gives (hp : inSet s.arb.psel i = false) (held : (s.chan i).holder = .pendant) :
    evalChannel s i = s.setChan i { s.chan i with holder := .none, group := none } := by
  unfold evalChannel
  dsimp only
  rw [if_neg (by simp [hp]), if_pos held]

/-- Every channel that the pendant holds given back (R96). -/
def givenBack (cs : Chans Chan) : Chans Chan :=
  cs.mapIdx fun _ c => if c.holder = Holder.pendant then { c with holder := .none, group := none } else c

theorem pendantEval_of_absent_eq (h : s.arb.ppres = false) : pendantEval s = { s with chans := givenBack s.chans } := by
  rw [(pendantEval_eq s).1]
  refine congrArg (fun cs => { s with chans := cs }) (Chans.ext_get fun i => ?_)
  rw [givenBack, Chans.get_mapIdx]
  exact pendantEval_chan_of_absent h i

/-! ### A switch written -/

theorem inSet_writeBit {m : EightSet} : inSet (writeBit m i closed) j = if j = i then closed else inSet m j := by
  unfold inSet writeBit
  by_cases e : j = i
  · cases closed <;> simp [e]
  · have apart : j.val ≠ i.val := fun h => e (Fin.ext h)
    cases closed <;> simp [e, apart]

/-- The switch of channel `i` written. -/
def switched (i : Channel) (closed : Bool) (s : State) : State :=
  { s with arb := { s.arb with psel := writeBit s.arb.psel i closed } }

theorem inSet_switched : inSet (switched i closed s).arb.psel i = closed := by rw [switched, inSet_writeBit, if_pos rfl]

theorem inSet_switched_other (h : j ≠ i) : inSet (switched i closed s).arb.psel j = inSet s.arb.psel j := by
  rw [switched, inSet_writeBit, if_neg h]

section Moved

variable (moved : inSet s.arb.psel i = !closed)
include moved

theorem pselTo_of_idle (hs : (s.grp .pendant).state = .idle) : pselTo i closed s = pendantEval (switched i closed s) := by
  have state : (State.grp { s with arb := { s.arb with psel := writeBit s.arb.psel i closed } } .pendant).state = .idle := hs
  unfold pselTo
  rw [if_neg (by simp [moved])]
  simp only [state]
  rfl

theorem pselTo_of_stoppable (hs : (s.grp .pendant).state.stoppable = true) :
    pselTo i closed s =
      if closed = false ∧ (s.chan i).group = some .pendant then controlledStop .pendant (switched i closed s)
      else switched i closed s := by
  have member : (State.isMember { s with arb := { s.arb with psel := writeBit s.arb.psel i closed } } .pendant i = true) ↔
      (s.chan i).group = some .pendant := by
    rw [State.isMember, decide_eq_true_iff]
    rfl
  unfold pselTo
  rw [if_neg (by simp [moved])]
  cases hp : (s.grp .pendant).state <;> rw [hp] at hs
  case starting | moving | holding =>
    have state : (State.grp { s with arb := { s.arb with psel := writeBit s.arb.psel i closed } } .pendant).state = _ := hp
    simp only [state, member]
    rfl
  all_goals cases hs

end Moved

/-! ### The pendant's presence -/

theorem evalRests_of_arb (hc : u.chans = s.chans) (hp : inSet u.arb.psel j = inSet s.arb.psel j) (h : EvalRests j s) :
    EvalRests j u := by
  have chan : u.chan j = s.chan j := congrArg (fun c : Chans Chan => c.get j) hc
  rw [EvalRests, hp, chan]
  exact h

end Sys2Proof.Machine
end

section
/-! PROOFS. The statement of the pendant's switches and presence (R93 to R96, R99), and of the lamps (R94). -/

namespace Sys2Proof.Machine

open Sys2Proof.Safety

variable {s t u v : State} {i j : Channel} {closed b : Bool} {cs : Chans Chan}

/-! ### A switch while the pendant group is IDLE -/

section Switch

variable (hs : (s.grp .pendant).state = .idle) (hp : s.arb.ppres = true) (others : ∀ j, j ≠ i → EvalRests j s)
include hs hp others

theorem pselTo_takes (off : inSet s.arb.psel i = false) (unheld : (s.chan i).holder = .none) (live : (s.chan i).state ≠ .off)
    (fits : PendantFits s i) : pselTo i true s =
      { s.setChan i { s.chan i with holder := .pendant, group := some .pendant } with arb := (switched i true s).arb } := by
  have rests (j : Channel) (hj : j ≠ i) : EvalRests j (switched i true s) :=
    evalRests_of_arb (s := s) rfl (inSet_switched_other hj) (others j hj)
  rw [pselTo_of_idle off hs, pendantEval_one (s := switched i true s) hp rests,
    evalChannel_takes (s := switched i true s) inSet_switched unheld live fits]
  rfl

theorem pselTo_gives (on : inSet s.arb.psel i = true) (held : (s.chan i).holder = .pendant) : pselTo i false s =
      { s.setChan i { s.chan i with holder := .none, group := none } with arb := (switched i false s).arb } := by
  have rests (j : Channel) (hj : j ≠ i) : EvalRests j (switched i false s) :=
    evalRests_of_arb (s := s) rfl (inSet_switched_other hj) (others j hj)
  rw [pselTo_of_idle on hs, pendantEval_one (s := switched i false s) hp rests,
    evalChannel_gives (s := switched i false s) inSet_switched held]
  rfl

end Switch

/-! ### The pendant leaves -/

/-- The closing test, which a leaving pendant's own stop does not hold off (R150, R152). -/
theorem estopCloses_of_absent (hp : v.arb.ppres = false) (hv : v.stops = s.stops) : estopCloses v =
    if s.stops.estop = .active ∧ s.stops.estinClosed = true then
      { v.raise .estop with stops := { s.stops with estop := .latched, tripout := true } }
    else v := by
  have away : pendantStop v = false := by simp [pendantStop, hp]
  by_cases closes : s.stops.estop = .active ∧ s.stops.estinClosed = true
  · obtain ⟨ha, hc⟩ := closes
    rw [if_pos ⟨ha, hc⟩, estopCloses_of_closed (by rw [hv]; exact ha) (by rw [hv]; exact hc) away, hv]
    rfl
  · rw [if_neg closes]
    exact if_neg fun ⟨ha, hc, _⟩ => closes (by rw [← hv]; exact ⟨ha, hc⟩)

/-- What is told of a presence, whatever is then written of the channels. -/
theorem presenceTold_chans : { presenceTold b s with chans := cs } =
    if s.arb.settled = true then State.raise { s with arb := { s.arb with ppres := b }, chans := cs } .pendant
    else { s with arb := { s.arb with ppres := b }, chans := cs } := by
  simp only [presenceTold]
  split <;> rfl

theorem presenceTold_arb : (presenceTold b s).arb = { s.arb with ppres := b } := by
  obtain ⟨n, e, -⟩ := presenceTold_eq (s := s) b
  rw [e]

theorem presenceTold_chans_eq : (presenceTold b s).chans = s.chans := by
  obtain ⟨n, e, -⟩ := presenceTold_eq (s := s) b
  rw [e]

theorem presenceTold_stops : (presenceTold b s).stops = s.stops := by
  obtain ⟨n, e, -⟩ := presenceTold_eq (s := s) b
  rw [e]

theorem presenceTold_chan (j : Channel) : (presenceTold b s).chan j = s.chan j :=
  congrArg (fun c : Chans Chan => c.get j) presenceTold_chans_eq

theorem presenceTold_grp (g : GroupId) : (presenceTold b s).grp g = s.grp g := by
  obtain ⟨n, e, -⟩ := presenceTold_eq (s := s) b
  rw [e]
  rfl

theorem presenceTold_absent : (presenceTold false s).arb.ppres = false := by rw [presenceTold_arb]

theorem presenceTold_setChan (c : Chan) : (presenceTold b s).setChan i c =
    { presenceTold b s with chans := (s.setChan i c).chans } := by
  rw [State.setChan, presenceTold_chans_eq]
  rfl

theorem ppresTo_leaves_idle (hp : s.arb.ppres = true) (hs : (s.grp .pendant).state = .idle) :
    ppresTo false s = estopCloses { presenceTold false s with chans := givenBack s.chans } := by
  rw [ppresTo_leaves hp, presenceActs_of_idle (by rw [presenceTold_grp]; exact hs), pendantEval_of_absent_eq presenceTold_absent,
    presenceTold_chans_eq]

theorem ppresTo_leaves_rest (hp : s.arb.ppres = true) (hi : (s.grp .pendant).state ≠ .idle)
    (hs : (s.grp .pendant).state.stoppable = false) : ppresTo false s = estopCloses (presenceTold false s) := by
  have rest : (s.grp .pendant).state = .stopping ∨ (s.grp .pendant).state = .paused ∨ (s.grp .pendant).state = .tripped := by
    cases h : (s.grp .pendant).state <;> simp [h, GroupState.stoppable] at hi hs ⊢
  rw [ppresTo_leaves hp, presenceActs_absent_of_rest (by rw [presenceTold_grp]; exact rest)]

theorem estopCloses_records (v : State) :
    (estopCloses v).chans = v.chans ∧ (estopCloses v).groups = v.groups ∧ KeepsNotices v (estopCloses v) := by
  unfold estopCloses
  split
  · exact ⟨rfl, rfl, State.keepsNotices_raise { v with stops := { v.stops with estop := .latched } } .estop⟩
  · exact ⟨rfl, rfl, keepsNotices_rfl⟩

/-- A pendant that leaves during a jog stops it (R96, R99). -/
theorem ppresTo_leaves_jog (hp : s.arb.ppres = true) (hs : (s.grp .pendant).state.stoppable = true) :
    ppresTo false s = estopCloses (controlledStop .pendant (presenceTold false s)) := by
  have jogs : (s.grp .pendant).state = .starting ∨ (s.grp .pendant).state = .moving ∨ (s.grp .pendant).state = .holding := by
    cases h : (s.grp .pendant).state <;> simp [h, GroupState.stoppable] at hs ⊢
  rw [ppresTo_leaves hp, presenceActs_absent_of_stoppable (by rw [presenceTold_grp]; exact jogs)]

/-- Telling the presence and the closing test touch no member: the stop of the jog is made from the state before. -/
theorem stopMade_leaves (hs : (s.grp .pendant).state.stoppable = true) :
    StopMade .pendant s (estopCloses (controlledStop .pendant (presenceTold false s))) := by
  set u : State := { s with arb := { s.arb with ppres := false } } with hu
  obtain ⟨chans, groups, notices⟩ := estopCloses_records (controlledStop .pendant (presenceTold false s))
  have chan (j : Channel) : (presenceTold false s).chan j = u.chan j := presenceTold_chan j
  have before : SameGroup .pendant u (presenceTold false s) :=
    ⟨presenceTold_grp _, fun j _ => chan j, fun j => by rw [chan]; exact .rfl' _, keepsPart_presenceTold false⟩
  have made := stopMade_controlledStop (s := presenceTold false s) (by rw [presenceTold_grp]; exact hs)
  have last (j : Channel) : (estopCloses (controlledStop .pendant (presenceTold false s))).chan j =
      (controlledStop .pendant (presenceTold false s)).chan j := congrArg (fun c : Chans Chan => c.get j) chans
  exact stopMade_of_turn (s := u) before made (congrArg (fun r : Groups => r.get .pendant) groups) (fun j _ => by rw [last]) notices

/-! ### The pendant arrives -/

/-- An arrival that begins no E-stop. -/
theorem ppresTo_arrives_quiet (hp : s.arb.ppres = false) (hq : s.arb.pstopClosed = true ∨ s.stops.estop = .active) :
    ppresTo true s = presenceActs true (presenceTold true s) := by
  cases hc : s.arb.pstopClosed with
  | false =>
    have active : s.stops.estop = .active := hq.resolve_left (by simp [hc])
    rw [ppresTo_arrives hp hc, estopOpens_of_active (by rw [presenceActs_stops]; exact active)]
  | true =>
    unfold ppresTo
    rw [if_neg (by simp [hp])]
    exact if_pos (c := (presenceActs true (presenceTold true s)).arb.pstopClosed = true) (by simp [presenceActs_arb, hc])

theorem ppresTo_arrives_takes (hp : s.arb.ppres = false) (hs : (s.grp .pendant).state = .idle)
    (hq : s.arb.pstopClosed = true ∨ s.stops.estop = .active) (others : ∀ j, j ≠ i → EvalRests j s)
    (on : inSet s.arb.psel i = true) (unheld : (s.chan i).holder = .none) (live : (s.chan i).state ≠ .off)
    (fits : PendantFits s i) : ppresTo true s = { presenceTold true s with
      chans := (s.setChan i { s.chan i with holder := .pendant, group := some .pendant }).chans } := by
  have rests (j : Channel) (hj : j ≠ i) : EvalRests j (presenceTold true s) :=
    evalRests_of_arb presenceTold_chans_eq (by rw [presenceTold_arb]) (others j hj)
  have same := presenceTold_chan (s := s) (b := true)
  rw [ppresTo_arrives_quiet hp hq, presenceActs_of_idle (by rw [presenceTold_grp]; exact hs),
    pendantEval_one (by rw [presenceTold_arb]) rests,
    evalChannel_takes (by rw [presenceTold_arb]; exact on) (by rw [same]; exact unheld) (by rw [same]; exact live)
      (fun j hj => by rw [same] at hj ⊢; rw [same]; exact fits j hj), presenceTold_setChan, same]

/-- The evaluation that an arrival makes, whatever the E-stop then does (R95, R150). -/
theorem ppresTo_arrives_evaluated (hp : s.arb.ppres = false) (hs : (s.grp .pendant).state = .idle) :
    (ppresTo true s).arb = { s.arb with ppres := true } ∧
      PendantEvaluated { s with arb := { s.arb with ppres := true } } (ppresTo true s) := by
  set w := presenceTold true s with hw
  have idle : (w.grp .pendant).state = .idle := by rw [presenceTold_grp]; exact hs
  have acts : presenceActs true w = pendantEval w := presenceActs_of_idle idle true
  have lines : (pendantEval w).arb = { s.arb with ppres := true } := by rw [← acts, presenceActs_arb]
  have evaluated : PendantEvaluated { s with arb := { s.arb with ppres := true } } (pendantEval w) :=
    pendantEvaluated_congr (u := w) presenceTold_chans_eq (by rw [hw, presenceTold_arb]) (by rw [hw, presenceTold_arb])
      (pendantEvaluated_pendantEval w)
  by_cases quiet : s.arb.pstopClosed = true ∨ s.stops.estop = .active
  · rw [ppresTo_arrives_quiet hp quiet, acts]
    exact ⟨lines, evaluated⟩
  · obtain ⟨opened, calm⟩ := not_or.mp quiet
    have opens := ppresTo_arrives hp (by simpa using opened)
    obtain ⟨-, arb, -⟩ := estopOpened_arrives calm
    rw [acts] at opens arb
    rw [opens]
    exact ⟨arb, pendantEvaluated_of_authority evaluated (keepsAuthority_estopOpens (by rw [pendantEval_grp]; exact idle))⟩

/-! ### The statement -/

/-- Settles O20, by the state of the pendant group. -/
theorem pendantSelects : Obligations.PendantSelects := by
  unfold Obligations.PendantSelects
  intro i closed s told latched quiet others free
  have closes (v : State) (hp : v.arb.ppres = false) (hv : v.stops = s.stops) : estopCloses v = latched v :=
    estopCloses_of_absent hp hv
  have tells (b : Bool) (cs : Chans Chan) : { presenceTold b s with chans := cs } =
      told { s with arb := { s.arb with ppres := b }, chans := cs } := presenceTold_chans
  have sameStops (v : State) (hv : v.stops = s.stops) : (latched v).stops = (latched s).stops := by
    by_cases h : s.stops.estop = .active ∧ s.stops.estinClosed = true
    · rw [show latched v = _ from if_pos h, show latched s = _ from if_pos h]
    · rw [show latched v = _ from if_neg h, show latched s = _ from if_neg h, hv]
  have toldAlone (b : Bool) : presenceTold b s = told { s with arb := { s.arb with ppres := b } } := rfl
  refine ⟨fun hs hp ho => ⟨fun off hf => ?_, fun on held => ?_⟩, fun hs moved => ?_, fun hp hs => ?_, fun hp hi hs => ?_,
    fun hp hs hq ho on hf => ?_, fun hp hs => ?_, fun hp hi hq => ?_, fun hs hp => ?_, fun hs moved => ?_, ?_, rfl⟩
  · obtain ⟨unheld, live, fits⟩ := hf
    exact ⟨_, exec_pselChange.trans (congrArg _ (pselTo_takes hs hp ho off unheld live fits)), inSet_switched,
      fun j hj => inSet_switched_other hj, rfl⟩
  · exact ⟨_, exec_pselChange.trans (congrArg _ (pselTo_gives hs hp ho on held)), inSet_switched,
      fun j hj => inSet_switched_other hj, rfl⟩
  · obtain ⟨rest, chans⟩ := pendantEval_eq (switched i closed s)
    have arb : (pendantEval (switched i closed s)).arb = (switched i closed s).arb := by rw [rest]
    refine ⟨_, exec_pselChange.trans (congrArg _ (pselTo_of_idle moved hs)), ?_, fun j hj => ?_, ?_, chans, ?_⟩
    · rw [arb]; exact inSet_switched
    · rw [arb]; exact inSet_switched_other hj
    · exact pendantEvaluated_congr (u := switched i closed s) rfl rfl (by rw [arb]) (pendantEvaluated_pendantEval _)
    · rw [arb]; exact rest
  · refine congrArg Host.Outcome.next ((ppresTo_leaves_idle hp hs).trans ?_)
    exact (closes { presenceTold false s with chans := givenBack s.chans } presenceTold_absent presenceTold_stops).trans
      (congrArg latched (tells false _))
  · exact congrArg Host.Outcome.next ((ppresTo_leaves_rest hp hi hs).trans (closes _ presenceTold_absent presenceTold_stops))
  · obtain ⟨unheld, live, fits⟩ := hf
    exact congrArg Host.Outcome.next ((ppresTo_arrives_takes hp hs hq ho on unheld live fits).trans (tells true _))
  · obtain ⟨arb, evaluated⟩ := ppresTo_arrives_evaluated hp hs
    refine ⟨_, exec_ppresChange true, arb, evaluated, fun hq => ?_⟩
    have acts := (ppresTo_arrives_quiet hp hq).trans (presenceActs_of_idle (by rw [presenceTold_grp]; exact hs) true)
    rw [acts]
    obtain ⟨rest, chans⟩ := pendantEval_eq (presenceTold true s)
    refine ⟨fun j => ?_, rest.trans (tells true _)⟩
    rw [← presenceTold_chan (s := s) (b := true) j]
    exact chans j
  · refine congrArg Host.Outcome.next ((ppresTo_arrives_quiet hp hq).trans ?_)
    exact (presenceActs_present_of_not_idle (by rw [presenceTold_grp]; exact hi)).trans (toldAlone true)
  · have leaves := ppresTo_leaves_jog hp hs
    obtain ⟨-, partStop, others⟩ := controlledStop_kept .pendant (presenceTold false s)
    obtain ⟨arb, -, -, pendant, stored, part⟩ := estopCloses_leaves (s := s)
    rw [← ppresTo_leaves hp] at arb pendant stored part
    refine ⟨_, exec_ppresChange false, arb, by rw [leaves]; exact stopMade_leaves hs, pendant, ?_, fun h => ?_, stored, part⟩
    · have stops := (controlledStop_stops .pendant (presenceTold false s)).trans presenceTold_stops
      rw [leaves, closes _ (by rw [arb_of_keepsPart partStop]; exact presenceTold_absent) stops]
      exact sameStops _ stops
    · obtain ⟨-, groups, -⟩ := estopCloses_records (controlledStop .pendant (presenceTold false s))
      rw [leaves, State.grp, groups]
      exact (others _ (by simp)).trans (presenceTold_grp _)
  · refine ⟨_, exec_pselChange.trans (congrArg _ (pselTo_of_stoppable moved hs)), ?_⟩
    by_cases stops : closed = false ∧ (s.chan i).group = some .pendant
    · rw [if_pos stops]
      obtain ⟨-, part, -⟩ := controlledStop_kept .pendant (switched i closed s)
      have arb := arb_of_keepsPart part
      refine ⟨by rw [arb]; exact inSet_switched, fun j hj => by rw [arb]; exact inSet_switched_other hj,
        fun _ _ => stopMade_controlledStop (s := switched i closed s) hs, fun h => ?_⟩
      rcases h with h | h
      · exact absurd (h.symm.trans stops.1) (by simp)
      · exact absurd stops.2 h
    · rw [if_neg stops]
      exact ⟨inSet_switched, fun j hj => inSet_switched_other hj, fun hc hg => absurd ⟨hc, hg⟩ stops, fun _ => rfl⟩
  · unfold State.lamp
    simp only [Bool.and_eq_true]

end Sys2Proof.Machine
end
